-- ==== Sys2Proof/Word.lean ====
section
/-! DEFINITION. The bit-level words of the part: the bytes of its three serial lines and the registers
that the manual shifts and combines bit by bit. Everything else in the manual is an integer in a stated
unit (1.6.1, 1.6.3) and is a Nat or an Int in this model. -/

namespace Sys2Proof

/-- One character of a serial line (R164, R184, R185). -/
abbrev Byte := BitVec 8

/-- A 16-bit word: a raw conversion (R18), the CRC register (R165), the data bits of a pot entry (R46). -/
abbrev Word16 := BitVec 16

/-- A 32-bit word: one word of the AE map (R65), the masks of a SET_ITEMS reply (R174). -/
abbrev Word32 := BitVec 32

/-- A 64-bit word: the value of an event (R176, R186). -/
abbrev Word64 := BitVec 64

end Sys2Proof
end

