-- ==== Sys2Proof/Syntax.lean ====
section
/-! DEFINITION. The commands of the block, one constructor of `Instr` for each row of
spec/opcode_table.json, and the operands they carry. -/

namespace Sys2Proof

/-- A rectifier group, and the coolant loop of the same number (1.5). -/
inductive Group where
  | g1 | g2 | g3 | g4 | g5 | g6
deriving DecidableEq, Repr

/-- Groups are numbered 1 to 6 (1.6.6). -/
def Group.num : Group → Nat
  | .g1 => 1 | .g2 => 2 | .g3 => 3 | .g4 => 4 | .g5 => 5 | .g6 => 6

/-- The groups in ascending number. -/
def Group.all : List Group := [.g1, .g2, .g3, .g4, .g5, .g6]

/-- One thing for each of the six groups. -/
structure Six (α : Type) where
  a1 : α
  a2 : α
  a3 : α
  a4 : α
  a5 : α
  a6 : α
deriving DecidableEq, Repr

/-- The same thing for every group. -/
def Six.const {α : Type} (x : α) : Six α := ⟨x, x, x, x, x, x⟩

/-- The thing of group `g`. -/
def Six.get {α : Type} (v : Six α) : Group → α
  | .g1 => v.a1 | .g2 => v.a2 | .g3 => v.a3 | .g4 => v.a4 | .g5 => v.a5 | .g6 => v.a6

/-- `v` with the thing of group `g` replaced. -/
def Six.set {α : Type} (v : Six α) (g : Group) (x : α) : Six α :=
  match g with
  | .g1 => { v with a1 := x } | .g2 => { v with a2 := x } | .g3 => { v with a3 := x }
  | .g4 => { v with a4 := x } | .g5 => { v with a5 := x } | .g6 => { v with a6 := x }

/-- The six things made group by group. -/
def Six.ofFn {α : Type} (f : Group → α) : Six α := ⟨f .g1, f .g2, f .g3, f .g4, f .g5, f .g6⟩

/-- The input pins as a device reset finds them (R3, R90, R164, R170, 11.7): true is ASSERTED, and for
the baud straps 1. -/
structure Pins where
  safe    : Bool
  utility : Bool
  engKey  : Bool
  trip    : Six Bool
  baud1   : Bool
  baud0   : Bool
deriving DecidableEq, Repr

/-- What a 100 ms boundary of the time base brings (R18, R3, R119, R170): 16 raw conversions of each of
the 27 channels, and the levels read on the three level inputs. `apart` says whether the steps of this
boundary that have a row of their own in the table are left to the commands of those rows (log 2). -/
structure Boundary where
  conversions : Vector (Vector Word16 16) 27
  safe        : Bool
  utility     : Bool
  engKey      : Bool
  apart       : Bool
deriving DecidableEq, Repr

/-- The three slots of a group that can hold a backoff deadline (R93, R94, R95). -/
inductive LinkSlot where
  | command | share | stage
deriving DecidableEq, Repr

/-- The commands. A request carries no operand of its own: its fields stand in the frame at the head of
the receive queue, from which the part takes it (R168, log 1). -/
inductive Instr where
  /-- DEVICE_RESET, with the pins as they stand at its end (R181). -/
  | deviceReset (pins : Pins)
  /-- LINE_RESET request (R15, R180). -/
  | lineReset
  /-- Bytes of a frame after its SYNC arrive without a gap, up to the last CRC byte (R166). -/
  | hostFrameReceived (bytes : List Byte)
  /-- The two LEN bytes of a frame arrive (R166). -/
  | badLenAbandon (hi lo : Byte)
  /-- More than 5 ms pass after a byte of a frame (R166). -/
  | frameTimeout
  /-- The frame being sent has been sent whole (R169). -/
  | hostFrameSent
  /-- A request of unknown KIND is taken (R168). -/
  | badKindRequest
  | identify
  | getStatus
  | setItems
  | getItems
  | setScanTable
  | getScanTable
  | setTariff
  | setTime
  | run
  | hold
  | release
  | pushCeiling
  | popCeiling
  | removeCeiling
  | getStack
  | groupOrderStart
  | groupOrderStop
  | groupOrderResetTrip
  | groupOrderCapture
  | groupOrderGroupReset
  | getGroup
  | getPots
  | getAeLog
  | potSwitch
  | potSwitchDone
  | potSwitchAbort
  | setPotState
  | getEvent
  | getEnergy
  | getDemandLog
  | closePeriod
  | getPeriods
  /-- A 100 ms boundary (R28). -/
  | lineSample (b : Boundary)
  /-- The 100 ms boundary whose sample ends a recovery (R26). -/
  | lineMeasRecovery (b : Boundary)
  | demandEvaluation
  | tariffMinuteEvaluation
  | demandIntervalEnd
  | coolingSensor (g : Group)
  | coolingStop (g : Group)
  | unloadTimeEnd (g : Group)
  /-- The registered SAFE level changes to `level` (R3). -/
  | safeInputEvent (level : Bool)
  /-- The registered UTILITY level changes to `level` (R119). -/
  | utilityInputChange (level : Bool)
  /-- The registered key level changes to `level` (R170). -/
  | engKeyChange (level : Bool)
  /-- Trip input `g` has held `level` for 2 ms (R90). -/
  | tripInputEvent (g : Group) (level : Bool)
  | groupLossTimeout
  /-- The 200 ms cycle timer expires (R129). `apart` leaves a change of the TRACKING flag to TRACKING
  (log 2). -/
  | periodicCycle (apart : Bool)
  | tracking
  | orderSend
  /-- A frame is received on the group link (R101, R184). -/
  | groupReply (bytes : List Byte)
  | replyWindowExpiry
  | backoffDeadline (g : Group) (slot : LinkSlot)
  | senseTimerExpiry (g : Group)
  | scanPeriodExpiry
  /-- A reply is received whole on the scan bus (R41, R185). -/
  | moduleReply (bytes : List Byte)
  | pollWindowExpiry
  | quenchRequest (pot : Nat)
  | aeLong (pot : Nat)
  | stackEntryExpired (id : Nat)
  | switchTimeout
  /-- The byte 0xC3 is received (R166). -/
  | hostSyncFound
deriving DecidableEq, Repr

end Sys2Proof
end

