-- ==== Sys2Proof/Decode.lean ====
section
/-! DEFINITION. Reading a command from the bits of a table row. No row of spec/opcode_table.json gives
bits (every row's "fields" is empty and none has "fixed"): the commands of this block are events and
requests, not encoded words, so no word spells one. The encodings that the manual does give are those of
the frames on the three serial lines, and stand in Machine/Ops.lean and Machine/Operands.lean. -/

namespace Sys2Proof

/-- The command that the `nbits` bits `w` spell by the table: none, for every word. -/
def decodeTableWord (_nbits _w : Nat) : Option Instr := none

end Sys2Proof
end

