-- ==== Sys2Proof/Config.lean ====
section
/-! DEFINITION. What an implementation fixes: the sizes and constants that the manual states for this
part, and the open values that it leaves unstated, which are constants without a body. -/

namespace Sys2Proof

/-- The `n`-th open value of the part: a byte of a reply for which the manual states no value
(log 13, log 14). It has no body, so nothing can be proved of it. -/
opaque Config.openByte : Nat → Byte

/-- Number of pots of a line (R52). -/
abbrev Config.pots : Nat := 384

/-- Largest number of entries of the scan table (R33). -/
abbrev Config.scanEntries : Nat := 32

/-- Pot entries in one scan report segment (R45). -/
abbrev Config.segmentPots : Nat := 128

/-- Records of the AE log (R67). -/
abbrev Config.aeLogSize : Nat := 128

/-- Entries of the ceiling stack (R112). -/
abbrev Config.stackSize : Nat := 8

/-- Entries of the power ring (R151). -/
abbrev Config.ringSize : Nat := 100

/-- Records of the demand history (R154). -/
abbrev Config.demandLogSize : Nat := 96

/-- Records of the period history (R161). -/
abbrev Config.historySize : Nat := 12

/-- Frames of the receive queue (R167). -/
abbrev Config.rxQueueSize : Nat := 4

/-- Entries of the event queue (R176). -/
abbrev Config.eventQueueSize : Nat := 64

/-- Largest payload of a host link frame (R165). -/
abbrev Config.maxPayload : Nat := 1200

/-- Energy counts of one kilowatt-hour (1.6.1). -/
abbrev Config.countsPerKwh : Nat := 36000000000

/-- The bound at which a 64-bit account saturates (R149, R69). -/
abbrev Config.accountMax : Nat := 2 ^ 64 - 1

/-- The bound at which a 16-bit counter saturates (R17, R37, R167). -/
abbrev Config.counterMax : Nat := 65535

/-- Upper end of a current (1.6.1). -/
abbrev Config.currentMax : Nat := 650000

/-- Family code, part number and design revision in the reply to IDENTIFY (R179, 11.1). -/
abbrev Config.familyCode : Nat := 0x5C
abbrev Config.partNumber : Nat := 2140
abbrev Config.revision : Nat := 1

end Sys2Proof
end

