-- ==== Sys2Proof/Machine/State.lean ====
section
/-! DEFINITION. The state of the part, block by block, as plain data; the two reasons a command can
stop; and the state after a device reset. Booleans read: true is YES, SET, ASSERTED or VALID. -/

namespace Sys2Proof.Machine

/-- The reasons a command can stop the machine. The part has none: nothing in the manual stops it, and
no meaning raises one. -/
inductive Fault where
deriving DecidableEq, Repr

/-- The reasons a command is refused by the model. -/
inductive Refusal where
  /-- Raised by `exec` alone, for a command without a meaning; safe. No arm raises it. -/
  | notModelled (mnemonic : String)
deriving DecidableEq, Repr

/-! ### Time of day -/

/-- A time of day with a resolution of one tenth of a second (1.6.1, R144). -/
structure Time where
  year   : Nat
  month  : Nat
  day    : Nat
  hour   : Nat
  minute : Nat
  second : Nat
  tenth  : Nat
deriving DecidableEq, Repr

/-- 2000-01-01 00:00:00.0 (R144). -/
def Time.epoch : Time := ⟨2000, 1, 1, 0, 0, 0, 0⟩

/-- A calendar date (R146). -/
structure Date where
  year  : Nat
  month : Nat
  day   : Nat
deriving DecidableEq, Repr

/-! ### Line supervisor -/

/-- Supervisor states (R1). -/
inductive SupState where
  | setup | run | hold | safe
deriving DecidableEq, Repr

/-- Entry causes (R1). -/
inductive EntryCause where
  | deviceReset | lineReset | runRequest | holdRequest | releaseRequest | measurement | safeInput | noGroup
deriving DecidableEq, Repr

/-- Outcomes of a RUN request (R1). -/
inductive RunOutcome where
  | none | accepted | clockNotSet | noGroup | noScanTable | adoptionIncomplete | lineFault
deriving DecidableEq, Repr

/-- The supervisor record (R1), with the count of boundaries at which the SAFE pin has read otherwise
than registered (R3). The loss timer, when RUNNING, holds the boundary count at its start (R13), from
which its 5.0 s are measured (log 7). -/
structure Supervisor where
  state     : SupState
  cause     : EntryCause
  lastRun   : RunOutcome
  safeLevel : Bool
  safeRun   : Nat
  lossTimer : Option Nat
deriving DecidableEq, Repr

/-! ### Measurement front end -/

/-- A channel record (R17). -/
structure Channel where
  value      : Int
  valid      : Bool
  invalidRun : Nat
  rawMean    : Nat
deriving DecidableEq, Repr

/-- Line measurement states, which are also the selection results (R23, R24). -/
inductive LineState where
  | normal | single | disagree | fault
deriving DecidableEq, Repr

/-- The line measurement record (R24) and the selection result of the latest sample (R28). -/
structure LineRecord where
  state      : LineState
  recovery   : Nat
  current    : Nat
  voltage    : Nat
  held       : Bool
  sampleTime : Time
  selection  : LineState
deriving DecidableEq, Repr

/-- The measurement front end: 27 channel records by channel number, and the line record. -/
structure FrontEnd where
  chans : List Channel
  line  : LineRecord
deriving DecidableEq, Repr

/-! ### Pot scanning and the pot table -/

/-- An entry of the scan table (R33). -/
structure ScanEntry where
  module    : Nat
  firstChan : Nat
  count     : Nat
  firstPot  : Nat
deriving DecidableEq, Repr

/-- A running pass (R38): where it started, how many polls have had their outcome, and its start time.
The entry being polled is entry `start + done`, cyclically. -/
structure Pass where
  start     : Nat
  done      : Nat
  startTime : Time
deriving DecidableEq, Repr

/-- One pot entry of a scan report: 16 data bits and 4 tag bits (R46, R47). -/
structure PotEntry where
  data : Word16
  tags : BitVec 4
deriving DecidableEq, Repr

/-- One segment of a scan report (R45, R183). -/
structure Segment where
  passNumber : Nat
  index      : Nat
  count      : Nat
  firstEntry : Nat
  skips      : Nat
  startTime  : Time
  entries    : List PotEntry
deriving DecidableEq, Repr

/-- The pot scan controller. -/
structure Scan where
  table       : List ScanEntry
  pass        : Option Pass
  passNumber  : Nat
  rotation    : BitVec 15
  periodLeft  : Nat
  periodSkips : Nat
  segments    : List Segment
  reportSkips : Nat
  upPot       : Word16
  upPass      : Word16
  lastPoll    : List Byte
deriving DecidableEq, Repr

/-- Status of the latest fresh reading (R36). -/
inductive ReadStatus where
  | none | ok | overrange
deriving DecidableEq, Repr

/-- AE states of a pot (R52). -/
inductive AeState where
  | out | unmonitored | normal | suspect | pending | active | recovering
deriving DecidableEq, Repr

/-- The AE part of a pot record (R52). -/
structure PotAe where
  state       : AeState
  frozen      : Bool
  timer       : Nat
  pendingTime : Time
  startTime   : Time
  vRef        : Nat
  peak        : Nat
  excess      : Nat
  recover     : Nat
  quench      : Bool
  long        : Bool
  lifetime    : Nat
  spikes      : Nat
deriving DecidableEq, Repr

/-- A pot record: its voltage part and switching state (R36), and its AE part. -/
structure Pot where
  fitted     : Bool
  entry      : Nat
  cutOut     : Bool
  lastVoltage : Nat
  status     : ReadStatus
  lastFresh  : Option Time
  seeded     : Bool
  filtered   : Nat
  resistance : Nat
  stale      : Nat
  staleNow   : Bool
  ae         : PotAe
deriving DecidableEq, Repr

/-! ### Anode effect monitor -/

/-- How an AE ended (R64, section 4.5). -/
inductive EndCause where
  | normalEnd | signalLost | cutOut | lineReset
deriving DecidableEq, Repr

/-- An AE log record (R67). -/
structure AeRecord where
  number    : Nat
  pot       : Nat
  startTime : Time
  duration  : Nat
  peak      : Nat
  excess    : Nat
  cause     : EndCause
  quench    : Bool
deriving DecidableEq, Repr

/-- A 64-bit energy account with its SATURATED flag (R69, R149). -/
structure Account where
  counts    : Nat
  saturated : Bool
deriving DecidableEq, Repr

/-- The anode effect monitor's line-wide state: the AE map as twelve words (R65), its count, the hold
flag and the AE_LAMP output (R66), the closed-AE counter (R64), the log (R67), oldest first, and the
line AE excess account (R69). -/
structure AeMonitor where
  map    : List Word32
  count  : Nat
  hold   : Bool
  lamp   : Bool
  closed : Nat
  log    : List AeRecord
  excess : Account
deriving DecidableEq, Repr

/-! ### Cooling and capacity -/

/-- Cooling states of a loop (R71). -/
inductive CoolState where
  | normal | derated | critical
deriving DecidableEq, Repr

/-- A loop record (R71). -/
structure LoopRecord where
  state       : CoolState
  tempFactor  : Nat
  flowFactor  : Nat
  senseFactor : Nat
  factor      : Nat
  fault       : Bool
  dwell       : Option Nat
  begun       : Bool
  stage       : Nat
deriving DecidableEq, Repr

/-- What began an unloading (R72). -/
inductive UnloadOrigin where
  | cooling | linkRequest
deriving DecidableEq, Repr

/-- How an unloading ended (R72). -/
inductive UnloadEnd where
  | none | level | time | trip | notRunning | lineReset
deriving DecidableEq, Repr

/-- A capacity record (R72); `unloading` is the phase UNLOADING. -/
structure CapRecord where
  capacity  : Nat
  credit    : Nat
  unloading : Bool
  origin    : UnloadOrigin
  timer     : Nat
  lastEnd   : UnloadEnd
deriving DecidableEq, Repr

/-- The step of R73 at which a sample taken apart has left the evaluation of a loop, to be gone on with by
the command of that step: step 1 for COOLING_SENSOR, step 5 for COOLING_STOP (log 2). -/
inductive LoopLeft where
  | none | sensor | stop
deriving DecidableEq, Repr

/-- The cooling and capacity unit's records of one group. `left` is the model's own (log 2, log 24): it is
`none` whenever the evaluation of the loop has gone through to its end. -/
structure Cooling where
  loop : LoopRecord
  cap  : CapRecord
  left : LoopLeft
deriving DecidableEq, Repr

/-! ### Rectifier group link -/

/-- Reported states of a group (R88). -/
inductive GroupState where
  | unknown | stopped | starting | running | stopping | tripped
deriving DecidableEq, Repr

/-- A capture record (R102). -/
structure Capture where
  angle   : Nat
  tap     : Nat
  voltage : Nat
  alarms  : Nat
  time    : Time
  seq     : Nat
deriving DecidableEq, Repr

/-- A group record (R88). -/
structure GroupRecord where
  state     : GroupState
  reachable : Bool
  isLocal   : Bool
  current   : Nat
  trip      : Bool
  ackShare  : Nat
  ackStage  : Nat
  senseDue  : Bool
  seq       : Nat
  capture   : Option Capture
deriving DecidableEq, Repr

/-- Kinds of command a command slot can hold (R93). -/
inductive CmdKind where
  | start | stop | resetTrip | capture | groupReset
deriving DecidableEq, Repr

/-- Who asked for a command: a request with its TAG, or a cooling stop (R93). -/
inductive Origin where
  | linkRequest (tag : Byte)
  | cooling
deriving DecidableEq, Repr

/-- States of a command (R93); `backoff passed` is BUSY_BACKOFF, with whether its deadline has passed. -/
inductive CmdState where
  | waiting
  | sent
  | backoff (passed : Bool)
deriving DecidableEq, Repr

/-- The time of first sending: the clock time, and the boundary count by which the 2 s of R104 are
measured (log 7). -/
structure FirstSent where
  time : Time
  tick : Nat
deriving DecidableEq, Repr

/-- A command (R93). `seq` is its latest SEQ, 0 while it has never been sent; `sendable` is the STOP
sub-state SENDABLE, and is true for the other kinds. -/
structure Command where
  kind      : CmdKind
  origin    : Origin
  state     : CmdState
  seq       : Nat
  firstSent : Option FirstSent
  sendable  : Bool
deriving DecidableEq, Repr

/-- A backoff deadline of a share or stage slot (R94, R95). -/
inductive Deadline where
  | absent | running | passed
deriving DecidableEq, Repr

/-- A share or stage slot (R94, R95). -/
structure ValueSlot where
  desired  : Nat
  rejected : Bool
  deadline : Deadline
deriving DecidableEq, Repr

/-- What the group link controller keeps for one group: its record and its slots. `resetFlag` holds the
origin of the GROUP_RESET waiting behind a SENT command (R93). -/
structure GroupUnit where
  record      : GroupRecord
  command     : Option Command
  resetFlag   : Option Origin
  coolPending : Bool
  share       : ValueSlot
  stage       : ValueSlot
  senseTimer  : Bool
deriving DecidableEq, Repr

/-- What an order asks (R184), with its parameter. -/
inductive Order where
  | sense
  | setShare (share : Nat)
  | setStage (stage : Nat)
  | command (kind : CmdKind)
deriving DecidableEq, Repr

/-- The in-flight order record (R99). -/
structure InFlight where
  group  : Group
  order  : Order
  seq    : Nat
  origin : Option Origin
deriving DecidableEq, Repr

/-- The link (R99): IDLE, AWAITING_REPLY, or awaiting the end of the window of a discarded order
(R109). -/
inductive Bus where
  | idle
  | awaiting (order : InFlight)
  | draining
deriving DecidableEq, Repr

/-- The group link controller. -/
structure GroupLink where
  units      : Six GroupUnit
  bus        : Bus
  lastServed : Group
  lastOrder  : List Byte
deriving DecidableEq, Repr

/-! ### Ceiling stack -/

/-- Sources of a stack entry (R112). -/
inductive Source where
  | operator | engineer | utility | switching
deriving DecidableEq, Repr

/-- A stack entry (R112). -/
structure StackEntry where
  id      : Nat
  source  : Source
  ceiling : Nat
  rate    : Option Nat
  life    : Option Nat
  pushed  : Time
deriving DecidableEq, Repr

/-- Phases of a pot switching procedure (section 7.4). -/
inductive SwitchPhase where
  | none | lowering | ready
deriving DecidableEq, Repr

/-- Kinds of a pot switching procedure (R121). -/
inductive SwitchKind where
  | none | cutOut | cutIn
deriving DecidableEq, Repr

/-- How a procedure ended (R121). -/
inductive SwitchEnd where
  | none | done | aborted | timeout | lineReset
deriving DecidableEq, Repr

/-- The pot switching record (R121). -/
structure Switching where
  phase    : SwitchPhase
  pot      : Nat
  kind     : SwitchKind
  entry    : Nat
  accepted : Option Time
  timer    : Nat
  lastEnd  : SwitchEnd
deriving DecidableEq, Repr

/-- The ceiling stack, its entries from the top downward (R112), the utility contact (R119) and the
pot switching record. -/
structure CeilingStack where
  entries      : List StackEntry
  nextId       : Nat
  utility      : Bool
  assertCount  : Nat
  releaseCount : Nat
  switching    : Switching
deriving DecidableEq, Repr

/-! ### Line regulator -/

/-- Governing terms (R127). -/
inductive Governing where
  | none | utility | switching | top | trim | base
deriving DecidableEq, Repr

/-- Last steps (R127). -/
inductive LastStep where
  | none | up | down | heldAe | heldState
deriving DecidableEq, Repr

/-- The regulator record (R127) and the cycle timer (R129). -/
structure Regulator where
  applied    : Nat
  previous   : Nat
  desired    : Nat
  governing  : Governing
  lastStep   : LastStep
  limited    : Bool
  tracking   : Bool
  outside    : Nat
  inside     : Nat
  capacityC  : Nat
  frozenZ    : Nat
  amount     : Nat
  shares     : Six (Option Nat)
  cycleTimer : Bool
deriving DecidableEq, Repr

/-- The regulator record after a device reset or a line reset (R127). -/
def Regulator.initial : Regulator :=
  { applied := 0, previous := 0, desired := 0, governing := .none, lastStep := .none, limited := false,
    tracking := false, outside := 0, inside := 0, capacityC := 0, frozenZ := 0, amount := 0,
    shares := Six.const none, cycleTimer := false }

/-! ### Energy and demand -/

/-- Day types (R144). -/
inductive DayType where
  | weekday | weekend | holiday
deriving DecidableEq, Repr

/-- A switch point of a tariff table (section 9.2). -/
structure TariffPoint where
  minute : Nat
  bucket : Nat
deriving DecidableEq, Repr

/-- Three tariff tables and a holiday list (R146). -/
structure Tariff where
  weekday  : List TariffPoint
  weekend  : List TariffPoint
  holiday  : List TariffPoint
  holidays : List Date
deriving DecidableEq, Repr

/-- One entry of the power ring (R151). -/
structure RingEntry where
  power   : Nat
  voltage : Nat
deriving DecidableEq, Repr

/-- The flags of a demand interval (R152). -/
structure IntervalFlags where
  shortened   : Bool
  limited     : Bool
  aeHeld      : Bool
  estimated   : Bool
  clockNotSet : Bool
deriving DecidableEq, Repr

/-- Every flag clear (R152). -/
def IntervalFlags.clear : IntervalFlags := ⟨false, false, false, false, false⟩

/-- The open demand interval (R152); `flags.shortened` is PARTIAL. -/
structure Interval where
  start       : Time
  stop        : Time
  length      : Nat
  t           : Nat
  energy      : Nat
  flags       : IntervalFlags
  unavoidable : Bool
deriving DecidableEq, Repr

/-- A demand record (R154). -/
structure DemandRecord where
  stop   : Time
  length : Nat
  demand : Nat
  flags  : IntervalFlags
deriving DecidableEq, Repr

/-- The limiter record (R157). -/
structure Limiter where
  active      : Bool
  trim        : Option Nat
  projection  : Nat
  projectionT : Nat
  voltage     : Nat
deriving DecidableEq, Repr

/-- The period flags (R159). -/
structure PeriodFlags where
  saturated     : Bool
  estimated     : Bool
  clockNotSet   : Bool
  shortenedSeen : Bool
deriving DecidableEq, Repr

/-- Every period flag clear (R159). -/
def PeriodFlags.clear : PeriodFlags := ⟨false, false, false, false⟩

/-- The open billing period: the period maximum with the end time of its interval (R156), the opened
time and the flags (R159). -/
structure Period where
  maximum : Nat
  maxTime : Option Time
  opened  : Time
  flags   : PeriodFlags
deriving DecidableEq, Repr

/-- A closed-period record (R160). -/
structure PeriodRecord where
  opened  : Time
  closed  : Time
  kwh     : List Nat
  total   : Nat
  maximum : Nat
  maxTime : Option Time
  aeKwh   : Nat
  flags   : PeriodFlags
deriving DecidableEq, Repr

/-- The energy and demand unit. Histories, log and ring are oldest first. -/
structure Energy where
  time          : Time
  clockSet      : Bool
  dayType       : DayType
  bucket        : Nat
  tariff        : Tariff
  tariffPending : Option Tariff
  accounts      : List Account
  lifetime      : Account
  ring          : List RingEntry
  interval      : Interval
  demandLog     : List DemandRecord
  limiter       : Limiter
  period        : Period
  history       : List PeriodRecord
deriving DecidableEq, Repr

/-! ### Host link and event queue -/

/-- A good frame (R165). -/
structure Frame where
  kind    : Byte
  tag     : Byte
  flags   : Byte
  payload : List Byte
deriving DecidableEq, Repr

/-- The receiver (R166); when GATHERING it holds the bytes received after SYNC. -/
inductive Receiver where
  | hunting
  | gathering (got : List Byte)
deriving DecidableEq, Repr

/-- The transmitter (R169), with the bytes of the frame being sent. -/
inductive Transmitter where
  | idle
  | sendingReply (frame : List Byte)
  | sendingReport (frame : List Byte)
deriving DecidableEq, Repr

/-- The host link: receiver, receive queue oldest first, the four link counters (R167), transmitter,
the reply waiting to be sent (R169), the rate straps read (R164) and the registered key level with the
count of boundaries at which its pin has read otherwise (R170). -/
structure HostLink where
  receiver    : Receiver
  queue       : List Frame
  badLen      : Nat
  timeouts    : Nat
  crcErrors   : Nat
  overruns    : Nat
  transmitter : Transmitter
  waiting     : Option (List Byte)
  baudCode    : Nat
  keyLevel    : Bool
  keyRun      : Nat
deriving DecidableEq, Repr

/-- Event kinds (R186). -/
inductive EventKind where
  | resetDone | supState | groupState | orderDone | aeEnd | potSuspect | stackChange | switch | clockSet
  | lineMeas | tracking | capacityLimit | groupLocal | orderFailed | coolingState | coolingSensor
  | aeStart | aeHold | scanFault | utility | demandLimit | demandVoltage
  | safe | lineFault | groupTrip | groupUnreachable | coolingStop | quenchRequest | aeLong
  | demandUnavoidable | energySaturated
deriving DecidableEq, Repr

/-- An entry of the event queue (R176). -/
structure Event where
  kind    : EventKind
  subject : Nat
  value   : Word64
  first   : Time
  last    : Time
  count   : Nat
deriving DecidableEq, Repr

/-- The event queue in creation order, the OVERRUN flag (R176) and the ATTN output (R178). -/
structure EventQueue where
  entries : List Event
  overrun : Bool
  attn    : Bool
deriving DecidableEq, Repr

/-- The settings store (R172): the values of the items that differ from their defaults, by item
identifier, in rising order; an item not listed has its default. -/
abbrev Settings := List (Nat × Int)

/-! ### The state -/

/-- The whole part. `pending`, `free` and `ticks` are the model's own: the waiting commands, the index
of the next open value (log 24), and the boundaries counted since the device reset (R32). -/
structure State where
  pending  : List Instr
  free     : Nat
  ticks    : Nat
  pins     : Pins
  sup      : Supervisor
  front    : FrontEnd
  scan     : Scan
  pots     : List Pot
  ae       : AeMonitor
  cool     : Six Cooling
  link     : GroupLink
  stack    : CeilingStack
  reg      : Regulator
  energy   : Energy
  host     : HostLink
  settings : Settings
  events   : EventQueue
deriving DecidableEq, Repr

/-! ### Named updates of one block each -/

def State.setFree (s : State) (x : Nat) : State := { s with free := x }
def State.setTicks (s : State) (x : Nat) : State := { s with ticks := x }
def State.setPins (s : State) (x : Pins) : State := { s with pins := x }
def State.setSup (s : State) (x : Supervisor) : State := { s with sup := x }
def State.setFront (s : State) (x : FrontEnd) : State := { s with front := x }
def State.setScan (s : State) (x : Scan) : State := { s with scan := x }
def State.setPots (s : State) (x : List Pot) : State := { s with pots := x }
def State.setAe (s : State) (x : AeMonitor) : State := { s with ae := x }
def State.setCool (s : State) (x : Six Cooling) : State := { s with cool := x }
def State.setLink (s : State) (x : GroupLink) : State := { s with link := x }
def State.setStack (s : State) (x : CeilingStack) : State := { s with stack := x }
def State.setReg (s : State) (x : Regulator) : State := { s with reg := x }
def State.setEnergy (s : State) (x : Energy) : State := { s with energy := x }
def State.setHost (s : State) (x : HostLink) : State := { s with host := x }
def State.setSettings (s : State) (x : Settings) : State := { s with settings := x }
def State.setEvents (s : State) (x : EventQueue) : State := { s with events := x }

/-! ### Values after a device reset -/

/-- A channel record after a device reset (R17). -/
def Channel.initial : Channel := ⟨0, false, 0, 0⟩

/-- The AE part of a pot record after a device reset (R52). -/
def PotAe.initial : PotAe :=
  { state := .out, frozen := false, timer := 0, pendingTime := Time.epoch, startTime := Time.epoch,
    vRef := 0, peak := 0, excess := 0, recover := 0, quench := false, long := false, lifetime := 0,
    spikes := 0 }

/-- A pot record after a device reset (R36, R52). -/
def Pot.initial : Pot :=
  { fitted := false, entry := 0, cutOut := false, lastVoltage := 0, status := .none, lastFresh := none,
    seeded := false, filtered := 0, resistance := 0, stale := 0, staleNow := false, ae := PotAe.initial }

/-- A loop record after a device reset (R71). -/
def LoopRecord.initial : LoopRecord :=
  { state := .normal, tempFactor := 1000, flowFactor := 1000, senseFactor := 1000, factor := 1000,
    fault := false, dwell := none, begun := false, stage := 0 }

/-- A capacity record after a device reset (R72). -/
def CapRecord.initial : CapRecord :=
  { capacity := 0, credit := 0, unloading := false, origin := .cooling, timer := 0, lastEnd := .none }

/-- The records of a loop and its group after a device reset, and once unfitted (R71 to R73). -/
def Cooling.initial : Cooling := ⟨LoopRecord.initial, CapRecord.initial, .none⟩

/-- A group record after a device reset, with its trip pin (R88). -/
def GroupRecord.initial (trip : Bool) : GroupRecord :=
  { state := .unknown, reachable := true, isLocal := false, current := 0, trip := trip, ackShare := 0,
    ackStage := 0, senseDue := true, seq := 0, capture := none }

/-- A share or stage slot after a device reset (R94, R95). -/
def ValueSlot.initial : ValueSlot := ⟨0, false, .absent⟩

/-- A group's record and slots after a device reset (R88, R93 to R95, R100). -/
def GroupUnit.initial (trip : Bool) : GroupUnit :=
  { record := GroupRecord.initial trip, command := none, resetFlag := none, coolPending := false,
    share := ValueSlot.initial, stage := ValueSlot.initial, senseTimer := false }

/-- The limiter record after a device reset or a line reset (R157). The t kept with the projection, for which
the manual gives no value then, is 0 (DESIGN CHOICE, unsafe, log 39). -/
def Limiter.initial : Limiter :=
  { active := false, trim := none, projection := 0, projectionT := 0, voltage := 0 }

/-- An empty account (R69, R149). -/
def Account.zero : Account := ⟨0, false⟩

/-- A tariff of one point, minute 0 in bucket 0, in every table, and no holidays (R146). -/
def Tariff.initial : Tariff := ⟨[⟨0, 0⟩], [⟨0, 0⟩], [⟨0, 0⟩], []⟩

/-- The energy and demand unit after a device reset (R144, R146, R149, R151, R152, R154, R156, R157,
R159, R161); the open interval ends 15 minutes after it starts, DEMAND_MINUTES being at its default. -/
def Energy.initial : Energy :=
  { time := Time.epoch, clockSet := false, dayType := .weekend, bucket := 0, tariff := Tariff.initial,
    tariffPending := none, accounts := List.replicate 4 Account.zero, lifetime := Account.zero, ring := [],
    interval := { start := Time.epoch, stop := ⟨2000, 1, 1, 0, 15, 0, 0⟩, length := 9000, t := 0,
                  energy := 0, flags := IntervalFlags.clear, unavoidable := false },
    demandLog := [], limiter := Limiter.initial,
    period := { maximum := 0, maxTime := none, opened := Time.epoch, flags := PeriodFlags.clear },
    history := [] }

/-- The pot switching record after a device reset (R121). -/
def Switching.initial : Switching :=
  { phase := .none, pot := 0, kind := .none, entry := 0, accepted := none, timer := 0, lastEnd := .none }

/-- The entry RESET_DONE with cause DEVICE that a device reset posts (R181, R186). -/
def Event.deviceResetDone : Event :=
  { kind := .resetDone, subject := 0, value := 0x0100000000000000#64, first := Time.epoch,
    last := Time.epoch, count := 1 }

/-- The part at the end of a device reset that found its pins at `p`, before the test of the SAFE level
that R12 lays down: every field at the value its chapter gives. -/
def State.afterReset (p : Pins) : State :=
  { pending := [], free := 0, ticks := 0, pins := p,
    sup := { state := .setup, cause := .deviceReset, lastRun := .none, safeLevel := p.safe, safeRun := 0,
             lossTimer := none },
    front := { chans := List.replicate 27 Channel.initial,
               line := { state := .fault, recovery := 0, current := 0, voltage := 0, held := true,
                         sampleTime := Time.epoch, selection := .fault } },
    scan := { table := [], pass := none, passNumber := 0, rotation := 1#15, periodLeft := 10,
              periodSkips := 0, segments := [], reportSkips := 0, upPot := 0#16, upPass := 0#16,
              lastPoll := [] },
    pots := List.replicate Config.pots Pot.initial,
    ae := { map := List.replicate 12 0#32, count := 0, hold := false, lamp := false, closed := 0, log := [],
            excess := Account.zero },
    cool := Six.const Cooling.initial,
    link := { units := Six.ofFn fun g => GroupUnit.initial (p.trip.get g), bus := .idle, lastServed := .g6,
              lastOrder := [] },
    stack := { entries := [], nextId := 1, utility := false, assertCount := 0, releaseCount := 0,
               switching := Switching.initial },
    reg := Regulator.initial,
    energy := Energy.initial,
    host := { receiver := .hunting, queue := [], badLen := 0, timeouts := 0, crcErrors := 0, overruns := 0,
              transmitter := .idle, waiting := none, baudCode := 2 * p.baud1.toNat + p.baud0.toNat,
              keyLevel := p.engKey, keyRun := 0 },
    settings := [],
    events := { entries := [Event.deviceResetDone], overrun := false, attn := false } }

/-- The pins that the model takes for `State.reset`: every input deasserted and both straps 0. The
manual leaves them to the board (DESIGN CHOICE, unsafe, log 6). -/
def State.resetPins : Pins := ⟨false, false, false, Six.const false, false, false⟩

/-- The machine right after a device reset (R1, R181 and the rules named above). -/
def State.reset : State := State.afterReset State.resetPins

end Sys2Proof.Machine
end

