-- ==== Sys2Proof/Machine/Settings.lean ====
section
/-! DEFINITION. The settings store (R172): every item of the settings index (11.6), its identifier,
range, default, authority and class, and reading and writing its value. -/

namespace Sys2Proof.Machine

/-- Group items (section 5.1). -/
inductive GroupItem where
  | fitted | rated | joinRate | unloadLevel | unloadTime
deriving DecidableEq, Repr

/-- Loop items (section 5.1). -/
inductive LoopItem where
  | derate (k : Fin 8) | flowMin | flowFactor | sensorFactor | critTemp | critDwell | stageOn (k : Fin 3)
deriving DecidableEq, Repr

/-- The items of the settings index (11.6). -/
inductive Item where
  | lineMax | lineFloor | baseSetpoint | rampUp | rampDown | rampUtility | trackTol | lcurTol
  | group (g : Group) (i : GroupItem)
  | loop (g : Group) (i : LoopItem)
  | stageHyst
  | aeOn | aeOff | recoverScans | quenchDelay | aeLong | aeHoldCount | filterShift | backEmf
  | suspectRes | suspectHyst | scanPeriod | scanRotate
  | utilityCeiling | switchCeiling | switchTol | switchTimeout
  | demandMinutes | contractKw | marginKw | releaseKw | vValidMin
  | telEnable | telSlot (k : Fin 4) | telData | attnLevel
  | offset (n : Fin 27) | span (n : Fin 27)
deriving DecidableEq, Repr

/-- Offset of a group item (11.6). -/
def GroupItem.at : GroupItem → Nat
  | .fitted => 0 | .rated => 1 | .joinRate => 2 | .unloadLevel => 3 | .unloadTime => 4

/-- Offset of a loop item (11.6). -/
def LoopItem.at : LoopItem → Nat
  | .derate k => k.val | .flowMin => 8 | .flowFactor => 9 | .sensorFactor => 10 | .critTemp => 11
  | .critDwell => 12 | .stageOn k => 13 + k.val

/-- The 16-bit identifier of an item (11.6). -/
def Item.id : Item → Nat
  | .lineMax => 0x0101 | .lineFloor => 0x0102 | .baseSetpoint => 0x0103 | .rampUp => 0x0104
  | .rampDown => 0x0105 | .rampUtility => 0x0106 | .trackTol => 0x0107 | .lcurTol => 0x0108
  | .group g i => 0x0200 + 16 * (g.num - 1) + i.at
  | .loop g i => 0x0300 + 16 * (g.num - 1) + i.at
  | .stageHyst => 0x0370
  | .aeOn => 0x0401 | .aeOff => 0x0402 | .recoverScans => 0x0403 | .quenchDelay => 0x0404
  | .aeLong => 0x0405 | .aeHoldCount => 0x0406 | .filterShift => 0x0407 | .backEmf => 0x0408
  | .suspectRes => 0x0409 | .suspectHyst => 0x040A | .scanPeriod => 0x040B | .scanRotate => 0x040C
  | .utilityCeiling => 0x0501 | .switchCeiling => 0x0502 | .switchTol => 0x0503 | .switchTimeout => 0x0504
  | .demandMinutes => 0x0601 | .contractKw => 0x0602 | .marginKw => 0x0603 | .releaseKw => 0x0604
  | .vValidMin => 0x0605
  | .telEnable => 0x0701 | .telSlot k => 0x0702 + k.val | .telData => 0x0706 | .attnLevel => 0x0707
  | .offset n => 0x0800 + 2 * n.val | .span n => 0x0801 + 2 * n.val

/-- The items of one group. -/
def GroupItem.all : List GroupItem := [.fitted, .rated, .joinRate, .unloadLevel, .unloadTime]

/-- The items of one loop. -/
def LoopItem.all : List LoopItem :=
  [.derate 0, .derate 1, .derate 2, .derate 3, .derate 4, .derate 5, .derate 6, .derate 7,
   .flowMin, .flowFactor, .sensorFactor, .critTemp, .critDwell, .stageOn 0, .stageOn 1, .stageOn 2]

/-- The items that do not belong to a group, a loop or a channel. -/
def Item.common : List Item :=
  [.lineMax, .lineFloor, .baseSetpoint, .rampUp, .rampDown, .rampUtility, .trackTol, .lcurTol, .stageHyst,
   .aeOn, .aeOff, .recoverScans, .quenchDelay, .aeLong, .aeHoldCount, .filterShift, .backEmf,
   .suspectRes, .suspectHyst, .scanPeriod, .scanRotate,
   .utilityCeiling, .switchCeiling, .switchTol, .switchTimeout,
   .demandMinutes, .contractKw, .marginKw, .releaseKw, .vValidMin,
   .telEnable, .telSlot 0, .telSlot 1, .telSlot 2, .telSlot 3, .telData, .attnLevel]

/-- Every item (11.6). -/
def Item.all : List Item :=
  Item.common
    ++ Group.all.flatMap (fun g => GroupItem.all.map (.group g))
    ++ Group.all.flatMap (fun g => LoopItem.all.map (.loop g))
    ++ (List.finRange 27).map .offset
    ++ (List.finRange 27).map .span

/-- The item with identifier `n`, if the part knows one (R173 check 2, R175). -/
def Item.ofId? (n : Nat) : Option Item := Item.all.find? (fun i => i.id == n)

/-- A DERATE_PT value: the temperature in the upper half, the factor in the lower (R172). -/
def packDerate (temp factor : Int) : Int := temp * 65536 + factor

/-- The temperature of a DERATE_PT value, a signed 16-bit number (R172). -/
def derateTemp (v : Int) : Int := v / 65536

/-- The factor of a DERATE_PT value (R172). -/
def derateFactor (v : Int) : Int := v % 65536

/-- The default derate curve (R74). -/
def derateDefault : Fin 8 → Int
  | 0 => packDerate 450 1000 | 1 => packDerate 500 980 | 2 => packDerate 550 950 | 3 => packDerate 600 900
  | 4 => packDerate 620 850 | 5 => packDerate 640 800 | 6 => packDerate 660 700 | 7 => packDerate 700 500

/-- What an item admits (11.6): a range, a list of codes, a derate point, or a clamping range that
depends on LINE_FLOOR and LINE_MAX. -/
inductive Admits where
  | range (lo hi : Int)
  | oneOf (codes : List Int)
  | deratePoint
  | floorToMax
  | zeroToMax
deriving DecidableEq, Repr

/-- One row of the settings index (11.6): what the item admits, its default, whether it clamps, whether
ENGINEER authority is needed to write it, and whether it is SETUP_ONLY. -/
structure ItemRow where
  admits    : Admits
  dflt      : Int
  clamps    : Bool
  engineer  : Bool
  setupOnly : Bool
deriving DecidableEq, Repr

/-- A refusing item. -/
def ItemRow.plain (lo hi dflt : Int) (engineer setupOnly : Bool) : ItemRow :=
  ⟨.range lo hi, dflt, false, engineer, setupOnly⟩

/-- A clamping item, LIVE. -/
def ItemRow.clamping (lo hi dflt : Int) (engineer : Bool) : ItemRow :=
  ⟨.range lo hi, dflt, true, engineer, false⟩

/-- Channels 9 to 20 are temperatures (section 2.1). -/
def isTemperature (n : Nat) : Bool := decide (9 ≤ n ∧ n ≤ 20)

/-- Default OFFSET of a channel (section 2.3). -/
def offsetDefault (n : Nat) : Int := if isTemperature n then -200 else 0

/-- Default SPAN of a channel (section 2.3). -/
def spanDefault (n : Nat) : Int :=
  if n = 2 then 2000000 else if n < 9 then 650000 else if n ≤ 20 then 1700 else 5000

/-- The settings index, group items (11.6). -/
def GroupItem.row : GroupItem → ItemRow
  | .fitted => ⟨.oneOf [0, 1], 0, false, true, true⟩
  | .rated => .plain 1000 130000 100000 true true
  | .joinRate => .clamping 100 20000 2000 true
  | .unloadLevel => .plain 0 20000 2000 true false
  | .unloadTime => .plain 5 300 30 true false

/-- The settings index, loop items (11.6). -/
def LoopItem.row : LoopItem → ItemRow
  | .derate k => ⟨.deratePoint, derateDefault k, false, true, true⟩
  | .flowMin => .plain 0 5000 400 true false
  | .flowFactor => .plain 0 1000 500 true false
  | .sensorFactor => .plain 0 1000 800 true false
  | .critTemp => .plain (-200) 1500 650 true false
  | .critDwell => .plain 5 120 20 true false
  | .stageOn k => .plain (-200) 1500 (match k with | 0 => 350 | 1 => 420 | 2 => 480) true false

/-- The settings index (11.6). -/
def Item.row : Item → ItemRow
  | .lineMax => .plain 0 650000 600000 true true
  | .lineFloor => .plain 0 650000 350000 true true
  | .baseSetpoint => ⟨.floorToMax, 500000, true, false, false⟩
  | .rampUp => .clamping 10 20000 1000 false
  | .rampDown => .clamping 10 20000 2000 false
  | .rampUtility => .clamping 100 50000 10000 true
  | .trackTol => .plain 500 50000 5000 true false
  | .lcurTol => .plain 1 100 10 true true
  | .group _ i => i.row
  | .loop _ i => i.row
  | .stageHyst => .plain 0 100 20 true false
  | .aeOn => .plain 5000 40000 8000 true false
  | .aeOff => .plain 4000 39500 6000 true false
  | .recoverScans => .plain 2 10 3 true false
  | .quenchDelay => .plain 5 600 30 true false
  | .aeLong => .plain 60 3600 300 true false
  | .aeHoldCount => .plain 1 8 2 true false
  | .filterShift => .plain 1 6 3 true true
  | .backEmf => .plain 1000 2500 1650 true true
  | .suspectRes => .plain 0 50000 0 false false
  | .suspectHyst => .plain 0 5000 100 false false
  | .scanPeriod => .plain 5 100 10 true true
  | .scanRotate => ⟨.oneOf [0, 1], 1, false, true, true⟩
  | .utilityCeiling => ⟨.zeroToMax, 420000, true, true, false⟩
  | .switchCeiling => ⟨.zeroToMax, 300000, true, true, false⟩
  | .switchTol => .plain 0 20000 2000 true false
  | .switchTimeout => .plain 60 3600 900 true false
  | .demandMinutes => ⟨.oneOf [5, 6, 10, 12, 15, 20, 30, 60], 15, false, true, true⟩
  | .contractKw => .plain 0 2000000 0 true false
  | .marginKw => .plain 0 100000 5000 true false
  | .releaseKw => .plain 0 100000 2000 true false
  | .vValidMin => .plain 0 2000000 100000 true false
  | .telEnable => ⟨.oneOf [0, 1], 0, false, false, false⟩
  | .telSlot k => .plain 0 11 (match k with | 0 => 1 | 1 => 2 | 2 => 3 | 3 => 9) false false
  | .telData => .plain 0 6 0 false false
  | .attnLevel => .plain 0 2 1 false false
  | .offset n => .plain (-2000000) 2000000 (offsetDefault n.val) true true
  | .span n => .plain 0 4000000 (spanDefault n.val) true true

/-! ### The store -/

/-- The value listed for identifier `k`. -/
def Settings.find : Settings → Nat → Option Int
  | [], _ => none
  | (k', v) :: rest, k => if k' = k then some v else Settings.find rest k

/-- The list with `k` listed at `v`, in rising order of identifiers. -/
def Settings.insert : Settings → Nat → Int → Settings
  | [], k, v => [(k, v)]
  | (k', v') :: rest, k, v =>
    if k < k' then (k, v) :: (k', v') :: rest
    else if k = k' then (k, v) :: rest
    else (k', v') :: Settings.insert rest k v

/-- The list without `k`. -/
def Settings.drop : Settings → Nat → Settings
  | [], _ => []
  | (k', v') :: rest, k => if k' = k then rest else (k', v') :: Settings.drop rest k

/-- The value of an item as it stands (R172). -/
def Settings.get (st : Settings) (i : Item) : Int := (st.find i.id).getD i.row.dflt

/-- The store with item `i` at `v`; an item at its default is not listed. -/
def Settings.put (st : Settings) (i : Item) (v : Int) : Settings :=
  if v = i.row.dflt then st.drop i.id else st.insert i.id v

/-- The canonical form of the store: identifiers strictly rising, each that of an item, and no item
listed at its default. -/
def Settings.wf : Settings → Bool
  | [] => true
  | (k, v) :: rest =>
    (match Item.ofId? k with
     | some i => decide (v ≠ i.row.dflt)
     | none => false)
    && (match rest with
        | [] => true
        | (k', _) :: _ => decide (k < k'))
    && Settings.wf rest

/-- The value of an item in a state. -/
def State.cfg (s : State) (i : Item) : Int := s.settings.get i

/-- The value of an item that cannot be negative, as a Nat. -/
def State.cfgN (s : State) (i : Item) : Nat := (s.cfg i).toNat

/-- LINE_MAX (R127). -/
def State.lineMax (s : State) : Nat := s.cfgN .lineMax

/-- `v` brought into `lo..hi` (1.6.7). With `hi` below `lo`, as BASE_SETPOINT's span can stand between two
pairs of one request, the result is `lo` (DESIGN CHOICE, unsafe, log 18). -/
def clampInt (lo hi v : Int) : Int := max lo (min hi v)

/-- Whether a refusing item takes the value `v` (R173 check 3); a clamping item takes any. -/
def Item.accepts (i : Item) (v : Int) : Bool :=
  i.row.clamps ||
    match i.row.admits with
    | .range lo hi => decide (lo ≤ v ∧ v ≤ hi)
    | .oneOf codes => decide (v ∈ codes)
    | .deratePoint =>
      decide (-200 ≤ derateTemp v ∧ derateTemp v ≤ 1500 ∧ 0 ≤ derateFactor v ∧ derateFactor v ≤ 1000)
    | .floorToMax => true
    | .zeroToMax => true

/-- The value stored when `v` is written to item `i` of the store `st` (R174): clamped, for a clamping
item, into its range as it then stands. -/
def Item.stored (i : Item) (st : Settings) (v : Int) : Int :=
  if i.row.clamps then
    match i.row.admits with
    | .range lo hi => clampInt lo hi v
    | .floorToMax => clampInt (st.get .lineFloor) (st.get .lineMax) v
    | .zeroToMax => clampInt 0 (st.get .lineMax) v
    | .oneOf _ => v
    | .deratePoint => v
  else v

/-- The store after the pair `(i, v)` has been applied, with the re-clamp of BASE_SETPOINT that a write
of LINE_FLOOR or LINE_MAX brings (R128). -/
def Settings.apply (st : Settings) (i : Item) (v : Int) : Settings :=
  let st1 := st.put i (i.stored st v)
  if i = .lineMax ∨ i = .lineFloor then
    st1.put .baseSetpoint (Item.stored .baseSetpoint st1 (st1.get .baseSetpoint))
  else st1

end Sys2Proof.Machine
end

