-- ==== Sys2Proof/Machine/Ops.lean ====
section
/-! DEFINITION. The shared operations: bytes and the CRC, the calendar, access to one record of a block,
saturating arithmetic, open values, and the event queue. -/

namespace Sys2Proof.Machine

/-! ### Bytes (R182: most significant byte first) -/

/-- The `n` bytes of `v`, most significant first. -/
def beBytes : Nat → Nat → List Byte
  | 0, _ => []
  | n + 1, v => beBytes n (v / 256) ++ [BitVec.ofNat 8 v]

/-- The `n` bytes of a two's complement `v`. -/
def beSigned (n : Nat) (v : Int) : List Byte := beBytes n (v % (256 ^ n : Nat)).toNat

/-- The unsigned number that the bytes spell. -/
def beNat (bytes : List Byte) : Nat := bytes.foldl (fun acc b => 256 * acc + b.toNat) 0

/-- The two's complement number that four bytes spell. -/
def beInt32 (bytes : List Byte) : Int :=
  let v := beNat bytes
  if v < 2 ^ 31 then (v : Int) else (v : Int) - 2 ^ 32

/-- One byte for a YES/NO, SET/CLEAR or ASSERTED/DEASSERTED field (R182). -/
def flagByte (b : Bool) : List Byte := [if b then 1#8 else 0#8]

/-- An optional value of `n` bytes: one byte of presence and the value, 0 when absent (R182). -/
def optBytes (n : Nat) : Option Nat → List Byte
  | some v => 1#8 :: beBytes n v
  | none => 0#8 :: beBytes n 0

/-! ### The CRC (R165) -/

/-- One shift of the CRC register. -/
def crcShift (r : Word16) : Word16 := if r.msb then (r <<< 1) ^^^ 0x1021#16 else r <<< 1

/-- `n` shifts of the CRC register. -/
def crcShifts : Nat → Word16 → Word16
  | 0, r => r
  | n + 1, r => crcShifts n (crcShift r)

/-- One byte into the CRC register. -/
def crcByte (r : Word16) (b : Byte) : Word16 := crcShifts 8 (r ^^^ (b.setWidth 16 <<< 8))

/-- The CRC of a run of bytes. -/
def crc (bytes : List Byte) : Word16 := bytes.foldl crcByte 0xFFFF#16

/-- A run of bytes followed by its CRC. -/
def withCrc (bytes : List Byte) : List Byte := bytes ++ beBytes 2 (crc bytes).toNat

/-- Whether the last two bytes are the CRC of those before them. -/
def crcGood (bytes : List Byte) : Bool :=
  let n := bytes.length - 2
  decide (2 ≤ bytes.length) && beNat (bytes.drop n) == (crc (bytes.take n)).toNat

/-! ### The calendar (R144) -/

/-- A leap year is every year divisible by 4 (R144). -/
def isLeap (year : Nat) : Bool := year % 4 == 0

/-- Length of a month (R144). -/
def monthLength (year month : Nat) : Nat :=
  match month with
  | 2 => if isLeap year then 29 else 28
  | 4 | 6 | 9 | 11 => 30
  | _ => 31

/-- Whether a year, month and day are a date of the calendar of R144. -/
def dateOk (year month day : Nat) : Bool :=
  decide (2000 ≤ year ∧ year ≤ 2099 ∧ 1 ≤ month ∧ month ≤ 12 ∧ 1 ≤ day ∧ day ≤ monthLength year month)

/-- The same time on the day after (R144): 2099-12-31 leads to 2000-01-01. -/
def Time.nextDay (x : Time) : Time :=
  if x.day < monthLength x.year x.month then { x with day := x.day + 1 }
  else if x.month < 12 then { x with month := x.month + 1, day := 1 }
  else if x.year < 2099 then { x with year := x.year + 1, month := 1, day := 1 }
  else { x with year := 2000, month := 1, day := 1 }

/-- The same time `n` days later. -/
def Time.addDays : Nat → Time → Time
  | 0, x => x
  | n + 1, x => Time.addDays n x.nextDay

/-- Tenths of a second since midnight. -/
def Time.dayTenths (x : Time) : Nat := ((x.hour * 60 + x.minute) * 60 + x.second) * 10 + x.tenth

/-- The time `n` tenths of a second later. -/
def Time.addTenths (x : Time) (n : Nat) : Time :=
  let total := x.dayTenths + n
  let rest := total % 864000
  { Time.addDays (total / 864000) x with
    hour := rest / 36000, minute := rest / 600 % 60, second := rest / 10 % 60, tenth := rest % 10 }

/-- Days in the months of `year` before `month`. -/
def daysBeforeMonth (year month : Nat) : Nat :=
  (List.range (month - 1)).foldl (fun acc m => acc + monthLength year (m + 1)) 0

/-- Days from 2000-01-01 (R144). -/
def Time.days (x : Time) : Nat :=
  365 * (x.year - 2000) + (x.year - 2000 + 3) / 4 + daysBeforeMonth x.year x.month + (x.day - 1)

/-- Tenths of a second from 2000-01-01 00:00:00.0, the encoding of a time field (R182). -/
def Time.tenths (x : Time) : Nat := x.days * 864000 + x.dayTenths

/-- The five bytes of a time field (R182). -/
def timeBytes (x : Time) : List Byte := beBytes 5 x.tenths

/-- The five bytes of a time field that may be absent (R182). -/
def optTimeBytes : Option Time → List Byte
  | some x => timeBytes x
  | none => List.replicate 5 0xFF#8

/-- The date of a time. -/
def Time.date (x : Time) : Date := ⟨x.year, x.month, x.day⟩

/-- Minute of the day (R148). -/
def Time.minuteOfDay (x : Time) : Nat := 60 * x.hour + x.minute

/-! ### Saturating numbers -/

/-- `n + 1`, saturating at `bound` (1.6.3). -/
def satInc (bound n : Nat) : Nat := if n < bound then n + 1 else bound

/-- An account with `n` counts added (R69, R149). While the flag is SET the account stands. -/
def Account.add (a : Account) (n : Nat) : Account :=
  if a.saturated then a
  else if Config.accountMax < a.counts + n then ⟨Config.accountMax, true⟩
  else { a with counts := a.counts + n }

/-- The reported kilowatt-hours of an account (R149). -/
def Account.kwh (a : Account) : Nat := a.counts / Config.countsPerKwh

/-- The account after a period close: its remainder, the flag cleared (R160, R69). -/
def Account.close (a : Account) : Account := ⟨a.counts % Config.countsPerKwh, false⟩

/-! ### One record of a block -/

/-- Channel record `n` (R17). -/
def State.chan (s : State) (n : Nat) : Channel := s.front.chans.getD n Channel.initial

/-- Channel numbers of a group's current, inlet and outlet temperature, and flow (section 2.1). -/
def gcChan (g : Group) : Nat := 2 + g.num
def tiChan (g : Group) : Nat := 8 + g.num
def toChan (g : Group) : Nat := 14 + g.num
def flChan (g : Group) : Nat := 20 + g.num

/-- The group numbered `n`. -/
def groupOfNum? (n : Nat) : Option Group := Group.all.find? (fun g => g.num == n)

/-- The cooling and capacity records of group `g`. -/
def State.coolOf (s : State) (g : Group) : Cooling := s.cool.get g
def State.setCoolOf (s : State) (g : Group) (c : Cooling) : State := s.setCool (s.cool.set g c)
def State.setLoop (s : State) (g : Group) (l : LoopRecord) : State :=
  s.setCoolOf g { s.coolOf g with loop := l }
def State.setCap (s : State) (g : Group) (c : CapRecord) : State :=
  s.setCoolOf g { s.coolOf g with cap := c }
/-- The step of R73 at which the evaluation of the loop of `g` is left (log 2). -/
def State.setLeft (s : State) (g : Group) (x : LoopLeft) : State :=
  s.setCoolOf g { s.coolOf g with left := x }

/-- The group link's record and slots of group `g`. -/
def State.unit (s : State) (g : Group) : GroupUnit := s.link.units.get g
def State.setUnit (s : State) (g : Group) (u : GroupUnit) : State :=
  s.setLink { s.link with units := s.link.units.set g u }

/-- Pot record `p` (R36). -/
def State.pot (s : State) (p : Nat) : Pot := s.pots.getD (p - 1) Pot.initial
def State.setPot (s : State) (p : Nat) (x : Pot) : State := s.setPots (s.pots.set (p - 1) x)
def State.setPotAe (s : State) (p : Nat) (x : PotAe) : State := s.setPot p { s.pot p with ae := x }

/-- The numbers of all pots, in ascending order. -/
def potNumbers : List Nat := (List.range Config.pots).map (· + 1)

/-- The sum over the groups of `f`. -/
def groupSum (f : Group → Nat) : Nat := (Group.all.map f).sum

/-- `n` open values, and the state in which they have been used (log 13, log 14). -/
def State.openBytes (s : State) (n : Nat) : List Byte × State :=
  ((List.range n).map (fun i => Config.openByte (s.free + i)), s.setFree (s.free + n))

/-! ### Events -/

/-- Code of an event kind (R186). -/
def EventKind.code : EventKind → Nat
  | .resetDone => 0x01 | .supState => 0x02 | .groupState => 0x03 | .orderDone => 0x04 | .aeEnd => 0x05
  | .potSuspect => 0x06 | .stackChange => 0x07 | .switch => 0x08 | .clockSet => 0x09
  | .lineMeas => 0x21 | .tracking => 0x22 | .capacityLimit => 0x23 | .groupLocal => 0x24
  | .orderFailed => 0x25 | .coolingState => 0x26 | .coolingSensor => 0x27 | .aeStart => 0x28
  | .aeHold => 0x29 | .scanFault => 0x2A | .utility => 0x2B | .demandLimit => 0x2C | .demandVoltage => 0x2D
  | .safe => 0x41 | .lineFault => 0x42 | .groupTrip => 0x43 | .groupUnreachable => 0x44
  | .coolingStop => 0x45 | .quenchRequest => 0x46 | .aeLong => 0x47 | .demandUnavoidable => 0x48
  | .energySaturated => 0x49

/-- Class of an event kind, INFO 0, WARNING 1, ALARM 2: codes 0x01 to 0x09, 0x21 to 0x2D and 0x41 to
0x49 (R186). -/
def EventKind.cls (k : EventKind) : Nat :=
  if k.code ≤ 0x09 then 0 else if k.code ≤ 0x2D then 1 else 2

/-- The value of an event: fields of the widths given, from the most significant byte downward, and 0
after the last (R186). -/
def eventValue (fields : List (List Byte)) : Word64 :=
  let bytes := fields.flatten
  BitVec.ofNat 64 (beNat bytes * 256 ^ (8 - bytes.length))

/-- Whether an entry is of the kind and subject of a posting (R176). -/
def Event.about (e : Event) (k : EventKind) (subject : Nat) : Bool :=
  e.kind == k && e.subject == subject

/-- The entry after another posting has reached it (R176). -/
def Event.again (e : Event) (value : Word64) (now : Time) : Event :=
  { e with value := value, last := now, count := satInc 255 e.count }

/-- A posting (R176). -/
def EventQueue.post (q : EventQueue) (k : EventKind) (subject : Nat) (value : Word64) (now : Time) :
    EventQueue :=
  if q.entries.any (·.about k subject) then
    { q with entries := q.entries.map fun e => if e.about k subject then e.again value now else e }
  else if q.entries.length < Config.eventQueueSize then
    { q with entries := q.entries ++ [⟨k, subject, value, now, now, 1⟩] }
  else { q with overrun := true }

/-- The ATTN output re-evaluated at the level `level` (R178). -/
def EventQueue.evalAttn (q : EventQueue) (level : Nat) : EventQueue :=
  { q with attn := q.overrun || q.entries.any (fun e => decide (level ≤ e.kind.cls)) }

/-- ATTN re-evaluated at ATTN_LEVEL as it stands (R178). -/
def State.evalAttn (s : State) : State := s.setEvents (s.events.evalAttn (s.cfgN .attnLevel))

/-- A block posts an event (R176, R178). -/
def State.post (s : State) (k : EventKind) (subject : Nat) (fields : List (List Byte)) : State :=
  s.setEvents
    ((s.events.post k subject (eventValue fields) s.energy.time).evalAttn (s.cfgN .attnLevel))

/-- `f` done when `c` holds. -/
def State.when (s : State) (c : Bool) (f : State → State) : State := if c then f s else s

/-- `f` done for every group, in ascending number. -/
def State.eachGroup (s : State) (f : State → Group → State) : State := Group.all.foldl f s

end Sys2Proof.Machine
end

