-- ==== Sys2Proof/Machine/Operands.lean ====
section
/-! DEFINITION. The operands of requests and replies: the request kinds with their authority and payload
lengths (section 10.5, 11.1), the result codes (R171), and the fields that payloads carry (R182). -/

namespace Sys2Proof.Machine

/-- The request kinds (section 10.5). -/
inductive RequestKind where
  | identify | getStatus | setItems | getItems | setScanTable | getScanTable | setTariff | setTime
  | run | hold | release | lineReset | pushCeiling | popCeiling | removeCeiling | getStack
  | groupOrder | getGroup | getPots | getAeLog | potSwitch | potSwitchDone | potSwitchAbort | setPotState
  | getEvent | getEnergy | getDemandLog | closePeriod | getPeriods
deriving DecidableEq, Repr

/-- KIND of a request (section 10.5). -/
def RequestKind.code : RequestKind → Nat
  | .identify => 0x01 | .getStatus => 0x02 | .setItems => 0x03 | .getItems => 0x04
  | .setScanTable => 0x05 | .getScanTable => 0x06 | .setTariff => 0x07 | .setTime => 0x08
  | .run => 0x09 | .hold => 0x0A | .release => 0x0B | .lineReset => 0x0C
  | .pushCeiling => 0x10 | .popCeiling => 0x11 | .removeCeiling => 0x12 | .getStack => 0x13
  | .groupOrder => 0x18 | .getGroup => 0x19 | .getPots => 0x20 | .getAeLog => 0x21
  | .potSwitch => 0x22 | .potSwitchDone => 0x23 | .potSwitchAbort => 0x24 | .setPotState => 0x25
  | .getEvent => 0x28 | .getEnergy => 0x30 | .getDemandLog => 0x31 | .closePeriod => 0x32
  | .getPeriods => 0x33

/-- Every request kind. -/
def RequestKind.all : List RequestKind :=
  [.identify, .getStatus, .setItems, .getItems, .setScanTable, .getScanTable, .setTariff, .setTime,
   .run, .hold, .release, .lineReset, .pushCeiling, .popCeiling, .removeCeiling, .getStack,
   .groupOrder, .getGroup, .getPots, .getAeLog, .potSwitch, .potSwitchDone, .potSwitchAbort, .setPotState,
   .getEvent, .getEnergy, .getDemandLog, .closePeriod, .getPeriods]

/-- The request kind that a KIND byte names (R168 test 1). -/
def RequestKind.ofByte? (kind : Byte) : Option RequestKind :=
  RequestKind.all.find? (fun k => k.code == kind.toNat)

/-- The request kinds whose authority is ENGINEER (section 10.5); SET_ITEMS and GROUP_ORDER settle
theirs by their own rules. -/
def RequestKind.engineerOnly : RequestKind → Bool
  | .setScanTable | .setTariff | .setTime | .run | .lineReset | .removeCeiling | .setPotState
  | .closePeriod => true
  | .identify | .getStatus | .setItems | .getItems | .getScanTable | .hold | .release | .pushCeiling
  | .popCeiling | .getStack | .groupOrder | .getGroup | .getPots | .getAeLog | .potSwitch
  | .potSwitchDone | .potSwitchAbort | .getEvent | .getEnergy | .getDemandLog | .getPeriods => false

/-- Result codes (R171). -/
inductive Result where
  | ok | part | adjusted | queued
  | badKind | badLength | badValue | noSuch | locked | wrongState | notPermitted | busy
  | stackFull | stackEmpty | notReady
deriving DecidableEq, Repr

/-- Code of a result (R171). -/
def Result.code : Result → Nat
  | .ok => 0x00 | .part => 0x01 | .adjusted => 0x02 | .queued => 0x03
  | .badKind => 0x10 | .badLength => 0x11 | .badValue => 0x12 | .noSuch => 0x13 | .locked => 0x14
  | .wrongState => 0x15 | .notPermitted => 0x16 | .busy => 0x17 | .stackFull => 0x18
  | .stackEmpty => 0x19 | .notReady => 0x1A

/-- What a request's rule answers: a result and the payload after the result code. -/
structure Reply where
  result : Result
  body   : List Byte
deriving DecidableEq, Repr

/-- A reply of the result alone. -/
def Reply.bare (r : Result) : Reply := ⟨r, []⟩

/-! ### Fields of a payload -/

/-- The unsigned field of `n` bytes at offset `at_`. -/
def field (payload : List Byte) (at_ n : Nat) : Nat := beNat ((payload.drop at_).take n)

/-- `n` points of a tariff table, 3 bytes each (11.1). -/
def readPoints : Nat → List Byte → List TariffPoint
  | n + 1, a :: b :: c :: rest => ⟨beNat [a, b], c.toNat⟩ :: readPoints n rest
  | _, _ => []

/-- `n` dates of a holiday list, 4 bytes each (11.1). -/
def readDates : Nat → List Byte → List Date
  | n + 1, a :: b :: c :: d :: rest => ⟨beNat [a, b], c.toNat, d.toNat⟩ :: readDates n rest
  | _, _ => []

/-- `n` entries of a scan table, 5 bytes each (11.1). -/
def readScanEntries : Nat → List Byte → List ScanEntry
  | n + 1, a :: b :: c :: d :: e :: rest =>
    ⟨a.toNat, b.toNat, c.toNat, beNat [d, e]⟩ :: readScanEntries n rest
  | _, _ => []

/-- `n` pairs of item and value, 6 bytes each (11.1). -/
def readPairs : Nat → List Byte → List (Nat × Int)
  | n + 1, a :: b :: c :: d :: e :: f :: rest =>
    (beNat [a, b], beInt32 [c, d, e, f]) :: readPairs n rest
  | _, _ => []

/-- `n` item identifiers, 2 bytes each (11.1). -/
def readIds : Nat → List Byte → List Nat
  | n + 1, a :: b :: rest => beNat [a, b] :: readIds n rest
  | _, _ => []

/-- What stands after a counted list of `unit`-byte things, if the list is there whole. -/
def afterCounted (unit : Nat) : List Byte → Option (List Byte)
  | [] => none
  | c :: rest => if unit * c.toNat ≤ rest.length then some (rest.drop (unit * c.toNat)) else none

/-- Whether a payload is one counted list of `unit`-byte things and nothing more. -/
def countedOk (unit : Nat) (payload : List Byte) : Bool := afterCounted unit payload == some []

/-- The count of a counted list. -/
def countOf (payload : List Byte) : Nat := field payload 0 1

/-- The three counted tables and the counted date list of SET_TARIFF, one after another. -/
def tariffParts (payload : List Byte) : Option (List (List Byte)) :=
  match afterCounted 3 payload with
  | none => none
  | some p1 =>
    match afterCounted 3 p1 with
    | none => none
    | some p2 =>
      match afterCounted 3 p2 with
      | none => none
      | some p3 => if countedOk 4 p3 then some [payload, p1, p2, p3] else none

/-- The tariff set that a SET_TARIFF payload of the right length carries. -/
def readTariff (payload : List Byte) : Tariff :=
  match tariffParts payload with
  | some [a, b, c, d] =>
    ⟨readPoints (countOf a) (a.drop 1), readPoints (countOf b) (b.drop 1), readPoints (countOf c) (c.drop 1),
     readDates (countOf d) (d.drop 1)⟩
  | _ => ⟨[], [], [], []⟩

/-- Whether a payload has the length its kind requires, fixed or worked from the counts it declares
(R168 test 3, 11.1). -/
def RequestKind.lengthOk (k : RequestKind) (payload : List Byte) : Bool :=
  match k with
  | .setItems => countedOk 6 payload
  | .getItems => countedOk 2 payload
  | .setScanTable => countedOk 5 payload
  | .setTariff => (tariffParts payload).isSome
  | .setTime => payload.length == 8
  | .pushCeiling => payload.length == 12
  | .removeCeiling => payload.length == 1
  | .groupOrder => payload.length == 2
  | .getGroup => payload.length == 1
  | .getPots => payload.length == 3
  | .getAeLog => payload.length == 5
  | .potSwitch => payload.length == 3
  | .setPotState => payload.length == 3
  | .getDemandLog => payload.length == 2
  | .getPeriods => payload.length == 2
  | .identify | .getStatus | .getScanTable | .run | .hold | .release | .lineReset | .popCeiling
  | .getStack | .potSwitchDone | .potSwitchAbort | .getEvent | .getEnergy | .closePeriod =>
    payload.isEmpty

/-- Kinds of a GROUP_ORDER (11.1). -/
def CmdKind.code : CmdKind → Nat
  | .start => 1 | .stop => 2 | .resetTrip => 3 | .capture => 4 | .groupReset => 5

/-- Every kind of command. -/
def CmdKind.all : List CmdKind := [.start, .stop, .resetTrip, .capture, .groupReset]

/-- The kind of command that a GROUP_ORDER kind code names. -/
def CmdKind.ofCode? (n : Nat) : Option CmdKind := CmdKind.all.find? (fun k => k.code == n)

/-- Order kinds on the group link (R184). -/
def CmdKind.orderCode : CmdKind → Nat
  | .start => 2 | .stop => 3 | .resetTrip => 6 | .capture => 7 | .groupReset => 8

/-- KIND of an order frame (R184). -/
def Order.code : Order → Nat
  | .sense => 1 | .setShare _ => 4 | .setStage _ => 5 | .command k => k.orderCode

/-- The parameter of an order frame (R184). -/
def Order.parameter : Order → List Byte
  | .sense => [] | .setShare v => beBytes 4 v | .setStage v => beBytes 1 v | .command _ => []

/-! ### Codes of state fields (R182 and the rules named) -/

def SupState.code : SupState → Nat
  | .setup => 0 | .run => 1 | .hold => 2 | .safe => 3
def EntryCause.code : EntryCause → Nat
  | .deviceReset => 0 | .lineReset => 1 | .runRequest => 2 | .holdRequest => 3 | .releaseRequest => 4
  | .measurement => 5 | .safeInput => 6 | .noGroup => 7
def RunOutcome.code : RunOutcome → Nat
  | .none => 0 | .accepted => 1 | .clockNotSet => 2 | .noGroup => 3 | .noScanTable => 4
  | .adoptionIncomplete => 5 | .lineFault => 6
def LineState.code : LineState → Nat
  | .normal => 0 | .single => 1 | .disagree => 2 | .fault => 3
def ReadStatus.code : ReadStatus → Nat
  | .none => 0 | .ok => 1 | .overrange => 2
def AeState.code : AeState → Nat
  | .out => 0 | .unmonitored => 1 | .normal => 2 | .suspect => 3 | .pending => 4 | .active => 5
  | .recovering => 6
def EndCause.code : EndCause → Nat
  | .normalEnd => 1 | .signalLost => 2 | .cutOut => 3 | .lineReset => 4
def CoolState.code : CoolState → Nat
  | .normal => 0 | .derated => 1 | .critical => 2
def UnloadOrigin.code : UnloadOrigin → Nat
  | .cooling => 0 | .linkRequest => 1
def UnloadEnd.code : UnloadEnd → Nat
  | .none => 0 | .level => 1 | .time => 2 | .trip => 3 | .notRunning => 4 | .lineReset => 5
def GroupState.code : GroupState → Nat
  | .unknown => 0 | .stopped => 1 | .starting => 2 | .running => 3 | .stopping => 4 | .tripped => 5
def CmdState.code : CmdState → Nat
  | .waiting => 0 | .sent => 1 | .backoff _ => 2
def Origin.code : Origin → Nat
  | .linkRequest _ => 0 | .cooling => 1
/-- The TAG of an origin, 0 for COOLING (R106). -/
def Origin.tag : Origin → Nat
  | .linkRequest tag => tag.toNat | .cooling => 0
def Source.code : Source → Nat
  | .operator => 0 | .engineer => 1 | .utility => 2 | .switching => 3
def SwitchPhase.code : SwitchPhase → Nat
  | .none => 0 | .lowering => 1 | .ready => 2
def SwitchKind.code : SwitchKind → Nat
  | .none => 0 | .cutOut => 1 | .cutIn => 2
def SwitchEnd.code : SwitchEnd → Nat
  | .none => 0 | .done => 1 | .aborted => 2 | .timeout => 3 | .lineReset => 4
def Governing.code : Governing → Nat
  | .none => 0 | .utility => 1 | .switching => 2 | .top => 3 | .trim => 4 | .base => 5
def LastStep.code : LastStep → Nat
  | .none => 0 | .up => 1 | .down => 2 | .heldAe => 3 | .heldState => 4
def DayType.code : DayType → Nat
  | .weekday => 0 | .weekend => 1 | .holiday => 2

/-! ### Records as bytes (R182, 11.1) -/

/-- A channel record, 9 bytes. Validity takes the codes VALID 0 and INVALID 1, in the order of R17. -/
def Channel.bytes (c : Channel) : List Byte :=
  beSigned 4 c.value ++ flagByte (!c.valid) ++ beBytes 2 c.invalidRun ++ beBytes 2 c.rawMean

/-- An event entry, 22 bytes and its count. -/
def Event.bytes (e : Event) : List Byte :=
  beBytes 1 e.kind.code ++ beBytes 1 e.kind.cls ++ beBytes 2 e.subject ++ beBytes 8 e.value.toNat
    ++ timeBytes e.first ++ timeBytes e.last ++ beBytes 1 e.count

/-- The interval flags in the order of R152, one byte each, as GET_ENERGY carries them (R163, R182). -/
def IntervalFlags.bytes (f : IntervalFlags) : List Byte :=
  [f.shortened, f.limited, f.aeHeld, f.estimated, f.clockNotSet].flatMap flagByte

/-- The period flags in the order of R159, one byte each, as GET_ENERGY carries them (R163, R182). -/
def PeriodFlags.bytes (f : PeriodFlags) : List Byte :=
  [f.saturated, f.estimated, f.clockNotSet, f.shortenedSeen].flatMap flagByte

/-- The flags byte of a demand record (11.1). Bits 5 to 7, which 11.1 does not name, are 0 (DESIGN CHOICE, unsafe,
log 42). -/
def IntervalFlags.byte (f : IntervalFlags) : Nat :=
  f.shortened.toNat + 2 * f.limited.toNat + 4 * f.aeHeld.toNat + 8 * f.estimated.toNat
    + 16 * f.clockNotSet.toNat

/-- The flags byte of a closed-period record (11.1). Bits 4 to 7, which 11.1 does not name, are 0 (DESIGN CHOICE,
unsafe, log 42). -/
def PeriodFlags.byte (f : PeriodFlags) : Nat :=
  f.saturated.toNat + 2 * f.estimated.toNat + 4 * f.clockNotSet.toNat + 8 * f.shortenedSeen.toNat

/-- A demand record (R154). -/
def DemandRecord.bytes (r : DemandRecord) : List Byte :=
  timeBytes r.stop ++ beBytes 4 r.length ++ beBytes 4 r.demand ++ beBytes 1 r.flags.byte

/-- A closed-period record (R160). -/
def PeriodRecord.bytes (r : PeriodRecord) : List Byte :=
  timeBytes r.opened ++ timeBytes r.closed ++ r.kwh.flatMap (beBytes 4) ++ beBytes 4 r.total
    ++ beBytes 4 r.maximum ++ optTimeBytes r.maxTime ++ beBytes 4 r.aeKwh ++ beBytes 1 r.flags.byte

/-- An AE log record (R67). -/
def AeRecord.bytes (r : AeRecord) : List Byte :=
  beBytes 4 r.number ++ beBytes 2 r.pot ++ timeBytes r.startTime ++ beBytes 4 r.duration
    ++ beBytes 2 r.peak ++ beBytes 8 r.excess ++ beBytes 1 r.cause.code ++ flagByte r.quench

/-- A scan table entry. -/
def ScanEntry.bytes (e : ScanEntry) : List Byte :=
  beBytes 1 e.module ++ beBytes 1 e.firstChan ++ beBytes 1 e.count ++ beBytes 2 e.firstPot

/-- A pot record: the R36 fields in their order, then the R52 fields, 55 bytes. FITTED is 0 and
NOT_FITTED 1, in the order of R36 (R182). -/
def Pot.bytes (p : Pot) : List Byte :=
  flagByte (!p.fitted) ++ beBytes 1 p.entry ++ flagByte p.cutOut ++ beBytes 2 p.lastVoltage
    ++ beBytes 1 p.status.code ++ optTimeBytes p.lastFresh ++ flagByte p.seeded ++ beBytes 2 p.filtered
    ++ beBytes 4 p.resistance ++ beBytes 1 p.stale ++ flagByte p.staleNow
    ++ beBytes 1 p.ae.state.code ++ flagByte p.ae.frozen ++ beBytes 4 p.ae.timer
    ++ timeBytes p.ae.pendingTime ++ timeBytes p.ae.startTime ++ beBytes 2 p.ae.vRef ++ beBytes 2 p.ae.peak
    ++ beBytes 8 p.ae.excess ++ beBytes 1 p.ae.recover ++ flagByte p.ae.quench ++ flagByte p.ae.long
    ++ beBytes 2 p.ae.lifetime ++ beBytes 2 p.ae.spikes

/-- A stack entry, its lifetime in whole seconds rounded up (R118). An absent down rate is carried as four bytes of 0
(DESIGN CHOICE, unsafe, log 44). -/
def StackEntry.bytes (e : StackEntry) : List Byte :=
  beBytes 1 e.id ++ beBytes 1 e.source.code ++ beBytes 4 e.ceiling ++ beBytes 4 (e.rate.getD 0)
    ++ beBytes 4 ((e.life.getD 0 + 9) / 10) ++ timeBytes e.pushed

/-- The pot switching record (R121). -/
def Switching.bytes (w : Switching) : List Byte :=
  beBytes 1 w.phase.code ++ beBytes 2 w.pot ++ beBytes 1 w.kind.code ++ beBytes 1 w.entry
    ++ optTimeBytes w.accepted ++ beBytes 4 w.timer ++ beBytes 1 w.lastEnd.code

/-- A tariff set, as in SET_TARIFF. -/
def Tariff.bytes (t : Tariff) : List Byte :=
  let table := fun (pts : List TariffPoint) =>
    beBytes 1 pts.length ++ pts.flatMap fun p => beBytes 2 p.minute ++ beBytes 1 p.bucket
  table t.weekday ++ table t.weekend ++ table t.holiday ++ beBytes 1 t.holidays.length
    ++ t.holidays.flatMap fun d => beBytes 2 d.year ++ beBytes 1 d.month ++ beBytes 1 d.day

/-- An account in counts and in reported kWh, with its SATURATED flag (R163). -/
def Account.bytes (a : Account) : List Byte :=
  beBytes 8 a.counts ++ beBytes 4 a.kwh ++ flagByte a.saturated

/-- The regulator record, 54 bytes (11.1); a share of NONE is 0xFFFFFFFF. -/
def Regulator.bytes (r : Regulator) : List Byte :=
  beBytes 4 r.applied ++ beBytes 4 r.previous ++ beBytes 4 r.desired ++ beBytes 1 r.governing.code
    ++ beBytes 1 r.lastStep.code ++ flagByte r.limited ++ flagByte r.tracking ++ beBytes 1 r.outside
    ++ beBytes 1 r.inside ++ beBytes 4 r.capacityC ++ beBytes 4 r.frozenZ ++ beBytes 4 r.amount
    ++ Group.all.flatMap fun g => beBytes 4 ((r.shares.get g).getD 0xFFFFFFFF)

/-- The line measurement record, 16 bytes (11.1). -/
def LineRecord.bytes (r : LineRecord) : List Byte :=
  beBytes 1 r.state.code ++ beBytes 1 r.recovery ++ beBytes 4 r.current ++ beBytes 4 r.voltage
    ++ flagByte r.held ++ timeBytes r.sampleTime

/-- The supervisor record, 4 bytes (11.1). -/
def Supervisor.bytes (r : Supervisor) : List Byte :=
  beBytes 1 r.state.code ++ beBytes 1 r.cause.code ++ beBytes 1 r.lastRun.code ++ flagByte r.safeLevel

/-- A loop record (R71); the critical dwell is an optional value (R182). -/
def LoopRecord.bytes (l : LoopRecord) : List Byte :=
  beBytes 1 l.state.code ++ beBytes 2 l.tempFactor ++ beBytes 2 l.flowFactor ++ beBytes 2 l.senseFactor
    ++ beBytes 2 l.factor ++ flagByte l.fault ++ optBytes 4 l.dwell ++ flagByte l.begun ++ beBytes 1 l.stage

/-- A capacity record (R72). -/
def CapRecord.bytes (c : CapRecord) : List Byte :=
  beBytes 4 c.capacity ++ beBytes 4 c.credit ++ flagByte c.unloading ++ beBytes 1 c.origin.code
    ++ beBytes 4 c.timer ++ beBytes 1 c.lastEnd.code

/-- A backoff deadline: an optional value, the tenths of a second left until it, 0 once it has passed
(R182). A deadline lies 100 ms after the reply that set it, which is one tenth, until it passes
(DEDUCED, log 15). -/
def Deadline.bytes : Deadline → List Byte
  | .absent => optBytes 4 none
  | .running => optBytes 4 (some 1)
  | .passed => optBytes 4 (some 0)

/-- A share or stage slot with a desired value of `n` bytes (R111). -/
def ValueSlot.bytes (n : Nat) (x : ValueSlot) : List Byte :=
  beBytes n x.desired ++ flagByte x.rejected ++ x.deadline.bytes

/-- The command slot: one byte of presence, then kind, origin, TAG, state, sub-state, SEQ when SENT, and
time of first sending (R111, R182). Sub-state and SEQ are optional values, and the TAG of a command of origin
COOLING, to which R93 gives none, is a plain byte 0 (DESIGN CHOICE, unsafe, log 11). -/
def commandBytes : Option Command → List Byte
  | none => List.replicate 9 0#8 ++ optTimeBytes none
  | some c =>
    [1#8] ++ beBytes 1 c.kind.code ++ beBytes 1 c.origin.code ++ beBytes 1 c.origin.tag
      ++ beBytes 1 c.state.code
      ++ optBytes 1 (if c.kind = .stop then some c.sendable.toNat else none)
      ++ optBytes 1 (if c.state = .sent then some c.seq else none)
      ++ optTimeBytes (c.firstSent.map (·.time))

/-- The reset flag: one byte of presence, then the kind, which is GROUP_RESET (R93), origin and TAG (R111,
R182). For an origin COOLING the TAG would be a plain byte 0 (DESIGN CHOICE, unsafe, log 11). -/
def resetFlagBytes : Option Origin → List Byte
  | none => List.replicate 4 0#8
  | some o => [1#8] ++ beBytes 1 CmdKind.groupReset.code ++ beBytes 1 o.code ++ beBytes 1 o.tag

/-- The capture record, or the mark that it is absent (R102, R111, R182). -/
def captureBytes : Option Capture → List Byte
  | none => List.replicate 10 0#8 ++ optTimeBytes none ++ [0#8]
  | some c =>
    [1#8] ++ beBytes 2 c.angle ++ beBytes 1 c.tap ++ beBytes 4 c.voltage ++ beBytes 2 c.alarms
      ++ timeBytes c.time ++ beBytes 1 c.seq

/-- The fields of a group record in the order of R88, without its capture record, which R111 lists in a
place of its own (DESIGN CHOICE, log 11). -/
def GroupRecord.bytes (r : GroupRecord) : List Byte :=
  beBytes 1 r.state.code ++ flagByte r.reachable ++ flagByte r.isLocal ++ beBytes 4 r.current
    ++ flagByte r.trip ++ beBytes 4 r.ackShare ++ beBytes 1 r.ackStage ++ flagByte r.senseDue
    ++ beBytes 1 r.seq

/-- The payload of a SCAN_FRAME (R183). -/
def Segment.bytes (x : Segment) : List Byte :=
  beBytes 4 x.passNumber ++ beBytes 1 x.index ++ beBytes 1 x.count ++ beBytes 1 x.firstEntry
    ++ beBytes 2 x.skips ++ timeBytes x.startTime ++ beBytes 1 x.entries.length
    ++ x.entries.flatMap fun e => beBytes 2 e.data.toNat ++ beBytes 1 e.tags.toNat

end Sys2Proof.Machine
end

