-- ==== Sys2Proof/Machine/Flags.lean ====
section
/-! DEFINITION. The conditions that blocks read of one another: fitted, allocatable and frozen groups,
effective and allocation capacities, sendable slots and offers, the AE count and hold flag, the terms of
the ceiling stack. Each is formed from the records as they stand. -/

namespace Sys2Proof.Machine

/-! ### Groups -/

/-- A group enabled by settings (1.5). -/
def State.fitted (s : State) (g : Group) : Bool := s.cfg (.group g .fitted) == 1

/-- Allocatable (R91). -/
def State.allocatable (s : State) (g : Group) : Bool :=
  let r := (s.unit g).record
  s.fitted g && r.state == .running && r.reachable && !r.isLocal && !r.trip

/-- Frozen (R91). -/
def State.frozen (s : State) (g : Group) : Bool :=
  let r := (s.unit g).record
  s.fitted g && r.state == .running && (!r.reachable || r.isLocal) && !r.trip

/-- The frozen current of a frozen group (R91). -/
def State.frozenCurrent (s : State) (g : Group) : Nat :=
  let c := s.chan (gcChan g)
  if c.valid then c.value.toNat else (s.unit g).record.ackShare

/-- Whether some group is allocatable or frozen (R13). -/
def State.anyCarrier (s : State) : Bool := Group.all.any fun g => s.allocatable g || s.frozen g

/-- Effective capacity c'_g (R82). -/
def State.effective (s : State) (g : Group) : Nat :=
  let c := (s.coolOf g).cap
  if s.allocatable g && !c.unloading then min c.capacity c.credit else 0

/-- Whether a command slot holds a STOP (R137). -/
def State.holdsStop (s : State) (g : Group) : Bool :=
  match (s.unit g).command with
  | some c => c.kind == .stop
  | none => false

/-- Allocation capacity a_g (R137). -/
def State.allocCapacity (s : State) (g : Group) : Nat := if s.holdsStop g then 0 else s.effective g

/-- Adoption (R6): every fitted group has a reported state other than UNKNOWN. -/
def State.adopted (s : State) : Bool :=
  Group.all.all fun g => !s.fitted g || (s.unit g).record.state != .unknown

/-- Whether the supervisor is in RUN or HOLD (R2). -/
def State.regulating (s : State) : Bool := s.sup.state == .run || s.sup.state == .hold

/-! ### Slots and offers -/

/-- Whether a command is sendable (R93). -/
def State.cmdSendable (s : State) (c : Command) : Bool :=
  (match c.state with
   | .waiting => true
   | .sent => false
   | .backoff passed => passed)
  && (c.kind != .stop || c.sendable)
  && !(c.kind == .start && s.sup.state == .safe)

/-- Whether a slot's mark and deadline let it be sent (R94, R95). -/
def ValueSlot.open (x : ValueSlot) : Bool := !x.rejected && x.deadline != .running

/-- Whether the share slot of `g` is sendable (R94). -/
def State.shareSendable (s : State) (g : Group) : Bool :=
  let u := s.unit g
  u.share.desired != u.record.ackShare && s.regulating && s.allocatable g && u.share.open

/-- Whether the stage slot of `g` is sendable (R95). -/
def State.stageSendable (s : State) (g : Group) : Bool :=
  let u := s.unit g
  u.stage.desired != u.record.ackStage && u.record.reachable && u.stage.open

/-- The first item that group `g` offers the arbiter (R99). -/
def State.offer (s : State) (g : Group) : Option Order :=
  let u := s.unit g
  let rest : Option Order :=
    if s.shareSendable g then some (.setShare u.share.desired)
    else if s.stageSendable g then some (.setStage u.stage.desired)
    else if u.record.senseDue && !(u.command.any fun c => c.state == .sent) then some .sense
    else none
  if s.fitted g then
    match u.command with
    | some c => if s.cmdSendable c then some (.command c.kind) else rest
    | none => rest
  else none

/-- Whether an offer is urgent (R99): a GROUP_RESET, or a STOP, which is offered only when SENDABLE. -/
def Order.urgent : Order → Bool
  | .command .groupReset => true
  | .command .stop => true
  | _ => false

/-- The groups counted upward, cyclically, from the group after `g` (R99). -/
def groupsAfter (g : Group) : List Group := Group.all.drop g.num ++ Group.all.take g.num

/-- The group the arbiter serves, with its offer (R99). -/
def State.chosen (s : State) : Option (Group × Order) :=
  let offers := (groupsAfter s.link.lastServed).filterMap fun g => (s.offer g).map fun o => (g, o)
  match offers.find? (fun x => x.2.urgent) with
  | some x => some x
  | none => offers.head?

/-! ### Anode effects -/

/-- A pot is in an AE while its AE state is AE_ACTIVE or RECOVERING (R52). -/
def AeState.inAe : AeState → Bool
  | .active | .recovering => true
  | _ => false

/-- Pot `p`'s flag in the AE map (R65): pots 1 to 32 in the first word, the lowest in bit 0. -/
def AeMonitor.flag (m : AeMonitor) (p : Nat) : Bool :=
  (m.map.getD ((p - 1) / 32) 0#32).getLsbD ((p - 1) % 32)

/-- The AE map with pot `p`'s flag at `b` (R65). -/
def aeMapSet (map : List Word32) (p : Nat) (b : Bool) : List Word32 :=
  let bit : Word32 := 1#32 <<< ((p - 1) % 32)
  let w := map.getD ((p - 1) / 32) 0#32
  map.set ((p - 1) / 32) (if b then w ||| bit else w &&& ~~~bit)

/-- The ones among the `n` lowest bits of a number. -/
def onesBelow : Nat → Nat → Nat
  | 0, _ => 0
  | n + 1, v => v % 2 + onesBelow n (v / 2)

/-- The AE count of a map: the population counts of its words, summed (R65). -/
def aeMapCount (map : List Word32) : Nat := (map.map fun w => onesBelow 32 w.toNat).sum

/-! ### The ceiling stack -/

/-- UTILITY and SWITCHING entries are binding (R112). -/
def Source.binding : Source → Bool
  | .utility | .switching => true
  | .operator | .engineer => false

/-- The least of a value and an optional one. -/
def leastOpt (acc : Option Nat) (v : Nat) : Option Nat :=
  match acc with
  | some a => some (min a v)
  | none => some v

/-- The stack ceiling term (R113). -/
def CeilingStack.term (k : CeilingStack) : Option Nat :=
  match k.entries with
  | [] => none
  | top :: rest => (rest.filter (·.source.binding)).foldl (fun acc e => leastOpt acc e.ceiling) (some top.ceiling)

/-- The ceiling of the entry of source `src`, if one stands (R113). -/
def CeilingStack.ceilingOf (k : CeilingStack) (src : Source) : Option Nat :=
  (k.entries.find? (fun e => e.source == src)).map (·.ceiling)

/-- Whether a pot switching procedure is in progress (R121). -/
def Switching.inProgress (w : Switching) : Bool := w.phase != .none

/-! ### Energy -/

/-- The demand threshold (R157). -/
def State.threshold (s : State) : Nat := s.cfgN .contractKw - s.cfgN .marginKw

/-- Mean power of the ring (R151). -/
def Energy.meanPower (e : Energy) : Nat := (e.ring.map (·.power)).sum / e.ring.length

/-- Mean voltage of the ring (R151). -/
def Energy.meanVoltage (e : Energy) : Nat := (e.ring.map (·.voltage)).sum / e.ring.length

/-- The flags of the period when a tariff or AE account has just saturated (R159). -/
def Period.noteSaturated (p : Period) : Period := { p with flags := { p.flags with saturated := true } }

end Sys2Proof.Machine
end

