-- ==== Sys2Proof/Machine/Regulator.lean ====
section
/-! DEFINITION. The line regulator (chapter 8): the regulation cycle, periodic and out-of-turn, with its
desired target, ramp, capacity clamp, allocation and tracking supervision. -/

namespace Sys2Proof.Machine

/-- The demand trim as it enters D*: when it is offered and the supervisor is in RUN (R132). -/
def State.enteringTrim (s : State) : Option Nat :=
  if s.sup.state = .run then s.energy.limiter.trim else none

/-- The lesser of a value and an optional one. -/
def minWith (a : Nat) : Option Nat → Nat
  | some b => min a b
  | none => a

/-- The desired target D* (R132). -/
def State.desiredTarget (s : State) : Nat :=
  minWith (minWith (min (s.cfgN .baseSetpoint) s.lineMax) s.stack.term) s.enteringTrim

/-- The governing term of the desired target `d` (R132): the first in the order whose value equals it. -/
def State.governingTerm (s : State) (d : Nat) : Governing :=
  if s.stack.ceilingOf .utility = some d then .utility
  else if s.stack.ceilingOf .switching = some d then .switching
  else if s.stack.entries.head?.map (·.ceiling) = some d then .top
  else if s.enteringTrim = some d then .trim
  else .base

/-- The ramp step of a rate, in amperes per cycle (section 8.4). -/
def rampAmps (rate : Nat) : Nat := max 1 (rate / 5)

/-- The down rate that a governing term chooses (R134). -/
def State.downRate (s : State) (g : Governing) : Nat :=
  match g with
  | .utility => s.cfgN .rampUtility
  | .top =>
    match s.stack.entries.head?.bind (·.rate) with
    | some r => r
    | none => s.cfgN .rampDown
  | .switching | .trim | .base | .none => s.cfgN .rampDown

/-- What the ramp of a periodic cycle in RUN does (R133 to R135): the new target, the last step, and
whether a withheld trim-governed down step is reported to the Energy and Demand Unit. -/
structure RampResult where
  target : Nat
  step   : LastStep
  report : Bool
deriving DecidableEq, Repr

/-- The ramp of a periodic cycle in RUN toward `d`, governed by `gov` (R133 to R135). -/
def State.ramp (s : State) (d : Nat) (gov : Governing) : RampResult :=
  let prev := s.reg.previous
  if prev < d then
    if s.ae.hold then ⟨prev, .heldAe, false⟩
    else ⟨min d (prev + rampAmps (s.cfgN .rampUp)), .up, false⟩
  else if d < prev then
    if s.ae.hold && gov != .utility then ⟨prev, .heldAe, gov == .trim⟩
    else ⟨max d (prev - rampAmps (s.downRate gov)), .down, false⟩
  else ⟨prev, .none, false⟩

/-- The new target before the capacity clamp (R131 step 3, R136). -/
def State.newTarget (s : State) (periodic : Bool) (d : Nat) (gov : Governing) : RampResult :=
  if s.sup.state = .hold then ⟨s.reg.previous, .heldState, false⟩
  else if periodic then s.ramp d gov
  else ⟨s.reg.previous, .none, false⟩

/-- The allocation capacity C of a cycle (R137). -/
def State.sumAllocation (s : State) : Nat :=
  groupSum fun g => if s.allocatable g then s.allocCapacity g else 0

/-- The frozen total Z of a cycle (R137). -/
def State.sumFrozen (s : State) : Nat := groupSum fun g => if s.frozen g then s.frozenCurrent g else 0

/-- Giving out the remainder `r`, 1 A to each group whose quotient is below its allocation capacity, in
ascending order (R139). Each item holds a group, its allocation capacity and its quotient. -/
def giveOut : Nat → List (Group × Nat × Nat) → List (Group × Nat)
  | _, [] => []
  | r, (g, a, q) :: rest =>
    if 0 < r ∧ q < a then (g, q + 1) :: giveOut (r - 1) rest else (g, q) :: giveOut r rest

/-- The shares of the allocatable groups for the allocation amount `amount` (R139). -/
def State.allocate (s : State) (amount capacity : Nat) : List (Group × Nat) :=
  let items := (Group.all.filter s.allocatable).map fun g =>
    let a := s.allocCapacity g
    (g, a, if capacity = 0 then 0 else amount * a / capacity)
  if capacity = 0 then items.map fun x => (x.1, 0)
  else giveOut (amount - (items.map fun x => x.2.2).sum) items

/-- A write of a slot's desired value; a different value clears the rejected mark (R94, R95). -/
def ValueSlot.write (x : ValueSlot) (v : Nat) : ValueSlot :=
  if v = x.desired then x else { x with desired := v, rejected := false }

/-- The desired share of a group written into its share slot (R140). -/
def State.writeShare (s : State) (g : Group) (v : Nat) : State :=
  let u := s.unit g
  s.setUnit g { u with share := u.share.write v }

/-- The desired stage of a group written into its stage slot (R79, R95). -/
def State.writeStage (s : State) (g : Group) (v : Nat) : State :=
  let u := s.unit g
  s.setUnit g { u with stage := u.stage.write v }

/-- The join credit of an allocatable group grown for one periodic cycle (R81). -/
def State.growCredit (s : State) (g : Group) : State :=
  let c := (s.coolOf g).cap
  if s.allocatable g then
    s.setCap g { c with credit := min c.capacity (c.credit + s.cfgN (.group g .joinRate) / 5) }
  else s

/-- The AE_HELD flag of the open interval set, on the regulator's report (R158). -/
def State.markAeHeld (s : State) : State :=
  let e := s.energy
  s.setEnergy { e with interval := { e.interval with flags := { e.interval.flags with aeHeld := true } } }

/-- The distance between two currents. -/
def distance (a b : Nat) : Nat := (a - b) + (b - a)

/-- The tracking counts advanced by one periodic cycle (R141). -/
def State.countTracking (s : State) : State :=
  let r := s.reg
  s.setReg
    (if s.cfgN .trackTol < distance s.front.line.current r.applied then
      { r with outside := satInc 10 r.outside, inside := 0 }
    else { r with inside := satInc 10 r.inside, outside := 0 })

/-- The TRACKING flag changed when a count has reached 10 (R141). -/
def State.evalTracking (s : State) : State :=
  let r := s.reg
  let change := if r.tracking then decide (10 ≤ r.inside) else decide (10 ≤ r.outside)
  if change then
    (s.setReg { r with tracking := !r.tracking }).post .tracking 0
      [flagByte (!r.tracking), beBytes 3 s.front.line.current, beBytes 3 r.applied]
  else s

/-- Steps 2 to 6 of a cycle (R131): desired target, new target, clamp, store and allocation. -/
def State.setTarget (s : State) (periodic : Bool) : State :=
  let d := s.desiredTarget
  let gov := s.governingTerm d
  let ramp := s.newTarget periodic d gov
  let c := s.sumAllocation
  let z := s.sumFrozen
  let limited := decide (c + z < ramp.target)
  let target := min ramp.target (c + z)
  let amount := target - z
  let shares := s.allocate amount c
  let s1 := s.when ramp.report State.markAeHeld
  let s2 := s1.when (limited && !s.reg.limited) fun s =>
    s.post .capacityLimit 0 [beSigned 4 ((d : Int) - (target : Int))]
  let s3 := s2.setReg { s2.reg with
    applied := target, previous := target, desired := d, governing := gov, lastStep := ramp.step,
    limited := limited, capacityC := c, frozenZ := z, amount := amount,
    shares := shares.foldl (fun v x => v.set x.1 (some x.2)) (Six.const none) }
  shares.foldl (fun s x => s.writeShare x.1 x.2) s3

/-- A regulation cycle (R131), run in RUN and HOLD only (R129, R130, R142). `apart` leaves a change of the
TRACKING flag to the command TRACKING. -/
def State.cycle (s : State) (periodic apart : Bool) : State :=
  if s.regulating then
    let s1 := s.when periodic fun s => s.eachGroup State.growCredit
    let s2 := s1.setTarget periodic
    if periodic then s2.countTracking.when (!apart) State.evalTracking else s2
  else s

/-- An out-of-turn cycle (R130). -/
def State.outOfTurn (s : State) : State := s.cycle false false

/-- The regulator record at entry to SAFE (R142); the cycle timer stops (R129). -/
def Regulator.cleared (r : Regulator) : Regulator :=
  { r with applied := 0, previous := 0, desired := 0, governing := .none, lastStep := .none,
           limited := false, tracking := false, outside := 0, inside := 0, shares := Six.const none,
           cycleTimer := false }

end Sys2Proof.Machine
end

