-- ==== Sys2Proof/Machine/Slots.lean ====
section
/-! DEFINITION. The command slots of the group link (chapter 6): completion of a command and what waits
behind it, cooling stops, and the release of a STOP that waited for an unloading. -/

namespace Sys2Proof.Machine

/-- Outcomes of a command (R106). -/
inductive Completion where
  | done | rejected | busyTimeout | lost | superseded | withdrawn
deriving DecidableEq, Repr

/-- Codes of the outcomes (R186). -/
def Completion.code : Completion → Nat
  | .done => 0 | .rejected => 1 | .busyTimeout => 2 | .lost => 3 | .superseded => 4 | .withdrawn => 5

/-- A command as it enters a slot, WAITING (R96). -/
def Command.fresh (kind : CmdKind) (origin : Origin) (sendable : Bool) : Command :=
  { kind := kind, origin := origin, state := .waiting, seq := 0, firstSent := none, sendable := sendable }

/-- The event of a completion (R106): none for a command of origin COOLING that completes DONE. -/
def State.postCompletion (s : State) (g : Group) (c : Command) (o : Completion) (status : Nat) : State :=
  if o = .done ∧ c.origin = .cooling then s
  else
    s.post (if o = .done then .orderDone else .orderFailed) g.num
      [beBytes 1 c.origin.code, beBytes 1 c.origin.tag, beBytes 1 c.kind.orderCode, beBytes 1 c.seq,
       beBytes 1 o.code, beBytes 1 status]

/-- Whether a cooling stop is wanted of a group in this reported state (R78, R98). -/
def GroupState.stoppable : GroupState → Bool
  | .starting | .running | .unknown => true
  | .stopped | .stopping | .tripped => false

/-- A cooling STOP entered in an empty slot: WAITING_UNLOAD while the group is unloading, SENDABLE
otherwise (R98). -/
def State.enterCoolingStop (s : State) (g : Group) : State :=
  s.setUnit g { s.unit g with command := some (.fresh .stop .cooling (!(s.coolOf g).cap.unloading)) }

/-- What waits behind a command that has left the slot of `g` (R106, R98). -/
def State.resolveSlot (s : State) (g : Group) : State :=
  let u := s.unit g
  match u.resetFlag with
  | some o => s.setUnit g { u with command := some (.fresh .groupReset o true), resetFlag := none }
  | none =>
    if u.coolPending then
      let s1 := s.setUnit g { u with coolPending := false }
      if u.record.state.stoppable then s1.enterCoolingStop g else s1
    else s

/-- The command in the slot of `g` completes (R106). -/
def State.complete (s : State) (g : Group) (o : Completion) (status : Nat) : State :=
  match (s.unit g).command with
  | some c =>
    let s1 := s.setUnit g { s.unit g with command := none }
    (s1.postCompletion g c o status).resolveSlot g
  | none => s

/-- A cooling STOP handed over by the Cooling and Capacity Unit (R98). Where two rows of the table of R98
apply, a STOP not SENT comes first and the reset flag second (DESIGN CHOICE, log 9). A cooling stop pending mark
that stands while a command is replaced is kept (DESIGN CHOICE, log 9). -/
def State.placeCoolingStop (s : State) (g : Group) : State :=
  let u := s.unit g
  let defer := s.setUnit g { u with coolPending := true }
  match u.command with
  | none => if u.resetFlag.isSome then defer else s.enterCoolingStop g
  | some c =>
    if c.state = .sent then defer
    else if c.kind = .stop then s
    else if u.resetFlag.isSome then defer
    else if c.kind = .groupReset then defer
    else (s.postCompletion g c .superseded 0).enterCoolingStop g

/-- The STOP standing in WAITING_UNLOAD in the slot of `g` made SENDABLE (R97). -/
def State.releaseStop (s : State) (g : Group) : State :=
  let u := s.unit g
  match u.command with
  | some c => if c.kind = .stop then s.setUnit g { u with command := some { c with sendable := true } } else s
  | none => s

/-- A GROUP_RESET of the line computer taken into the slots (R96). A command that it supersedes completes
SUPERSEDED, and so does a GROUP_RESET that stood in the reset flag (DESIGN CHOICE, log 8). A cooling stop
pending mark that stands is kept: the slot does not become empty (DESIGN CHOICE, log 8). -/
def State.takeGroupReset (s : State) (g : Group) (o : Origin) : State :=
  let u := s.unit g
  let dropFlag := fun (s : State) =>
    match u.resetFlag with
    | some o' => s.postCompletion g (.fresh .groupReset o' true) .superseded 0
    | none => s
  match u.command with
  | none => s.setUnit g { u with command := some (.fresh .groupReset o true) }
  | some c =>
    if c.state = .sent then (dropFlag s).setUnit g { u with resetFlag := some o }
    else
      (dropFlag (s.postCompletion g c .superseded 0)).setUnit g
        { u with command := some (.fresh .groupReset o true), resetFlag := none }

/-- A START not in flight withdrawn at entry to SAFE (R107). -/
def State.withdrawStart (s : State) (g : Group) : State :=
  match (s.unit g).command with
  | some c => if c.kind = .start ∧ c.state ≠ .sent then s.complete g .withdrawn 0 else s
  | none => s

end Sys2Proof.Machine
end

