-- ==== Sys2Proof/Machine/Supervisor.lean ====
section
/-! DEFINITION. The line supervisor (chapter 1): its transitions, the group loss timer, and the notices
that follow a change of allocatability or frozenness (R91). -/

namespace Sys2Proof.Machine

/-! ### Join credits (R80) and the group loss timer (R13) -/

/-- A join credit seeded from the measured group current, clamped to `0..c_g` (R80). -/
def State.seedCredit (s : State) (g : Group) : State :=
  let c := (s.coolOf g).cap
  s.setCap g { c with credit := min c.capacity (s.chan (gcChan g)).value.toNat }

/-- A join credit cleared (R80). -/
def State.clearCredit (s : State) (g : Group) : State :=
  s.setCap g { (s.coolOf g).cap with credit := 0 }

/-- The join credit of `g` seeded or cleared, as it is allocatable or not (R7 step 3, R80). -/
def State.alignCredit (s : State) (g : Group) : State :=
  if s.allocatable g then s.seedCredit g else s.clearCredit g

/-- The group loss timer started or stopped for the groups as they stand, in RUN and HOLD (R13). -/
def State.evalLossTimer (s : State) : State :=
  if s.regulating then
    if s.anyCarrier then s.setSup { s.sup with lossTimer := none }
    else s.setSup { s.sup with lossTimer := some (s.sup.lossTimer.getD s.ticks) }
  else s

/-- Which groups are allocatable and which are frozen. -/
structure Carriage where
  alloc  : Six Bool
  frozen : Six Bool
deriving DecidableEq, Repr

/-- Which groups are allocatable and which are frozen, as the records stand (R91). -/
def State.carriage (s : State) : Carriage := ⟨Six.ofFn s.allocatable, Six.ofFn s.frozen⟩

/-- The join credit of `g` brought into line when its allocatability is no longer `was` (R80). -/
def State.alignIfChanged (s : State) (was : Six Bool) (g : Group) : State :=
  if s.allocatable g = was.get g then s else s.alignCredit g

/-- The notices of R91 for a change since `before`: the join credits, then the group loss timer, then one
out-of-turn cycle. `cause` says that the event is itself a cause of an out-of-turn cycle (R130); what it
brings together is taken as one change. -/
def State.notice (s : State) (before : Carriage) (cause : Bool) : State :=
  let changed := s.carriage != before
  let s1 := s.eachGroup fun s g => s.alignIfChanged before.alloc g
  let s2 := s1.when changed State.evalLossTimer
  s2.when (changed || cause) State.outOfTurn

/-! ### Transitions -/

/-- A change of supervisor state with its entry cause; SUP_STATE is posted by `postSupState`. -/
def State.enter (s : State) (st : SupState) (cause : EntryCause) : State :=
  s.setSup { s.sup with state := st, cause := cause }

/-- SUP_STATE, for a change that left the state `left` (R16). -/
def State.postSupState (s : State) (left : SupState) : State :=
  s.post .supState 0
    [beBytes 1 s.sup.state.code, beBytes 1 left.code, beBytes 1 s.sup.cause.code]

/-- Entry to SAFE, from whichever state and for whichever cause (R11), with the withdrawal of STARTs
(R107) and the clearing of the regulator record (R142). SUP_STATE and SAFE are posted first, and then ORDER_FAILED
for the STARTs withdrawn, the groups in ascending number, an order that the manual leaves open (DESIGN CHOICE,
unsafe, log 40). -/
def State.enterSafe (s : State) (cause : EntryCause) : State :=
  let left := s.sup.state
  let s1 := s.setSup { s.sup with state := .safe, cause := cause, lossTimer := none }
  let s2 := s1.postSupState left
  let s3 := s2.post .safe 0 [beBytes 1 cause.code]
  let s4 := s3.eachGroup State.withdrawStart
  s4.setReg s4.reg.cleared

/-- The SAFE entry that an ASSERTED level brings outside SAFE (R12). -/
def State.safeIfAsserted (s : State) : State :=
  if s.sup.safeLevel && s.sup.state != .safe then s.enterSafe .safeInput else s

/-- The registered SAFE level becomes `level` (R3, R12). -/
def State.registerSafe (s : State) (level : Bool) : State :=
  (s.setSup { s.sup with safeLevel := level, safeRun := 0 }).safeIfAsserted

/-- Whether the SAFE pin has read `level`, which is not the registered one, at two boundaries in a row (R3). -/
def State.safeDue (s : State) (level : Bool) : Bool :=
  level != s.sup.safeLevel && decide (2 ≤ s.sup.safeRun)

/-- A sample in FAULT taken in RUN moves the supervisor to HOLD (R10). -/
def State.measurementHold (s : State) : State :=
  if s.sup.state = .run ∧ s.front.line.state = .fault then
    (s.enter .hold .measurement).postSupState .run
  else s

/-- Whether the group loss timer has run 5.0 s, measured on the boundaries of the time base: 50 of them (R13,
DEDUCED, log 7). -/
def State.lossDue (s : State) : Bool :=
  match s.sup.lossTimer with
  | some start => decide (start + 50 ≤ s.ticks)
  | none => false

/-- The expiry of the group loss timer, when it has run 5.0 s in RUN or HOLD (R13). -/
def State.lossTimeout (s : State) : State :=
  if s.regulating && s.lossDue then s.enterSafe .noGroup else s

/-! ### The requests of the line computer -/

/-- RUN validation (R5): ACCEPTED, or the reason of the first condition that fails. -/
def State.runValidation (s : State) : RunOutcome :=
  if !s.energy.clockSet then .clockNotSet
  else if !(Group.all.any s.fitted) then .noGroup
  else if s.scan.table.isEmpty then .noScanTable
  else if !s.adopted then .adoptionIncomplete
  else if s.front.line.state = .fault then .lineFault
  else .accepted

/-- Entry to RUN (R7). -/
def State.runEntry (s : State) : State :=
  let s1 := s.enter .run .runRequest
  let s2 := s1.setReg { s1.reg with previous := min s1.front.line.current s1.lineMax }
  let s3 := s2.eachGroup State.alignCredit
  let s4 := s3.evalLossTimer
  let s5 := s4.cycle true false
  let s6 := s5.setReg { s5.reg with cycleTimer := true }
  s6.postSupState .setup

/-- A RUN request at ENGINEER authority (R4). -/
def State.runRequest (s : State) : Reply × State :=
  if s.sup.state = .setup then
    let outcome := s.runValidation
    let s1 := s.setSup { s.sup with lastRun := outcome }
    if outcome = .accepted then (Reply.bare .ok, s1.runEntry)
    else (⟨.notReady, beBytes 1 outcome.code⟩, s1)
  else (Reply.bare .wrongState, s)

/-- A HOLD request (R8). -/
def State.holdRequest (s : State) : Reply × State :=
  match s.sup.state with
  | .run => (Reply.bare .ok, (s.enter .hold .holdRequest).postSupState .run)
  | .hold => (Reply.bare .ok, s)
  | .setup => (Reply.bare .wrongState, s)
  | .safe => (Reply.bare .wrongState, s)

/-- A RELEASE request (R9). -/
def State.releaseRequest (s : State) : Reply × State :=
  if s.sup.state = .hold then
    if s.front.line.state = .fault then (⟨.notReady, beBytes 1 RunOutcome.lineFault.code⟩, s)
    else (Reply.bare .ok, (s.enter .run .releaseRequest).postSupState .hold)
  else (Reply.bare .wrongState, s)

end Sys2Proof.Machine
end

