-- ==== Sys2Proof/Machine/Cooling.lean ====
section
/-! DEFINITION. The cooling and capacity unit (chapter 5): the evaluation of a loop at a line sample, the
cooling stop, and the beginning, end and cancelling of an unloading. -/

namespace Sys2Proof.Machine

/-! ### Factors and capacity (R74 to R76) -/

/-- Outlet temperature T of a loop, the held value when the channel is INVALID (R74). -/
def State.outlet (s : State) (g : Group) : Int := (s.chan (toChan g)).value

/-- The derate points of a loop, in order (section 5.2). -/
def State.curve (s : State) (g : Group) : List (Int × Int) :=
  (List.finRange 8).map fun k =>
    let v := s.cfg (.loop g (.derate k))
    (derateTemp v, derateFactor v)

/-- The factor at `t` on the segments that start at the point `(ta, fa)` (R74); the division is rounded
toward minus infinity. -/
def curveFrom (ta fa : Int) (t : Int) : List (Int × Int) → Int
  | [] => fa
  | (tb, fb) :: rest =>
    if t < tb then fa + (fb - fa) * (t - ta) / (tb - ta) else curveFrom tb fb t rest

/-- The factor of a derate curve at `t` (R74): the first point's below it. -/
def curveAt (pts : List (Int × Int)) (t : Int) : Int :=
  match pts with
  | [] => 0
  | (ta, fa) :: rest => if t < ta then fa else curveFrom ta fa t rest

/-- Whether TO or FL of a loop has had 100 or more samples INVALID in a row (R75). -/
def State.outletFailed (s : State) (g : Group) : Bool := decide (100 ≤ (s.chan (toChan g)).invalidRun)
def State.flowFailed (s : State) (g : Group) : Bool := decide (100 ≤ (s.chan (flChan g)).invalidRun)

/-- Whether the SENSOR_FAULT condition of a loop differs from its field (R75). -/
def State.sensorDiffers (s : State) (g : Group) : Bool :=
  (s.outletFailed g || s.flowFailed g) != (s.coolOf g).loop.fault

/-- Step 1 of R73: the sensor fault field follows the condition, with COOLING_SENSOR at a change (R75, R186).
Bits 2 to 7 of its channels byte, which R186 does not name, are 0 (DESIGN CHOICE, unsafe, log 42). -/
def State.evalSensor (s : State) (g : Group) : State :=
  if s.sensorDiffers g then
    let fault := s.outletFailed g || s.flowFailed g
    (s.setLoop g { (s.coolOf g).loop with fault := fault }).post .coolingSensor g.num
      [flagByte fault, beBytes 1 ((s.outletFailed g).toNat + 2 * (s.flowFailed g).toNat)]
  else s

/-- Step 2 of R73: the factors of a loop (R74, R75, R76). -/
def State.evalFactors (s : State) (g : Group) : State :=
  let l := (s.coolOf g).loop
  let fT := (curveAt (s.curve g) (s.outlet g)).toNat
  let fF := if (s.chan (flChan g)).value < s.cfg (.loop g .flowMin) then s.cfgN (.loop g .flowFactor) else 1000
  let fS := if l.fault then s.cfgN (.loop g .sensorFactor) else 1000
  s.setLoop g { l with tempFactor := fT, flowFactor := fF, senseFactor := fS, factor := min fT (min fF fS) }

/-- Step 3 of R73: the capacity, and the join credit brought down to it (R76, R81). -/
def State.evalCapacity (s : State) (g : Group) : State :=
  let c := (s.coolOf g).cap
  let cap := s.cfgN (.group g .rated) * (s.coolOf g).loop.factor / 1000
  s.setCap g { c with capacity := cap, credit := min c.credit cap }

/-! ### Cooling state, dwell and stage (R77 to R79) -/

/-- The cooling state after a sample (R77). -/
def State.nextCoolState (s : State) (g : Group) : CoolState :=
  let l := (s.coolOf g).loop
  let crit := s.cfg (.loop g .critTemp)
  let bound := if l.state = .critical then crit - 20 else crit
  if bound ≤ s.outlet g then .critical else if l.factor = 1000 then .normal else .derated

/-- Step 4 of R73, with COOLING_STATE at a change (R77), and the dwell set to 0 at entry to CRITICAL and
STOPPED, with stop begun NO, on leaving it (R78). -/
def State.evalCoolState (s : State) (g : Group) : State :=
  let l := (s.coolOf g).loop
  let st := s.nextCoolState g
  if st = l.state then s
  else
    (s.setLoop g
      { l with state := st,
               dwell := if st = .critical then some 0 else if l.state = .critical then none else l.dwell,
               begun := if l.state = .critical then false else l.begun }).post .coolingState g.num
      [beBytes 1 st.code, beBytes 1 l.state.code, beBytes 2 l.factor]

/-- The critical dwell advanced at a sample that finds and leaves the loop CRITICAL (R78); `before` is the
cooling state before the sample. -/
def State.advanceDwell (s : State) (g : Group) (before : CoolState) : State :=
  let l := (s.coolOf g).loop
  if before = .critical ∧ l.state = .critical then
    s.setLoop g { l with dwell := l.dwell.map (satInc 65535) }
  else s

/-- The highest stage `k` of those listed with T at or above its threshold less `hyst` (R79). -/
def highestStage (t : Int) (hyst : Int) : List (Nat × Int) → Nat
  | [] => 0
  | (k, on) :: rest => max (if on - hyst ≤ t then k else 0) (highestStage t hyst rest)

/-- The stage of a loop after a sample (R79). -/
def State.nextStage (s : State) (g : Group) : Nat :=
  let l := (s.coolOf g).loop
  let t := s.outlet g
  let table := [(1, s.cfg (.loop g (.stageOn 0))), (2, s.cfg (.loop g (.stageOn 1))),
                (3, s.cfg (.loop g (.stageOn 2)))]
  if l.fault then 3
  else max (highestStage t 0 table) (highestStage t (s.cfg .stageHyst) (table.take l.stage))

/-- Step 6 of R73: a stage that differs is written into the stage slot (R79). -/
def State.evalStage (s : State) (g : Group) : State :=
  let l := (s.coolOf g).loop
  let k := s.nextStage g
  if k = l.stage then s else (s.setLoop g { l with stage := k }).writeStage g k

/-! ### Unloading (R83 to R85) -/

/-- An unloading begun, if the phase is NONE (R83). The out-of-turn cycle is the event's last part. -/
def State.beginUnload (s : State) (g : Group) (o : UnloadOrigin) : State :=
  let c := (s.coolOf g).cap
  if c.unloading then s else s.setCap g { c with unloading := true, origin := o, timer := 0 }

/-- An unloading ended or cancelled, and the STOP that waits on it released (R84, R85, R97). -/
def State.endUnload (s : State) (g : Group) (cause : UnloadEnd) : State :=
  let c := (s.coolOf g).cap
  if c.unloading then (s.setCap g { c with unloading := false, lastEnd := cause }).releaseStop g else s

/-- Whether GC of a group is VALID at or below G_UNLOAD_LEVEL (R84). -/
def State.levelMet (s : State) (g : Group) : Bool :=
  let c := s.chan (gcChan g)
  c.valid && decide (c.value ≤ s.cfg (.group g .unloadLevel))

/-- Whether the unload timer has reached G_UNLOAD_TIME (R84). -/
def State.unloadTimeUp (s : State) (g : Group) : Bool :=
  decide (s.cfgN (.group g .unloadTime) * 10 ≤ (s.coolOf g).cap.timer)

/-- Step 7 of R73 (R84). `apart` leaves an end by TIME to UNLOAD_TIME_END. -/
def State.evalUnload (s : State) (g : Group) (apart : Bool) : State :=
  let c := (s.coolOf g).cap
  if c.unloading then
    let s1 := s.setCap g { c with timer := satInc 3000 c.timer }
    if s1.levelMet g then s1.endUnload g .level
    else if !apart && s1.unloadTimeUp g then s1.endUnload g .time
    else s1
  else s

/-! ### The cooling stop (R78) -/

/-- Whether a cooling stop of the loop is due (R78). -/
def State.stopDue (s : State) (g : Group) : Bool :=
  let l := (s.coolOf g).loop
  !l.begun &&
    match l.dwell with
    | some d => decide (s.cfgN (.loop g .critDwell) * 10 ≤ d)
    | none => false

/-- A cooling stop begun, but for the out-of-turn cycle (R78). -/
def State.beginCoolingStop (s : State) (g : Group) : State :=
  let s1 := s.setLoop g { (s.coolOf g).loop with begun := true }
  let s2 := s1.when (s1.allocatable g) fun s => s.beginUnload g .cooling
  let handed := (s2.unit g).record.state.stoppable
  let s3 := s2.when handed fun s => s.placeCoolingStop g
  s3.post .coolingStop g.num [beSigned 2 (s3.outlet g), flagByte handed]

/-! ### Evaluation of a loop (R73)

The seven steps of a loop are taken in their order. With `apart`, an evaluation that comes to a change of the
sensor fault field or to a cooling stop halts there, and COOLING_SENSOR or COOLING_STOP goes on from that step
(log 2). -/

/-- Steps 2 to 4 of R73, without the advance of the dwell. -/
def State.evalState (s : State) (g : Group) : State :=
  ((s.evalFactors g).evalCapacity g).evalCoolState g

/-- Step 5 of R73, once the dwell has been advanced: the cooling stop, when it is due. -/
def State.evalStop (s : State) (apart : Bool) (g : Group) : State :=
  if s.stopDue g then if apart then s.setLeft g .stop else s.beginCoolingStop g else s

/-- Steps 1 to 5 of R73, from the change of the sensor fault field on. -/
def State.evalHead (s : State) (apart : Bool) (g : Group) : State :=
  let s1 := s.evalSensor g
  ((s1.evalState g).advanceDwell g (s1.coolOf g).loop.state).evalStop apart g

/-- Steps 1 to 5 of R73 for the loop of a fitted group. An evaluation that an earlier sample left halted is
begun anew (log 2). -/
def State.evalLoop (s : State) (apart : Bool) (g : Group) : State :=
  if s.fitted g then
    let s1 := s.setLeft g .none
    if apart && s1.sensorDiffers g then s1.setLeft g .sensor else s1.evalHead apart g
  else s

/-- Steps 6 and 7 of R73 for the loop of a fitted group whose evaluation has not halted before them. `apart`
leaves an end by TIME, which is the last step, to UNLOAD_TIME_END. -/
def State.evalStageUnload (s : State) (apart : Bool) (g : Group) : State :=
  if s.fitted g && (s.coolOf g).left == .none then (s.evalStage g).evalUnload g apart else s

/-- The groups that are unloading. -/
def State.phases (s : State) : Six Bool := Six.ofFn fun g => (s.coolOf g).cap.unloading

/-- `head` and then `tail`, and as the last part one out-of-turn cycle, if an unloading has begun or ended in
either of them (R82, R130). -/
def State.withUnloadCycle (s : State) (head tail : State → State) : State :=
  let s1 := head s
  let s2 := tail s1
  s2.when (s1.phases != s.phases || s2.phases != s1.phases) State.outOfTurn

/-- The evaluation of every loop at a line sample (R73). The loops being independent, the first five steps are
taken for all of them, then the last two. Each time the groups are taken in ascending number, which orders what
several loops post at one sample (DESIGN CHOICE, unsafe, log 43). -/
def State.evalLoops (s : State) (apart : Bool) : State :=
  s.withUnloadCycle (fun s => s.eachGroup fun s g => s.evalLoop apart g)
    (fun s => s.eachGroup fun s g => s.evalStageUnload apart g)

/-! ### Steps of a sample taken as commands of their own -/

/-- The evaluation of a loop gone on with from step 1, a change of the sensor fault field (R73, R75). -/
def State.sensorChange (s : State) (g : Group) : State :=
  if s.fitted g && (s.coolOf g).left == .sensor && s.sensorDiffers g then
    s.withUnloadCycle (fun s => (s.setLeft g .none).evalHead true g) (fun s => s.evalStageUnload true g)
  else s

/-- The evaluation of a loop gone on with from step 5, a cooling stop (R73, R78). -/
def State.coolingStop (s : State) (g : Group) : State :=
  if s.fitted g && (s.coolOf g).left == .stop && s.stopDue g then
    s.withUnloadCycle (fun s => (s.setLeft g .none).beginCoolingStop g) (fun s => s.evalStageUnload true g)
  else s

/-- The end of an unloading by TIME (R84). -/
def State.unloadTimeEnd (s : State) (g : Group) : State :=
  if s.fitted g && (s.coolOf g).cap.unloading && !s.levelMet g && s.unloadTimeUp g then
    s.withUnloadCycle (fun s => s.endUnload g .time) id
  else s

/-! ### Resets -/

/-- The unit's part in a line reset, before the slots are cleared (R86). -/
def State.coolingLineReset (s : State) (g : Group) : State :=
  let c := s.coolOf g
  s.setCoolOf g
    { c with
      loop := { c.loop with dwell := c.loop.dwell.map fun _ => 0, begun := false },
      cap := if c.cap.unloading then { c.cap with unloading := false, lastEnd := .lineReset } else c.cap }

/-- The unit's part in a line reset, once the slots are cleared: the stages written anew (R86). -/
def State.rewriteStage (s : State) (g : Group) : State :=
  if s.fitted g then s.writeStage g (s.coolOf g).loop.stage else s

/-- The records of a group that is unfitted (R73). -/
def State.unfitCooling (s : State) (g : Group) : State :=
  s.setCoolOf g Cooling.initial

end Sys2Proof.Machine
end

