-- ==== Sys2Proof/Machine/HostLink.lean ====
section
/-! DEFINITION. The host link (chapter 10): the receiver and its queue, the transmitter, the taking of a
request with its tests, authority and reply, the fetching of events, and IDENTIFY. -/

namespace Sys2Proof.Machine

/-! ### Receiving (R165 to R167) -/

/-- SYNC of a host link frame (R165). -/
def hostSync : Byte := 0xC3#8

/-- A counter of the link counted up, saturating at 65,535 (R167). -/
def bump (n : Nat) : Nat := satInc Config.counterMax n

/-- The receiver's state replaced. -/
def State.setReceiver (s : State) (r : Receiver) : State := s.setHost { s.host with receiver := r }

/-- A good frame read from its bytes after SYNC (R165). -/
def readFrame (got : List Byte) : Frame :=
  { kind := got.getD 2 0#8, tag := got.getD 3 0#8, flags := got.getD 4 0#8,
    payload := (got.drop 5).take (got.length - 7) }

/-- A good frame offered to the receive queue (R167). -/
def HostLink.offer (h : HostLink) (f : Frame) : HostLink :=
  if h.queue.length < Config.rxQueueSize then { h with queue := h.queue ++ [f] }
  else { h with overruns := bump h.overruns }

/-- One byte taken in GATHERING, `got` being the bytes after SYNC with it (R166). -/
def HostLink.gather (h : HostLink) (got : List Byte) : HostLink :=
  let len := beNat (got.take 2)
  if got.length < 2 then { h with receiver := .gathering got }
  else if Config.maxPayload < len then { h with receiver := .hunting, badLen := bump h.badLen }
  else if got.length < len + 7 then { h with receiver := .gathering got }
  else if crcGood got then { h with receiver := .hunting }.offer (readFrame got)
  else { h with receiver := .hunting, crcErrors := bump h.crcErrors }

/-- One byte received (R166). -/
def HostLink.receive (h : HostLink) (b : Byte) : HostLink :=
  match h.receiver with
  | .hunting => if b = hostSync then { h with receiver := .gathering [] } else h
  | .gathering got => h.gather (got ++ [b])

/-- Bytes received one after another without a gap (R166). -/
def State.receive (s : State) (bytes : List Byte) : State :=
  s.setHost (bytes.foldl HostLink.receive s.host)

/-- A gap of more than 5 ms in a frame (R166). -/
def State.frameGap (s : State) : State :=
  match s.host.receiver with
  | .hunting => s
  | .gathering _ => s.setHost { s.host with receiver := .hunting, timeouts := bump s.host.timeouts }

/-! ### Sending (R165, R169) -/

/-- A frame of the part, with SYNC and CRC (R165). -/
def hostFrame (kind tag flags : Byte) (payload : List Byte) : List Byte :=
  hostSync :: withCrc (beBytes 2 payload.length ++ [kind, tag, flags] ++ payload)

/-- FLAGS of a frame of the part: bits 0 and 1 of R170, and the level of ATTN in bit 2 (R178). -/
def State.frameFlags (s : State) (used asked : Bool) : Byte :=
  BitVec.ofNat 8 (used.toNat + 2 * asked.toNat + 4 * s.events.attn.toNat)

/-- A scan report segment as a SCAN_FRAME, as it is formed when its sending begins (R169, R183). Bits 3 to 7 of its
FLAGS, which R169 does not name, are 0 as in a reply (DESIGN CHOICE, unsafe, log 42). -/
def State.scanFrame (s : State) (x : Segment) : List Byte :=
  hostFrame 0x80#8 0#8 (s.frameFlags false false) x.bytes

/-- The transmitter, when IDLE, begins a waiting reply, or else the oldest buffered segment (R169). -/
def State.kick (s : State) : State :=
  match s.host.transmitter with
  | .idle =>
    match s.host.waiting with
    | some r => s.setHost { s.host with transmitter := .sendingReply r, waiting := none }
    | none =>
      match s.scan.segments with
      | x :: _ => s.setHost { s.host with transmitter := .sendingReport (s.scanFrame x) }
      | [] => s
  | .sendingReply _ => s
  | .sendingReport _ => s

/-- The frame being sent has been sent whole (R169); a segment then leaves the report buffer (R45). -/
def State.frameSent (s : State) : State :=
  match s.host.transmitter with
  | .idle => s
  | .sendingReply _ => (s.setHost { s.host with transmitter := .idle }).kick
  | .sendingReport _ =>
    ((s.setScan { s.scan with segments := s.scan.segments.drop 1 }).setHost
      { s.host with transmitter := .idle }).kick

/-- A reply handed to the transmitter (R168, R169). -/
def State.handReply (s : State) (frame : List Byte) : State :=
  (s.setHost { s.host with waiting := some frame }).kick

/-! ### Taking a request (R168, R170) -/

/-- Whether a request asks for ENGINEER authority (R170). -/
def Frame.asks (f : Frame) : Bool := f.flags.getLsbD 0

/-- Whether a request is handled at ENGINEER authority (R170). -/
def State.engineer (s : State) (f : Frame) : Bool := f.asks && s.host.keyLevel

/-- KIND of the reply to a request (R168). -/
def replyKind (kind : Byte) : Byte := if kind.toNat < 0x40 then kind + 0x40#8 else 0x7F#8

/-- The reply to the request `f`, taken at ENGINEER authority if `eng`, formed and handed over (R168). -/
def State.answer (s : State) (f : Frame) (eng : Bool) (r : Reply) : State :=
  s.handReply (hostFrame (replyKind f.kind) f.tag (s.frameFlags eng (f.asks && !eng))
    (beBytes 1 r.result.code ++ r.body))

/-- The oldest frame taken as a request, when no reply waits to be sent and the frame is one that `mine`
picks (R168); otherwise nothing happens (log 1). `handler` is given the frame, whether it is handled at
ENGINEER authority, and the state without the frame. -/
def State.takeRequest (s : State) (mine : Frame → Bool)
    (handler : Frame → Bool → State → Reply × State) : State :=
  match s.host.queue with
  | [] => s
  | f :: rest =>
    if s.host.waiting.isSome || !mine f then s
    else
      let eng := s.engineer f
      let out := handler f eng (s.setHost { s.host with queue := rest })
      out.2.answer f eng out.1

/-- Whether a frame is a request of kind `k`. -/
def Frame.isKind (f : Frame) (k : RequestKind) : Bool := RequestKind.ofByte? f.kind == some k

/-- A request of a known kind: the tests of R168 and then the rule of its kind. -/
def RequestKind.handle (k : RequestKind) (rule : List Byte → Bool → State → Reply × State)
    (f : Frame) (eng : Bool) (s : State) : Reply × State :=
  if k.engineerOnly && !eng then (Reply.bare .notPermitted, s)
  else if !k.lengthOk f.payload then (Reply.bare .badLength, s)
  else rule f.payload eng s

/-- The taking of a request of kind `k`, whose rule is `rule`. -/
def State.serve (s : State) (k : RequestKind) (rule : List Byte → Bool → State → Reply × State) : State :=
  s.takeRequest (·.isKind k) (k.handle rule)

/-- The taking of a request of unknown KIND (R168 test 1). -/
def State.serveBadKind (s : State) : State :=
  s.takeRequest (fun f => (RequestKind.ofByte? f.kind).isNone) fun f _ s => (⟨.badKind, [f.kind]⟩, s)

/-! ### The key switch (R170) -/

/-- The registered key level becomes `level`. -/
def State.registerKey (s : State) (level : Bool) : State :=
  s.setHost { s.host with keyLevel := level, keyRun := 0 }

/-- Whether the ENG_KEY pin has read `level`, which is not the registered one, at two boundaries in a row
(R170). -/
def HostLink.keyDue (h : HostLink) (level : Bool) : Bool := level != h.keyLevel && decide (2 ≤ h.keyRun)

/-- The ENG_KEY pin read at a boundary (R170). `apart` leaves a registration to ENG_KEY_CHANGE (log 2). -/
def State.readKey (s : State) (pin : Bool) (apart : Bool) : State :=
  let n := if pin = s.host.keyLevel then 0 else satInc 2 s.host.keyRun
  if 2 ≤ n && !apart then s.registerKey pin else s.setHost { s.host with keyRun := n }

/-! ### Events fetched (R177, R178) -/

/-- The entry that GET_EVENT returns: the earliest of the highest class present (R177). -/
def EventQueue.next (q : EventQueue) : Option Event :=
  match q.entries.find? (fun e => e.kind.cls == 2) with
  | some e => some e
  | none =>
    match q.entries.find? (fun e => e.kind.cls == 1) with
    | some e => some e
    | none => q.entries.head?

/-- The queue without the entry `e`; OVERRUN becomes CLEAR when it empties (R176, R177). -/
def EventQueue.take (q : EventQueue) (e : Event) : EventQueue :=
  let rest := q.entries.filter fun x => !x.about e.kind e.subject
  { q with entries := rest, overrun := q.overrun && !rest.isEmpty }

/-- GET_EVENT (R177). The empty entry's fields besides its kind are open (log 14). -/
def State.getEvent (s : State) : Reply × State :=
  let q := s.events
  match q.next with
  | some e =>
    let s1 := (s.setEvents (q.take e)).evalAttn
    (⟨.ok, beBytes 1 s1.events.entries.length ++ flagByte q.overrun ++ e.bytes⟩, s1)
  | none =>
    let open_ := s.openBytes 22
    (⟨.ok, beBytes 1 0 ++ flagByte q.overrun ++ [0#8] ++ open_.1⟩, open_.2)

/-! ### IDENTIFY (R164, R179) -/

/-- The host link rate, in baud, of a strap code (R164). -/
def baudRate (code : Nat) : Nat :=
  match code with
  | 0 => 57600 | 1 => 115200 | 2 => 460800 | _ => 921600

/-- IDENTIFY (R179). -/
def State.identify (s : State) : Reply × State :=
  (⟨.ok, beBytes 1 Config.familyCode ++ beBytes 2 Config.partNumber ++ beBytes 1 Config.revision
      ++ beBytes 4 (baudRate s.host.baudCode) ++ beBytes 1 Config.rxQueueSize
      ++ beBytes 1 Config.eventQueueSize ++ beBytes 2 Config.maxPayload⟩, s)

end Sys2Proof.Machine
end

