-- ==== Sys2Proof/Machine/GroupLink.lean ====
section
/-! DEFINITION. The rectifier group link (chapter 6): sending an order, taking its outcome, the timers, the
trip inputs, the line computer's group orders, and GET_GROUP. -/

namespace Sys2Proof.Machine

/-! ### Sending (R99, R184) -/

/-- SYNC of a group link frame (R184). -/
def groupSync : Byte := 0x96#8

/-- An order frame (R184). -/
def orderFrame (g : Group) (o : Order) (seq : Nat) : List Byte :=
  groupSync :: withCrc
    (beBytes 1 g.num ++ beBytes 1 o.code ++ beBytes 1 seq ++ beBytes 1 o.parameter.length ++ o.parameter)

/-- A command as it is sent under `seq` (R99): the time of first sending is noted if it was WAITING. -/
def Command.sent (c : Command) (seq : Nat) (now : FirstSent) : Command :=
  { c with state := .sent, seq := seq, firstSent := if c.state = .waiting then some now else c.firstSent }

/-- The unit of a group after the order `o` has been sent to it under `seq` (R99). -/
def GroupUnit.sending (u : GroupUnit) (o : Order) (seq : Nat) (now : FirstSent) : GroupUnit :=
  let u1 := { u with record := { u.record with seq := seq } }
  match o with
  | .command _ => { u1 with command := u.command.map fun c => c.sent seq now }
  | .sense => u1
  | .setShare _ => u1
  | .setStage _ => u1

/-- The order `o` sent to group `g` (R99). -/
def State.sendOrder (s : State) (g : Group) (o : Order) : State :=
  let u := s.unit g
  let seq := (u.record.seq + 1) % 256
  let origin := match o with
    | .command _ => u.command.map (·.origin)
    | .sense => none
    | .setShare _ => none
    | .setStage _ => none
  let s1 := s.setUnit g (u.sending o seq ⟨s.energy.time, s.ticks⟩)
  s1.setLink { s1.link with
    bus := .awaiting { group := g, order := o, seq := seq, origin := origin }, lastServed := g,
    lastOrder := orderFrame g o seq }

/-- The arbiter chooses one order and sends it, when the link is IDLE and an offer stands (R99). -/
def State.orderSend (s : State) : State :=
  if s.link.bus = .idle then
    match s.chosen with
    | some (g, o) => s.sendOrder g o
    | none => s
  else s

/-! ### Replies (R89, R101, R184) -/

/-- Conditions of a reply (R184). -/
inductive Condition where
  | accepted | rejected | busy
deriving DecidableEq, Repr

/-- The condition that a code names (R184). -/
def Condition.ofCode? (n : Nat) : Option Condition :=
  match n with
  | 0 => some .accepted | 1 => some .rejected | 2 => some .busy | _ => none

/-- The state that a reply's state code names (R184). -/
def GroupState.ofCode? (n : Nat) : Option GroupState :=
  match n with
  | 1 => some .stopped | 2 => some .starting | 3 => some .running | 4 => some .stopping | 5 => some .tripped
  | _ => none

/-- A valid reply (R184); `capture` holds the payload of an ACCEPTED CAPTURE. -/
structure GroupReply where
  condition : Condition
  status    : Nat
  state     : GroupState
  current   : Nat
  capture   : List Byte
deriving DecidableEq, Repr

/-- The LOCAL status bit (R184). -/
def GroupReply.isLocal (r : GroupReply) : Bool := r.status.testBit 3

/-- Length of a reply, from the order's KIND and the condition (R184). -/
def replyLength (o : Order) (c : Condition) : Nat :=
  if o = .command .capture ∧ c = .accepted then 22 else 13

/-- The valid reply to the order in flight `o` that the bytes make, if they make one (R101, R184). -/
def readReply (o : InFlight) (bytes : List Byte) : Option GroupReply :=
  match Condition.ofCode? (field bytes 4 1), GroupState.ofCode? (field bytes 6 1) with
  | some c, some st =>
    if bytes.getD 0 0#8 = groupSync ∧ field bytes 1 1 = o.group.num + 0x80 ∧ field bytes 2 1 = o.order.code
        ∧ field bytes 3 1 = o.seq ∧ bytes.length = replyLength o.order c ∧ crcGood (bytes.drop 1) then
      some { condition := c, status := field bytes 5 1, state := st, current := field bytes 7 4,
             capture := (bytes.drop 11).take (bytes.length - 13) }
    else none
  | _, _ => none

/-- The group record after a valid reply, whatever its condition (R89). -/
def GroupRecord.take (r : GroupRecord) (x : GroupReply) : GroupRecord :=
  { r with state := x.state, current := x.current, isLocal := x.isLocal, reachable := true }

/-- The record of a group replaced. -/
def State.setRecord (s : State) (g : Group) (r : GroupRecord) : State :=
  s.setUnit g { s.unit g with record := r }

/-- A valid reply taken into the group record, with its events (R89, R108). -/
def State.takeRecord (s : State) (g : Group) (x : GroupReply) : State :=
  let r := (s.unit g).record
  let s1 := s.setRecord g (r.take x)
  let s2 := s1.when (x.state != r.state) fun s =>
    s.post .groupState g.num [beBytes 1 x.state.code, beBytes 1 r.state.code]
  let s3 := s2.when (x.state == .tripped && r.state != .tripped) fun s =>
    s.post .groupTrip g.num [beBytes 1 2, flagByte r.trip]
  let s4 := s3.when (x.isLocal != r.isLocal) fun s => s.post .groupLocal g.num [flagByte x.isLocal]
  s4.when (!r.reachable) fun s => s.post .groupUnreachable g.num [flagByte true]

/-- The capture payload as a record (R102, R184). -/
def readCapture (payload : List Byte) (time : Time) (seq : Nat) : Capture :=
  { angle := field payload 0 2, tap := field payload 2 1, voltage := field payload 3 4,
    alarms := field payload 7 2, time := time, seq := seq }

/-- The effect of an ACCEPTED reply (R102). -/
def State.accept (s : State) (o : InFlight) (x : GroupReply) : State :=
  let g := o.group
  let r := (s.unit g).record
  match o.order with
  | .sense => s
  | .setShare v => s.setRecord g { r with ackShare := v }
  | .setStage v => s.setRecord g { r with ackStage := v }
  | .command .capture =>
    (s.setRecord g { r with capture := some (readCapture x.capture s.energy.time o.seq) }).complete g .done 0
  | .command .start => (s.setRecord g { r with ackShare := 0 }).complete g .done 0
  | .command .stop => s.complete g .done 0
  | .command .resetTrip => s.complete g .done 0
  | .command .groupReset => s.complete g .done 0

/-- ORDER_FAILED for a rejected share (`code` 2) or stage (`code` 3) (R103, R186). -/
def State.postRejected (s : State) (o : InFlight) (code status value : Nat) : State :=
  s.post .orderFailed o.group.num
    [beBytes 1 code, beBytes 1 o.seq, beBytes 1 status, beBytes 4 value]

/-- A slot whose value `v` has been rejected: the mark is set if the desired value is still `v` (R103). -/
def ValueSlot.reject (x : ValueSlot) (v : Nat) : ValueSlot :=
  if x.desired = v then { x with rejected := true } else x

/-- The effect of a REJECTED reply (R103). -/
def State.reject (s : State) (o : InFlight) (x : GroupReply) : State :=
  let g := o.group
  let u := s.unit g
  match o.order with
  | .sense => s
  | .setShare v => (s.setUnit g { u with share := u.share.reject v }).postRejected o 2 x.status v
  | .setStage v => (s.setUnit g { u with stage := u.stage.reject v }).postRejected o 3 x.status v
  | .command _ => s.complete g .rejected x.status

/-- Whether 2 s have passed since a command's first sending, measured on the boundaries of the time base:
20 of them (DEDUCED, unsafe, log 7). -/
def State.busyTooLong (s : State) (c : Command) : Bool :=
  match c.firstSent with
  | some f => decide (f.tick + 20 ≤ s.ticks)
  | none => false

/-- The effect of a BUSY reply (R104), with the withdrawal of a START in SAFE in place of the backoff
(R107, log 10). -/
def State.defer (s : State) (o : InFlight) : State :=
  let g := o.group
  let u := s.unit g
  match o.order with
  | .sense => s
  | .setShare _ => s.setUnit g { u with share := { u.share with deadline := .running } }
  | .setStage _ => s.setUnit g { u with stage := { u.stage with deadline := .running } }
  | .command kind =>
    match u.command with
    | none => s
    | some c =>
      if s.busyTooLong c then s.complete g .busyTimeout 0
      else if kind = .start ∧ s.sup.state = .safe then s.complete g .withdrawn 0
      else s.setUnit g { u with command := some { c with state := .backoff false } }

/-- The effect of a reply by its condition (R102 to R104). -/
def State.applyCondition (s : State) (o : InFlight) (x : GroupReply) : State :=
  match x.condition with
  | .accepted => s.accept o x
  | .rejected => s.reject o x
  | .busy => s.defer o

/-- The controller holds no share in these states (R102). -/
def GroupState.holdsNoShare : GroupState → Bool
  | .stopped | .stopping | .tripped => true
  | .unknown | .starting | .running => false

/-- The acknowledged share set to 0 by the state that a reply carries (R102). -/
def State.dropShare (s : State) (g : Group) (st : GroupState) : State :=
  if st.holdsNoShare then s.setRecord g { (s.unit g).record with ackShare := 0 } else s

/-- The outcome of an order to `g` has been taken: sense due becomes NO, the sense timer restarts, and the
link becomes IDLE (R100, R101). -/
def State.outcomeTaken (s : State) (g : Group) : State :=
  let u := s.unit g
  let s1 := s.setUnit g { u with record := { u.record with senseDue := false }, senseTimer := true }
  s1.setLink { s1.link with bus := .idle }

/-- A valid reply to the order in flight `o` (R101). -/
def State.takeReply (s : State) (o : InFlight) (x : GroupReply) : State :=
  let g := o.group
  let before := s.carriage
  let wasRunning := (s.unit g).record.state == .running
  let s1 := ((s.takeRecord g x).applyCondition o x).dropShare g x.state
  let s2 := s1.outcomeTaken g
  let leaves := wasRunning && x.state != .running && (s2.coolOf g).cap.unloading
  let s3 := s2.when leaves fun s => s.endUnload g .notRunning
  s3.notice before leaves

/-- A frame received on the group link (R101): a frame that is no valid reply is discarded, and so is one
received while no order is in flight. -/
def State.groupReply (s : State) (bytes : List Byte) : State :=
  match s.link.bus with
  | .idle => s
  | .draining => s
  | .awaiting o =>
    match readReply o bytes with
    | some x => s.takeReply o x
    | none => s

/-- The reply window expires without a valid reply (R105), or the window of a discarded order ends
(R109). -/
def State.windowExpiry (s : State) : State :=
  match s.link.bus with
  | .idle => s
  | .draining => s.setLink { s.link with bus := .idle }
  | .awaiting o =>
    let g := o.group
    let before := s.carriage
    let r := (s.unit g).record
    let s1 := s.setRecord g { r with reachable := false }
    let s2 := s1.when r.reachable fun s => s.post .groupUnreachable g.num [flagByte false]
    let s3 := match o.order with
      | .command _ => s2.complete g .lost 0
      | .sense => s2
      | .setShare _ => s2
      | .setStage _ => s2
    (s3.outcomeTaken g).notice before false

/-! ### Timers and the trip inputs (R90, R100, R104) -/

/-- A backoff deadline that has passed. -/
def Deadline.pass : Deadline → Deadline
  | .running => .passed
  | .absent => .absent
  | .passed => .passed

/-- A command whose backoff deadline has passed (R104). -/
def Command.passDeadline (c : Command) : Command :=
  match c.state with
  | .backoff _ => { c with state := .backoff true }
  | .waiting => c
  | .sent => c

/-- A backoff deadline passes (R104). -/
def State.backoffPass (s : State) (g : Group) (slot : LinkSlot) : State :=
  let u := s.unit g
  match slot with
  | .command => s.setUnit g { u with command := u.command.map Command.passDeadline }
  | .share => s.setUnit g { u with share := { u.share with deadline := u.share.deadline.pass } }
  | .stage => s.setUnit g { u with stage := { u.stage with deadline := u.stage.deadline.pass } }

/-- The sense timer of a group expires (R100). -/
def State.senseExpiry (s : State) (g : Group) : State :=
  let u := s.unit g
  if s.fitted g && u.senseTimer then
    s.setUnit g { u with record := { u.record with senseDue := true }, senseTimer := false }
  else s

/-- A trip input registers a new level (R90). -/
def State.tripEvent (s : State) (g : Group) (level : Bool) : State :=
  let r := (s.unit g).record
  if level = r.trip then s
  else
    let before := s.carriage
    let s1 := (s.setRecord g { r with trip := level }).setPins
      { s.pins with trip := s.pins.trip.set g level }
    if s1.fitted g then
      let s2 := s1.post .groupTrip g.num [beBytes 1 1, flagByte level]
      (s2.when level fun s => s.endUnload g .trip).notice before true
    else s1

/-! ### The line computer's group orders (R96, R97) -/

/-- A STOP of the line computer taken into the empty slot, but for the out-of-turn cycle (R97). -/
def State.takeStop (s : State) (g : Group) (o : Origin) : State :=
  let alloc := s.allocatable g
  let s1 := s.setUnit g { s.unit g with command := some (.fresh .stop o (!alloc)) }
  s1.when alloc fun s => s.beginUnload g .linkRequest

/-- An order of the line computer that has passed its tests taken into the slots (R96). -/
def State.takeOrder (s : State) (g : Group) (kind : CmdKind) (o : Origin) : State :=
  match kind with
  | .start => s.setUnit g { s.unit g with command := some (.fresh .start o true) }
  | .resetTrip => s.setUnit g { s.unit g with command := some (.fresh .resetTrip o true) }
  | .capture => s.setUnit g { s.unit g with command := some (.fresh .capture o true) }
  | .stop => s.withUnloadCycle (fun s => s.takeStop g o) id
  | .groupReset => s.takeGroupReset g o

/-- The tests of a GROUP_ORDER, and its reply (R96). -/
def State.groupOrder (s : State) (num : Nat) (kind : CmdKind) (tag : Byte) (eng : Bool) : Reply × State :=
  match groupOfNum? num with
  | none => (Reply.bare .noSuch, s)
  | some g =>
    if !s.fitted g then (Reply.bare .noSuch, s)
    else if kind ≠ .capture ∧ !eng then (Reply.bare .notPermitted, s)
    else if s.sup.state = .safe ∧ (kind = .start ∨ kind = .stop) then (Reply.bare .wrongState, s)
    else if (s.unit g).command.isSome ∧ kind ≠ .groupReset then (Reply.bare .busy, s)
    else (⟨.queued, beBytes 1 num ++ beBytes 1 kind.code⟩, s.takeOrder g kind (.linkRequest tag))

/-- Whether a frame is a GROUP_ORDER of kind `kind`. A GROUP_ORDER that names no kind, its length or its
kind code being wrong, is one of each (DESIGN CHOICE, log 21). -/
def Frame.isGroupOrder (f : Frame) (kind : CmdKind) : Bool :=
  f.isKind .groupOrder &&
    (!RequestKind.groupOrder.lengthOk f.payload
      || match CmdKind.ofCode? (field f.payload 1 1) with
         | some k => k == kind
         | none => true)

/-- The taking of a GROUP_ORDER of kind `kind` (R96, R168). -/
def State.serveGroupOrder (s : State) (kind : CmdKind) : State :=
  s.takeRequest (·.isGroupOrder kind) fun f eng s =>
    RequestKind.groupOrder.handle (fun payload eng s =>
      match CmdKind.ofCode? (field payload 1 1) with
      | some k => s.groupOrder (field payload 0 1) k f.tag eng
      | none => (Reply.bare .badValue, s)) f eng s

/-! ### GET_GROUP (R31, R87, R111) -/

/-- The channel records of a group. -/
def State.groupChannels (s : State) (g : Group) : List Byte :=
  (s.chan (gcChan g)).bytes ++ (s.chan (tiChan g)).bytes ++ (s.chan (toChan g)).bytes
    ++ (s.chan (flChan g)).bytes

/-- The frozen current as GET_GROUP carries it: four open bytes for a group that is not frozen, for which
the manual gives none (log 13). -/
def State.frozenBytes (s : State) (g : Group) : List Byte × State :=
  if s.frozen g then (beBytes 4 (s.frozenCurrent g), s) else s.openBytes 4

/-- The reply body of GET_GROUP, `frozenCur` being the frozen current (R111, R182). The group's phase, which the
group record also shows (R88) and to which R111 gives no place, stands as one byte after the order sequence and
before G_FITTED (DESIGN CHOICE, unsafe, log 11). -/
def State.groupBody (s : State) (g : Group) (frozenCur : List Byte) : List Byte :=
  let u := s.unit g
  let c := s.coolOf g
  u.record.bytes ++ flagByte c.cap.unloading ++ beSigned 4 (s.cfg (.group g .fitted))
    ++ flagByte (s.allocatable g) ++ flagByte (s.frozen g) ++ frozenCur
    ++ commandBytes u.command ++ resetFlagBytes u.resetFlag ++ flagByte u.coolPending
    ++ u.share.bytes 4 ++ u.stage.bytes 1 ++ captureBytes u.record.capture
    ++ c.loop.bytes ++ c.cap.bytes ++ beBytes 4 (s.effective g) ++ s.groupChannels g

/-- GET_GROUP (R111). -/
def State.getGroup (s : State) (payload : List Byte) : Reply × State :=
  match groupOfNum? (field payload 0 1) with
  | none => (Reply.bare .noSuch, s)
  | some g =>
    let frozenCur := s.frozenBytes g
    (⟨.ok, s.groupBody g frozenCur.1⟩, frozenCur.2)

/-! ### Line reset and fitting (R109, R110) -/

/-- A slot whose desired value is set to the acknowledged one (R109). -/
def ValueSlot.settle (ack : Nat) : ValueSlot := ⟨ack, false, .absent⟩

/-- The unit of a group at a line reset: steps 2 to 4 of R109. -/
def GroupUnit.lineReset (u : GroupUnit) : GroupUnit :=
  { u with record := { u.record with state := .unknown, capture := none, senseDue := true },
           command := none, resetFlag := none, coolPending := false,
           share := .settle u.record.ackShare, stage := .settle u.record.ackStage }

/-- The link when an order in flight is discarded: its window is kept open (R109 step 1). -/
def Bus.discard : Bus → Bus
  | .idle => .idle
  | .awaiting _ => .draining
  | .draining => .draining

/-- The controller's part in a line reset (R109). -/
def State.linkLineReset (s : State) : State :=
  let before := s.carriage
  let s1 := s.setLink { s.link with
    units := Six.ofFn fun g => (s.unit g).lineReset, bus := s.link.bus.discard }
  s1.notice before false

/-- The unit of a group that is unfitted (R110): as at a line reset, and then the record back to its
device-reset values, apart from the trip input and the order sequence; its sense timer does not run
(R100). -/
def GroupUnit.unfit (u : GroupUnit) : GroupUnit :=
  { u.lineReset with record := { GroupRecord.initial u.record.trip with seq := u.record.seq },
                     senseTimer := false }

/-- The link when an order in flight to `g` is discarded (R110). -/
def Bus.discardTo (b : Bus) (g : Group) : Bus :=
  match b with
  | .awaiting o => if o.group = g then .draining else b
  | .idle => b
  | .draining => b

/-- G_FITTED of a group written from 1 to 0 or from 0 to 1 (R73, R100, R110); `before` shows the groups
before the write. -/
def State.fitChange (s : State) (g : Group) (on : Bool) (before : Carriage) : State :=
  let u := s.unit g
  if on then
    (s.setUnit g { u with record := { u.record with senseDue := true } }).notice before false
  else
    let s1 := s.setUnit g u.unfit
    let s2 := s1.setLink { s1.link with bus := s1.link.bus.discardTo g }
    (s2.unfitCooling g).notice before false

end Sys2Proof.Machine
end

