-- ==== Sys2Proof/Machine/Energy.lean ====
section
/-! DEFINITION. The energy and demand unit (chapter 9): clock and calendar, tariff evaluation, accounts,
demand intervals, the demand limiter, and period close. -/

namespace Sys2Proof.Machine

/-! ### Clock and tariff evaluation (R144, R147, R148) -/

/-- The clock one tenth of a second on (R144). -/
def State.advanceClock (s : State) : State := s.setEnergy { s.energy with time := s.energy.time.addTenths 1 }

/-- Day type of a time, by the holiday list in force (R144, R147): 2000-01-01 is a Saturday. -/
def dayTypeOf (holidays : List Date) (x : Time) : DayType :=
  if x.date ∈ holidays then .holiday else if x.days % 7 ≤ 1 then .weekend else .weekday

/-- The table of a day type. -/
def Tariff.table (t : Tariff) : DayType → List TariffPoint
  | .weekday => t.weekday
  | .weekend => t.weekend
  | .holiday => t.holiday

/-- The bucket of a table at minute `m` (R148): that of the last point at or before it, or of the table's
last point. -/
def bucketAt (points : List TariffPoint) (m : Nat) : Nat :=
  match (points.filter fun p => decide (p.minute ≤ m)).getLast? with
  | some p => p.bucket
  | none => (points.getLast?.map (·.bucket)).getD 0

/-- The day type and bucket evaluated from the clock and the tables in force (R147, R148). -/
def Energy.evalTariff (e : Energy) : Energy :=
  let day := dayTypeOf e.tariff.holidays e.time
  { e with dayType := day,
           bucket := if e.clockSet then bucketAt (e.tariff.table day) e.time.minuteOfDay else 0 }

/-- A pending set, if present, taken into force (R147). -/
def Energy.takePending (e : Energy) : Energy :=
  match e.tariffPending with
  | some t => { e with tariff := t, tariffPending := none }
  | none => e

/-- Whether the clock stands at a minute boundary (R147). -/
def Time.atMinute (x : Time) : Bool := x.second == 0 && x.tenth == 0

/-- The minute evaluation, when the clock stands at a minute boundary (R147). -/
def State.minuteEvaluation (s : State) : State :=
  if s.energy.time.atMinute then s.setEnergy s.energy.takePending.evalTariff else s

/-! ### Accounts (R149, R150) -/

/-- ENERGY_SATURATED, when the flag of account `subject` has passed from CLEAR to SET (R149). -/
def State.noteSaturation (s : State) (subject : Nat) (before after : Account) : State :=
  if after.saturated && !before.saturated then s.post .energySaturated subject [beBytes 4 after.kwh] else s

/-- Power added to the tariff account of the bucket in force (R150 step 1, R159). -/
def State.addTariff (s : State) (p : Nat) : State :=
  let e := s.energy
  let old := e.accounts.getD e.bucket Account.zero
  let new := old.add p
  let period := if new.saturated && !old.saturated then e.period.noteSaturated else e.period
  (s.setEnergy { e with accounts := e.accounts.set e.bucket new, period := period }).noteSaturation
    e.bucket old new

/-- Power added to the lifetime account (R150 step 1). -/
def State.addLifetime (s : State) (p : Nat) : State :=
  let e := s.energy
  let new := e.lifetime.add p
  (s.setEnergy { e with lifetime := new }).noteSaturation 4 e.lifetime new

/-- The newest `size` entries of a list that grows at its end. -/
def keepNewest {α : Type} (size : Nat) (xs : List α) : List α := xs.drop (xs.length - size)

/-- Steps 1 to 5 of R150 on the open interval, the ring and the period flags, for the power `p`. -/
def Energy.accrue (e : Energy) (p voltage : Nat) (held : Bool) : Energy :=
  let i := e.interval
  { e with
    ring := keepNewest Config.ringSize (e.ring ++ [⟨p, voltage⟩]),
    interval :=
      { i with
        energy := min Config.accountMax (i.energy + p), t := i.t + 1,
        flags := { i.flags with estimated := i.flags.estimated || held,
                                clockNotSet := i.flags.clockNotSet || !e.clockSet } },
    period :=
      { e.period with flags :=
        { e.period.flags with estimated := e.period.flags.estimated || held,
                              clockNotSet := e.period.flags.clockNotSet || !e.clockSet } } }

/-- Steps 1 to 5 of R150. -/
def State.accrue (s : State) : State :=
  let r := s.front.line
  let p := r.voltage * r.current
  let s1 := (s.addTariff p).addLifetime p
  s1.setEnergy (s1.energy.accrue p r.voltage r.held)

/-! ### The limiter (R157, R158) -/

/-- Causes of DEMAND_LIMIT (R157). -/
inductive LimitCause where
  | projection | release | intervalEnd | contractOff | clockChange
deriving DecidableEq, Repr

/-- Codes of the causes (R157). -/
def LimitCause.code : LimitCause → Nat
  | .projection => 1 | .release => 2 | .intervalEnd => 3 | .contractOff => 4 | .clockChange => 5

/-- DEMAND_LIMIT, with the limiter as it stands (R157). -/
def State.postLimit (s : State) (cause : LimitCause) : State :=
  let l := s.energy.limiter
  s.post .demandLimit 0 [flagByte l.active, beBytes 1 cause.code, beBytes 4 l.projection]

/-- The limiter record replaced. -/
def State.setLimiter (s : State) (l : Limiter) : State := s.setEnergy { s.energy with limiter := l }

/-- The limiter made INACTIVE and the trim absent, with DEMAND_LIMIT if it was ACTIVE (R153, R155, R157). -/
def State.releaseLimiter (s : State) (cause : LimitCause) : State :=
  let l := s.energy.limiter
  let s1 := s.setLimiter { l with active := false, trim := none }
  s1.when l.active fun s => s.postLimit cause

/-- The projection of the open interval, in kW (R157 step 1). -/
def Energy.projection (e : Energy) : Nat :=
  let i := e.interval
  (i.energy + e.meanPower * (i.length - i.t)) / (i.length * 1000000)

/-- The trim as first found, before the clamp to LINE_FLOOR (R158 steps 1, 2 and 4). -/
def Energy.firstTrim (e : Energy) (threshold voltage : Nat) : Nat :=
  let i := e.interval
  min Config.currentMax ((threshold * 1000000 * i.length - i.energy) / (i.length - i.t) / voltage)

/-- The trim worked out while the limiter is ACTIVE (R158). -/
def State.workTrim (s : State) : State :=
  let e := s.energy
  let v := e.meanVoltage
  let l := { e.limiter with voltage := v }
  if v = 0 ∨ v < s.cfgN .vValidMin then
    (s.setLimiter { l with trim := none }).post .demandVoltage 0 [beBytes 4 v]
  else
    let first := e.firstTrim s.threshold v
    if first < s.cfgN .lineFloor then
      let s1 := s.setEnergy { e with limiter := { l with trim := some (s.cfgN .lineFloor) },
                                     interval := { e.interval with unavoidable := true } }
      s1.when (!e.interval.unavoidable) fun s => s.post .demandUnavoidable 0 [beBytes 4 first]
    else s.setLimiter { l with trim := some first }

/-- The LIMITED flag of the open interval set (R157 step 5). -/
def State.markLimited (s : State) : State :=
  let e := s.energy
  s.setEnergy { e with interval := { e.interval with flags := { e.interval.flags with limited := true } } }

/-- A demand evaluation (R157). -/
def State.evalDemand (s : State) : State :=
  let e := s.energy
  let proj := e.projection
  let s1 := s.setLimiter { e.limiter with projection := proj, projectionT := e.interval.t }
  if s.cfgN .contractKw = 0 then s1.releaseLimiter .contractOff
  else if e.limiter.active then
    if proj + s.cfgN .releaseKw ≤ s.threshold then s1.releaseLimiter .release
    else s1.markLimited.workTrim
  else if s.threshold < proj then
    let s2 := s1.setLimiter { s1.energy.limiter with active := true }
    ((s2.postLimit .projection).markLimited).workTrim
  else s1

/-- Whether a demand evaluation falls due at this sample count (R150 step 6). -/
def Interval.evalDue (i : Interval) : Bool := i.t % 100 == 0 && decide (300 ≤ i.t ∧ i.t < i.length)

/-! ### Intervals (R152 to R156) -/

/-- Interval length T, in samples (R152). -/
def State.intervalLength (s : State) : Nat := s.cfgN .demandMinutes * 600

/-- The period maximum updated by a demand (R156). -/
def Period.noteDemand (p : Period) (demand : Nat) (stop : Time) : Period :=
  if p.maximum < demand then { p with maximum := demand, maxTime := some stop } else p

/-- The period when a demand record has been made (R156, R159). -/
def Period.noteRecord (p : Period) (r : DemandRecord) : Period :=
  let p1 := p.noteDemand r.demand r.stop
  { p1 with flags := { p1.flags with shortenedSeen := p1.flags.shortenedSeen || r.flags.shortened } }

/-- The open interval closed into the record `r` (R153 steps 2 and 3). -/
def Energy.keepRecord (e : Energy) (r : DemandRecord) : Energy :=
  { e with demandLog := keepNewest Config.demandLogSize (e.demandLog ++ [r]), period := e.period.noteRecord r }

/-- The record of the open interval, worked on `length` samples and closed at `stop` (R153 steps 1, 2). -/
def Interval.record (i : Interval) (length : Nat) (stop : Time) (flags : IntervalFlags) : DemandRecord :=
  { stop := stop, length := length, demand := i.energy / (length * 1000000), flags := flags }

/-- The interval closed at its end and the next one opened (R153). -/
def State.closeInterval (s : State) : State :=
  let i := s.energy.interval
  let s1 := s.setEnergy (s.energy.keepRecord (i.record i.length i.stop i.flags))
  let s2 := s1.releaseLimiter .intervalEnd
  s2.setEnergy { s2.energy with interval :=
    { start := i.stop, stop := i.stop.addTenths s.intervalLength, length := s.intervalLength, t := 0,
      energy := 0, flags := IntervalFlags.clear, unavoidable := false } }

/-- Whether the clock has reached the open interval's end time (R150 step 8). -/
def Energy.intervalOver (e : Energy) : Bool :=
  e.time == e.interval.stop || decide (e.interval.length ≤ e.interval.t)

/-- The open interval cut short by a clock change or a change of DEMAND_MINUTES (R155). -/
def State.cutInterval (s : State) : State :=
  let e := s.energy
  let i := e.interval
  let s1 := s.when (i.t != 0) fun s =>
    s.setEnergy (e.keepRecord (i.record i.t e.time { i.flags with shortened := true }))
  s1.releaseLimiter .clockChange

/-- Samples from a clock time to the first boundary strictly after it, for the interval length `len`
(R155). -/
def toBoundary (x : Time) (len : Nat) : Nat := len - x.dayTenths % len

/-- The interval opened by a clock change or a change of DEMAND_MINUTES, from the clock as it stands
(R155). -/
def State.openShort (s : State) : State :=
  let e := s.energy
  let len := s.intervalLength
  let first := toBoundary e.time len
  let length := if first < 600 then first + len else first
  s.setEnergy { e with interval :=
    { start := e.time, stop := e.time.addTenths length, length := length, t := 0, energy := 0,
      flags := { IntervalFlags.clear with shortened := true }, unavoidable := false } }

/-! ### The unit at a line sample (R150) -/

/-- Steps 6 to 8 of R150. -/
def State.energyDue (s : State) : State :=
  let s1 := s.when s.energy.interval.evalDue State.evalDemand
  let s2 := s1.minuteEvaluation
  s2.when s2.energy.intervalOver State.closeInterval

/-- The unit's part of a boundary once the clock has advanced (R150). `apart` leaves steps 6 to 8 to
DEMAND_EVALUATION, TARIFF_MINUTE_EVALUATION and DEMAND_INTERVAL_END (log 2). -/
def State.energySample (s : State) (apart : Bool) : State := s.accrue.when (!apart) State.energyDue

/-! ### Requests -/

/-- SET_TIME at ENGINEER authority (R145). -/
def State.setTime (s : State) (payload : List Byte) : Reply × State :=
  let year := field payload 0 2
  let month := field payload 2 1
  let day := field payload 3 1
  let x : Time := ⟨year, month, day, field payload 4 1, field payload 5 1, field payload 6 1, field payload 7 1⟩
  if dateOk year month day ∧ x.hour ≤ 23 ∧ x.minute ≤ 59 ∧ x.second ≤ 59 ∧ x.tenth ≤ 9 then
    let before := s.energy.clockSet
    let s1 := s.cutInterval
    let s2 := s1.setEnergy { s1.energy with time := x, clockSet := true }
    let s3 := s2.openShort
    let s4 := s3.setEnergy s3.energy.evalTariff
    (⟨.ok, timeBytes x⟩, s4.post .clockSet 0 [flagByte before])
  else (Reply.bare .badValue, s)

/-- Numbers strictly rising. -/
def risingB : List Nat → Bool
  | [] => true
  | x :: rest => rest.all (fun y => decide (x < y)) && risingB rest

/-- A tariff table as SET_TARIFF takes it (R146). -/
def tableOk (points : List TariffPoint) : Bool :=
  decide (1 ≤ points.length ∧ points.length ≤ 12)
    && points.all (fun p => decide (p.minute ≤ 1439 ∧ p.bucket ≤ 3))
    && risingB (points.map (·.minute))

/-- A holiday list as SET_TARIFF takes it (R146); a date is ordered by year, month and day. -/
def holidaysOk (dates : List Date) : Bool :=
  decide (dates.length ≤ 16)
    && dates.all (fun d => dateOk d.year d.month d.day)
    && risingB (dates.map fun d => (d.year * 16 + d.month) * 32 + d.day)

/-- A tariff set as SET_TARIFF takes it (R146). -/
def Tariff.ok (t : Tariff) : Bool :=
  tableOk t.weekday && tableOk t.weekend && tableOk t.holiday && holidaysOk t.holidays

/-- SET_TARIFF at ENGINEER authority (R146). -/
def State.setTariff (s : State) (payload : List Byte) : Reply × State :=
  let t := readTariff payload
  if t.ok then (Reply.bare .ok, s.setEnergy { s.energy with tariffPending := some t })
  else (Reply.bare .badValue, s)

/-- The closed-period record (R160 step 1). -/
def State.periodRecord (s : State) : PeriodRecord :=
  let e := s.energy
  let kwh := e.accounts.map Account.kwh
  { opened := e.period.opened, closed := e.time, kwh := kwh, total := kwh.sum, maximum := e.period.maximum,
    maxTime := e.period.maxTime, aeKwh := s.ae.excess.kwh,
    flags := { e.period.flags with clockNotSet := e.period.flags.clockNotSet || !e.clockSet } }

/-- CLOSE_PERIOD at ENGINEER authority (R160). -/
def State.closePeriod (s : State) : Reply × State :=
  let e := s.energy
  let r := s.periodRecord
  let s1 := s.setEnergy
    { e with history := keepNewest Config.historySize (e.history ++ [r]),
             accounts := e.accounts.map Account.close,
             period := { maximum := 0, maxTime := none, opened := e.time, flags := PeriodFlags.clear } }
  (⟨.ok, r.bytes⟩, s1.setAe { s1.ae with excess := s1.ae.excess.close })

/-- The records of a history, oldest first, from start index `start` (0 the newest) toward the oldest, up
to `count` (R154, R161). -/
def fromNewest {α : Type} (xs : List α) (start count : Nat) : List α := (xs.reverse.drop start).take count

/-- GET_DEMAND_LOG (R154). -/
def State.getDemandLog (s : State) (payload : List Byte) : Reply × State :=
  let count := field payload 1 1
  if count = 0 ∨ 32 < count then (Reply.bare .badValue, s)
  else
    let rs := fromNewest s.energy.demandLog (field payload 0 1) count
    (⟨.ok, beBytes 1 s.energy.demandLog.length ++ beBytes 1 rs.length ++ rs.flatMap DemandRecord.bytes⟩, s)

/-- GET_PERIODS (R161). -/
def State.getPeriods (s : State) (payload : List Byte) : Reply × State :=
  let count := field payload 1 1
  if count = 0 ∨ 12 < count then (Reply.bare .badValue, s)
  else
    let rs := fromNewest s.energy.history (field payload 0 1) count
    (⟨.ok, beBytes 1 s.energy.history.length ++ beBytes 1 rs.length ++ rs.flatMap PeriodRecord.bytes⟩, s)

/-- GET_ENERGY (R163, R182). The widths of T_eff and p10 are log 12. -/
def State.getEnergy (s : State) : Reply × State :=
  let e := s.energy
  let i := e.interval
  let l := e.limiter
  (⟨.ok,
    timeBytes e.time ++ flagByte e.clockSet ++ beBytes 1 e.dayType.code ++ beBytes 1 e.bucket
      ++ e.tariff.bytes ++ flagByte e.tariffPending.isSome
      ++ e.accounts.flatMap Account.bytes ++ e.lifetime.bytes ++ s.ae.excess.bytes
      ++ timeBytes i.start ++ timeBytes i.stop ++ beBytes 4 i.length ++ beBytes 2 i.t ++ beBytes 8 i.energy
      ++ i.flags.bytes ++ flagByte i.unavoidable ++ beBytes 8 e.meanPower ++ beBytes 1 e.ring.length
      ++ flagByte l.active ++ optBytes 4 l.trim ++ beBytes 4 l.projection ++ beBytes 2 l.projectionT
      ++ beBytes 4 l.voltage ++ beBytes 4 s.threshold
      ++ beBytes 4 e.period.maximum ++ optTimeBytes e.period.maxTime ++ timeBytes e.period.opened
      ++ e.period.flags.bytes ++ beBytes 1 e.demandLog.length ++ beBytes 1 e.history.length⟩, s)

/-- The unit's part in a line reset (R162): the limiter as R157 sets it, with no event. -/
def State.energyLineReset (s : State) : State := s.setLimiter Limiter.initial

end Sys2Proof.Machine
end

