-- ==== Sys2Proof/Machine/AnodeEffect.lean ====
section
/-! DEFINITION. The anode effect monitor (chapter 4): the AE machine of a pot, charges, closure, the AE map
with its count and hold flag, timing on the boundaries, and the AE log. -/

namespace Sys2Proof.Machine

/-! ### The AE map, its count and the hold flag (R65, R66) -/

/-- The AE hold flag re-evaluated, with AE_HOLD at a change (R66). -/
def State.evalHold (s : State) : State :=
  let m := s.ae
  let hold := decide (s.cfgN .aeHoldCount ≤ m.count)
  if hold = m.hold then s
  else (s.setAe { m with hold := hold }).post .aeHold 0 [flagByte hold, beBytes 2 m.count]

/-- A pot's AE map flag changed, with the count and the lamp that follow it (R65, R66). -/
def State.setAeFlag (s : State) (p : Nat) (b : Bool) : State :=
  let map := aeMapSet s.ae.map p b
  let count := aeMapCount map
  s.setAe { s.ae with map := map, count := count, lamp := decide (0 < count) }

/-! ### Charges (R59, R69) -/

/-- A charge added to the line AE excess account (R69, R159). -/
def State.addExcess (s : State) (n : Nat) : State :=
  let old := s.ae.excess
  let new := old.add n
  let s1 := s.setAe { s.ae with excess := new }
  let s2 := s1.when (new.saturated && !old.saturated) fun s =>
    s.setEnergy { s.energy with period := s.energy.period.noteSaturated }
  s2.noteSaturation 5 old new

/-- A reading `v` charged to the AE of pot `p`, with the peak (R59). -/
def State.chargeAe (s : State) (p v : Nat) : State :=
  let a := (s.pot p).ae
  let n := (v - a.vRef) * s.front.line.current * s.cfgN .scanPeriod
  (s.setPotAe p { a with excess := min Config.accountMax (a.excess + n), peak := max a.peak v }).addExcess n

/-! ### Closing an AE (R64, R67) -/

/-- The next AE number: 32 bits, passing from 4,294,967,295 to 1 (R64). -/
def nextAeNumber (n : Nat) : Nat := if n < 4294967295 then n + 1 else 1

/-- The AE log record of pot `p` (R67). -/
def PotAe.logRecord (a : PotAe) (number p : Nat) (cause : EndCause) : AeRecord :=
  { number := number, pot := p, startTime := a.startTime, duration := a.timer, peak := a.peak,
    excess := a.excess, cause := cause, quench := a.quench }

/-- The AE of pot `p` closed, and the pot's AE state set to `next` (R64). -/
def State.closeAe (s : State) (p : Nat) (cause : EndCause) (next : AeState) : State :=
  let a := (s.pot p).ae
  let number := nextAeNumber s.ae.closed
  let s1 := s.setAe { s.ae with closed := number,
                                log := keepNewest Config.aeLogSize (s.ae.log ++ [a.logRecord number p cause]) }
  let s2 := (s1.setAeFlag p false).evalHold
  let s3 := s2.setPotAe p { a with frozen := false }
  let s4 := s3.post .aeEnd p [beBytes 4 number]
  s4.setPotAe p { (s4.pot p).ae with state := next }

/-! ### The AE machine (R54 to R58) -/

/-- An AE of pot `p` started by the reading `v` (R57), and the reading charged. -/
def State.startAe (s : State) (p v : Nat) (start : Time) : State :=
  let x := s.pot p
  let s1 := s.setPotAe p
    { x.ae with state := .active, vRef := x.filtered, frozen := true, startTime := start, peak := 0,
                excess := 0, recover := 0, quench := false, long := false,
                lifetime := satInc Config.counterMax x.ae.lifetime }
  let s2 := (s1.setAeFlag p true).post .aeStart p [beBytes 2 v]
  s2.evalHold.chargeAe p v

/-- A fresh reading of a pot in NORMAL or UNMONITORED (R54); `before` is the filtered voltage before this
reading's filter step. -/
def State.evalQuiet (s : State) (p v before : Nat) : State :=
  let x := s.pot p
  if s.cfgN .aeOn ≤ v then
    s.setPot p { x with filtered := before, ae :=
      { x.ae with state := .pending, frozen := true, pendingTime := s.energy.time, timer := 0 } }
  else if 0 < s.cfgN .suspectRes ∧ s.cfgN .suspectRes ≤ x.resistance then
    (s.setPotAe p { x.ae with state := .suspect }).post .potSuspect p [beBytes 4 x.resistance]
  else s.setPotAe p { x.ae with state := .normal }

/-- A fresh reading of a pot in SUSPECT (R55). -/
def State.evalSuspect (s : State) (p v before : Nat) : State :=
  let x := s.pot p
  if s.cfgN .aeOn ≤ v then
    (s.setPot p { x with filtered := before, ae := { x.ae with timer := 0 } }).startAe p v s.energy.time
  else if s.cfgN .suspectRes = 0 ∨ x.resistance + s.cfgN .suspectHyst < s.cfgN .suspectRes then
    s.setPotAe p { x.ae with state := .normal }
  else s

/-- A fresh reading of a pot in PENDING (R56). -/
def State.evalPending (s : State) (p v : Nat) : State :=
  let a := (s.pot p).ae
  if s.cfgN .aeOn ≤ v then s.startAe p v a.pendingTime
  else
    s.setPotAe p { a with state := .normal, frozen := false, spikes := satInc Config.counterMax a.spikes }

/-- A fresh reading of a pot in an AE, once charged (R58). -/
def State.evalInAe (s : State) (p v : Nat) : State :=
  let a := (s.pot p).ae
  let below := decide (v < s.cfgN .aeOff)
  if a.state = .active then
    if below then s.setPotAe p { a with state := .recovering, recover := 1 } else s
  else if !below then s.setPotAe p { a with state := .active, recover := 0 }
  else
    let s1 := s.setPotAe p { a with recover := a.recover + 1 }
    if s.cfgN .recoverScans ≤ a.recover + 1 then s1.closeAe p .normalEnd .normal else s1

/-- A fresh reading `v` of a fitted, CONNECTED pot evaluated (R54 to R59). -/
def State.evalAe (s : State) (p v before : Nat) : State :=
  match (s.pot p).ae.state with
  | .out => s
  | .unmonitored => s.evalQuiet p v before
  | .normal => s.evalQuiet p v before
  | .suspect => s.evalSuspect p v before
  | .pending => s.evalPending p v
  | .active => (s.chargeAe p v).evalInAe p v
  | .recovering => (s.chargeAe p v).evalInAe p v

/-- A CONNECTED pot that has lost its signal (R62). -/
def State.signalLost (s : State) (p : Nat) : State :=
  let a := (s.pot p).ae
  match a.state with
  | .active => s.closeAe p .signalLost .unmonitored
  | .recovering => s.closeAe p .signalLost .unmonitored
  | .pending => s.setPotAe p { a with state := .unmonitored, frozen := false }
  | .normal => s.setPotAe p { a with state := .unmonitored }
  | .suspect => s.setPotAe p { a with state := .unmonitored }
  | .unmonitored => s
  | .out => s

/-- A change of a pot's switching state (R63), which becomes CUT_OUT when `cut`; on a change to CONNECTED
the next fresh reading seeds the filter (R36). -/
def State.changePot (s : State) (p : Nat) (cut : Bool) : State :=
  if cut then
    let s1 := if (s.pot p).ae.state.inAe then s.closeAe p .cutOut .out else s
    let x := s1.pot p
    s1.setPot p { x with cutOut := true, ae := { x.ae with state := .out, frozen := false } }
  else
    let x := s.pot p
    s.setPot p { x with cutOut := false, seeded := false,
                        ae := { x.ae with state := .normal, frozen := false } }

/-! ### Timing on the boundaries (R60, R61) -/

/-- The AE timer of a pot runs in these states (R60). -/
def AeState.timed : AeState → Bool
  | .pending | .active | .recovering => true
  | .out | .unmonitored | .normal | .suspect => false

/-- A pot's AE timer advanced by a boundary (R60). At 4,294,967,295, the end of its range (R52), it stands
(DESIGN CHOICE, unsafe, log 35). -/
def Pot.tick (x : Pot) : Pot :=
  if x.ae.state.timed then { x with ae := { x.ae with timer := satInc 4294967295 x.ae.timer } } else x

/-- The numbers of the pots of a table, which starts at pot `n`, that `f` picks, in ascending order. -/
def potsWhere (f : Pot → Bool) : Nat → List Pot → List Nat
  | _, [] => []
  | n, x :: rest => if f x then n :: potsWhere f (n + 1) rest else potsWhere f (n + 1) rest

/-- A quench request is due (R60). -/
def PotAe.quenchDue (a : PotAe) (delay : Nat) : Bool :=
  a.state.inAe && !a.quench && decide (delay * 10 ≤ a.timer)

/-- AE_LONG is due (R61). -/
def PotAe.longDue (a : PotAe) (long : Nat) : Bool := a.state.inAe && !a.long && decide (long * 10 ≤ a.timer)

/-- The quench request of pot `p` made, if it is due (R60). -/
def State.quenchRequest (s : State) (p : Nat) : State :=
  let a := (s.pot p).ae
  if a.quenchDue (s.cfgN .quenchDelay) then
    (s.setPotAe p { a with quench := true }).post .quenchRequest p [beBytes 4 a.timer]
  else s

/-- AE_LONG of pot `p` posted, if it is due (R61). -/
def State.longAe (s : State) (p : Nat) : State :=
  let a := (s.pot p).ae
  if a.longDue (s.cfgN .aeLong) then
    (s.setPotAe p { a with long := true }).post .aeLong p [beBytes 4 a.timer]
  else s

/-- Every quench request and AE_LONG that is due (R60, R61), the pots in ascending number, an order that the
manual leaves open (DESIGN CHOICE, unsafe, log 36). -/
def State.aeDue (s : State) : State :=
  let s1 := (potsWhere (fun x => x.ae.quenchDue (s.cfgN .quenchDelay)) 1 s.pots).foldl State.quenchRequest s
  (potsWhere (fun x => x.ae.longDue (s1.cfgN .aeLong)) 1 s1.pots).foldl State.longAe s1

/-- The monitor's part of a boundary (R60, R61). `apart` leaves the requests to QUENCH_REQUEST and AE_LONG
(log 2). -/
def State.aeSample (s : State) (apart : Bool) : State :=
  (s.setPots (s.pots.map Pot.tick)).when (!apart) State.aeDue

/-! ### Line reset and GET_AE_LOG -/

/-- The monitor's part in a line reset (R70). -/
def State.aeLineReset (s : State) : State :=
  (potsWhere (fun x => x.ae.state.inAe) 1 s.pots).foldl (fun s p => s.closeAe p .lineReset .normal) s

/-- The records GET_AE_LOG returns, and whether it answers OK (R68). -/
def AeMonitor.logFrom (m : AeMonitor) (first count : Nat) : List AeRecord × Bool :=
  if m.log.any (fun r => r.number == first) then
    ((m.log.dropWhile fun r => r.number != first).take count, true)
  else if m.log.isEmpty || first == nextAeNumber m.closed then ([], true)
  else (m.log.take count, false)

/-- GET_AE_LOG (R68). -/
def State.getAeLog (s : State) (payload : List Byte) : Reply × State :=
  let count := field payload 4 1
  if count = 0 ∨ 32 < count then (Reply.bare .badValue, s)
  else
    let m := s.ae
    let found := m.logFrom (field payload 0 4) count
    let number := fun (r : Option AeRecord) => beBytes 4 ((r.map (·.number)).getD 0)
    (⟨if found.2 then .ok else .part,
      number m.log.head? ++ number m.log.getLast? ++ beBytes 1 found.1.length
        ++ found.1.flatMap AeRecord.bytes⟩, s)

end Sys2Proof.Machine
end

