-- ==== Sys2Proof/Machine/Scan.lean ====
section
/-! DEFINITION. The pot scan controller (chapter 3): passes and polls, fresh and stale readings, scan
reports, and the scan table. -/

namespace Sys2Proof.Machine

/-! ### Passes and polls (R37 to R41, R185) -/

/-- SYNC of a scan bus frame (R185). -/
def scanSync : Byte := 0x69#8

/-- A poll frame for an entry (R185). -/
def pollFrame (e : ScanEntry) : List Byte :=
  scanSync :: withCrc (beBytes 1 e.module ++ beBytes 1 e.firstChan ++ beBytes 1 e.count)

/-- The index of the entry being polled (R38). -/
def Scan.polled (c : Scan) (p : Pass) : Nat := (p.start + p.done) % c.table.length

/-- The entry with index `i`. -/
def Scan.entry (c : Scan) (i : Nat) : ScanEntry := c.table.getD i ⟨0, 0, 0, 0⟩

/-- A poll sent for the entry due, its 10 ms window opened (R41). -/
def State.sendPoll (s : State) (p : Pass) : State :=
  s.setScan { s.scan with pass := some p, lastPoll := pollFrame (s.scan.entry (s.scan.polled p)) }

/-- One advance of the rotation register (R38). -/
def rotate (r : BitVec 15) : BitVec 15 :=
  (r <<< 1) ||| (BitVec.ofBool (r.getLsbD 14 ^^ r.getLsbD 13)).setWidth 15

/-- A pass started (R38). -/
def State.startPass (s : State) : State :=
  let c := s.scan
  let turn := s.cfg .scanRotate == 1
  let p : Pass :=
    { start := if turn then c.rotation.toNat % c.table.length else 0, done := 0, startTime := s.energy.time }
  (s.setScan
    { c with passNumber := (c.passNumber + 1) % 2 ^ 32, upPass := c.upPass + 1#16,
             rotation := if turn then rotate c.rotation else c.rotation }).sendPoll p

/-- An expiry of the scan period timer (R37). -/
def State.scanExpiry (s : State) : State :=
  match s.scan.pass with
  | some _ => s.setScan { s.scan with periodSkips := bump s.scan.periodSkips }
  | none => if s.scan.table.isEmpty then s else s.startPass

/-- The scan period timer counted on a boundary (R37). `apart` leaves what an expiry does to
SCAN_PERIOD_EXPIRY (log 2). -/
def State.scanSample (s : State) (apart : Bool) : State :=
  if s.scan.periodLeft ≤ 1 then
    (s.setScan { s.scan with periodLeft := s.cfgN .scanPeriod }).when (!apart) State.scanExpiry
  else s.setScan { s.scan with periodLeft := s.scan.periodLeft - 1 }

/-- A running pass abandoned (R40). -/
def State.abandonPass (s : State) : State := s.setScan { s.scan with pass := none }

/-! ### Scan reports (R45 to R49) -/

/-- Whether tag source `code` gives 1 for pot `p` (R47); `first` and `entryFirst` say whether the pot entry
is the first of the pass and of its scan table entry. PARITY is filled by R48. -/
def State.tagBit (s : State) (code p : Nat) (first entryFirst : Bool) : Bool :=
  let x := s.pot p
  match code with
  | 1 => first
  | 2 => entryFirst
  | 3 => s.ae.flag p
  | 4 => x.ae.state == .pending || x.ae.state == .suspect
  | 5 => x.cutOut
  | 6 => x.staleNow
  | 7 => x.status == .overrange && !x.staleNow
  | 8 => x.ae.state.inAe && x.ae.quench
  | 10 => x.ae.state == .recovering
  | 11 => x.ae.frozen
  | _ => false

/-- The data bits of a pot entry (R46); `upPot` is the UP_POT counter. -/
def State.dataBits (s : State) (p : Nat) (upPot : Word16) : Word16 :=
  match s.cfgN .telData with
  | 0 => BitVec.ofNat 16 (s.pot p).lastVoltage
  | 1 => upPot
  | 2 => s.scan.upPass
  | 3 => 0x0F0F#16
  | 4 => 0xF0F0#16
  | 5 => 0x0000#16
  | _ => 0xFFFF#16

/-- The source codes of the four tag slots (R47). -/
def State.tagCodes (s : State) : List Nat :=
  [s.cfgN (.telSlot 0), s.cfgN (.telSlot 1), s.cfgN (.telSlot 2), s.cfgN (.telSlot 3)]

/-- The four tag bits from the codes of the slots, the bits of the sources and the parity bit (R48). -/
def packTags (codes : List Nat) (bits : List Bool) (parity : Bool) : BitVec 4 :=
  let bit := fun k => if codes.getD k 0 = 9 then parity else bits.getD k false
  BitVec.ofNat 4 ((bit 0).toNat + 2 * (bit 1).toNat + 4 * (bit 2).toNat + 8 * (bit 3).toNat)

/-- One pot entry (R46 to R48). -/
def State.potEntry (s : State) (p : Nat) (upPot : Word16) (first entryFirst : Bool) : PotEntry :=
  let data := s.dataBits p upPot
  let codes := s.tagCodes
  let bits := codes.map fun c => s.tagBit c p first entryFirst
  let ones := onesBelow 16 data.toNat + (bits.map Bool.toNat).sum
  { data := data, tags := packTags codes bits (ones % 2 == 1) }

/-- The pots of an entry in channel order, each with whether it is the entry's first. -/
def ScanEntry.pots (e : ScanEntry) : List (Nat × Bool) :=
  (List.range e.count).map fun k => (e.firstPot + k, k == 0)

/-- The entries of the table in the polling order of a pass that starts at `start` (R38). -/
def Scan.order (c : Scan) (start : Nat) : List ScanEntry := c.table.drop start ++ c.table.take start

/-- The pot entries of a pass (R45, R46), with the UP_POT counter after them; `n` is the counter before the
pot entry, and `first` says whether the pot entry is the first of the pass. -/
def State.potEntries (s : State) : Word16 → Bool → List (Nat × Bool) → List PotEntry × Word16
  | n, _, [] => ([], n)
  | n, first, (p, entryFirst) :: rest =>
    let more := s.potEntries (n + 1#16) false rest
    (s.potEntry p (n + 1#16) first entryFirst :: more.1, more.2)

/-- A list cut into runs of at most `size`, `fuel` runs at most. -/
def chunks {α : Type} (size : Nat) : Nat → List α → List (List α)
  | 0, _ => []
  | fuel + 1, xs => if xs.isEmpty then [] else xs.take size :: chunks size fuel (xs.drop size)

/-- The reports of a completed pass built, or the pass counted as skipped (R45). A segment still being sent
after TEL_ENABLE has been written 0 and 1 again makes the pass a skipped one, as R45 has it, though R49 says that
the first pass to complete is reported (DESIGN CHOICE, unsafe, log 34). -/
def State.buildReports (s : State) (p : Pass) : State :=
  let c := s.scan
  if !c.segments.isEmpty then s.setScan { c with reportSkips := bump c.reportSkips }
  else
    let built := s.potEntries 0xFFFF#16 true ((c.order p.start).flatMap ScanEntry.pots)
    let parts := chunks Config.segmentPots 3 built.1
    let segments := (parts.zipIdx).map fun (es, k) =>
      { passNumber := c.passNumber, index := k, count := parts.length, firstEntry := p.start,
        skips := c.reportSkips, startTime := p.startTime, entries := es : Segment }
    s.setScan { c with segments := segments, reportSkips := 0, upPot := built.2 }

/-- A change of TEL_ENABLE to `on` (R49). A segment whose frame is being sent is kept until it is sent. -/
def HostLink.reporting (h : HostLink) : Bool :=
  match h.transmitter with
  | .sendingReport _ => true
  | .idle => false
  | .sendingReply _ => false

/-- The segments not yet begun discarded (R49). -/
def State.discardSegments (s : State) : State :=
  s.setScan { s.scan with segments := if s.host.reporting then s.scan.segments.take 1 else [] }

/-- TEL_ENABLE set from 0 to 1, or from 1 to 0 (R49). -/
def State.telChange (s : State) (on : Bool) : State :=
  if on then s.setScan { s.scan with reportSkips := 0, upPass := 0#16 } else s.discardSegments

/-- The outcome of a poll taken: the next entry is polled, or the pass ends (R38, R39, R45). A report built
is offered to the transmitter (R169). -/
def State.nextPoll (s : State) (p : Pass) : State :=
  let p1 := { p with done := p.done + 1 }
  if p1.done < s.scan.table.length then s.sendPoll p1
  else
    let s1 := s.setScan { s.scan with pass := none }
    if s.cfg .telEnable = 1 then (s1.buildReports p).kick else s1

/-! ### Readings (R42 to R44) -/

/-- A stale reading of pot `p` (R42). -/
def State.staleReading (s : State) (p : Nat) : State :=
  let x := s.pot p
  let n := satInc 255 x.stale
  let s1 := s.setPot p { x with stale := n, staleNow := true }
  s1.when (decide (3 ≤ n) && !x.cutOut && x.ae.state != .unmonitored) fun s => s.signalLost p

/-- The step of the filter (R43 step 3); the division is rounded toward minus infinity. -/
def filterStep (filtered v shift : Nat) : Nat :=
  ((filtered : Int) + ((v : Int) - filtered) / (2 ^ shift : Nat)).toNat

/-- The pseudo-resistance for a filtered voltage (R44). -/
def pseudoResistance (filtered backEmf current : Nat) : Nat := (filtered - backEmf) * 1000000 / current

/-- Steps 1 to 4 of R43 on a pot record, for a reading `v` of status `st` taken at `now` with the line
current `current`. -/
def Pot.fresh (x : Pot) (v : Nat) (st : ReadStatus) (now : Time) (current shift backEmf : Nat) : Pot :=
  let x1 := { x with lastVoltage := v, status := st, lastFresh := some now, stale := 0, staleNow := false }
  if x.cutOut then x1
  else
    let f := if !x.seeded then v else if x.ae.frozen then x.filtered else filterStep x.filtered v shift
    { x1 with
      seeded := true, filtered := f,
      resistance := if 10000 ≤ current then pseudoResistance f backEmf current else x.resistance }

/-- A fresh reading of pot `p` (R43). -/
def State.freshReading (s : State) (p v : Nat) (st : ReadStatus) : State :=
  let x := s.pot p
  if x.fitted then
    let s1 := s.setPot p
      (x.fresh v st s.energy.time s.front.line.current (s.cfgN .filterShift) (s.cfgN .backEmf))
    if x.cutOut then s1 else s1.evalAe p v (if x.seeded then x.filtered else v)
  else s

/-! ### Module replies (R41, R185) -/

/-- Causes of SCAN_FAULT (R41). -/
inductive ScanFault where
  | noReply | badCrc | openWire
deriving DecidableEq, Repr

/-- Codes of the causes (R41). -/
def ScanFault.code : ScanFault → Nat
  | .noReply => 1 | .badCrc => 2 | .openWire => 3

/-- The values and statuses of a module's reply (R185). -/
def readChannels : List Byte → List (Nat × Nat)
  | a :: b :: st :: rest => (beNat [a, b], st.toNat) :: readChannels rest
  | _ => []

/-- The values and statuses of a reply to a poll of `e`, if the reply is whole and right (R41, R185). -/
def goodReply (e : ScanEntry) (bytes : List Byte) : Option (List (Nat × Nat)) :=
  let chans := readChannels ((bytes.drop 3).take (3 * e.count))
  if bytes.length = 3 * e.count + 5 ∧ bytes.getD 0 0#8 = scanSync
      ∧ (bytes.getD 1 0#8).toNat = e.module + 0x80 ∧ (bytes.getD 2 0#8).toNat = e.count
      ∧ crcGood (bytes.drop 1) ∧ chans.all (fun c => decide (c.2 ≤ 2)) then some chans
  else none

/-- A poll outcome without readings (R41, R42); `lowest` is the lowest channel reported OPEN. -/
def State.staleEntry (s : State) (p : Pass) (fault : ScanFault) (lowest : Nat) : State :=
  let i := s.scan.polled p
  let s1 := (s.scan.entry i).pots.foldl (fun s x => s.staleReading x.1) s
  (s1.post .scanFault i [beBytes 1 fault.code, beBytes 1 lowest]).nextPoll p

/-- A poll outcome GOOD (R41, R43): each channel gives a fresh reading for its pot. -/
def State.freshEntry (s : State) (p : Pass) (chans : List (Nat × Nat)) : State :=
  let e := s.scan.entry (s.scan.polled p)
  (((chans.zipIdx).foldl (fun s x =>
    if x.1.2 = 2 then s.freshReading (e.firstPot + x.2) 65535 .overrange
    else s.freshReading (e.firstPot + x.2) x.1.1 .ok) s)).nextPoll p

/-- A reply received whole on the scan bus (R41). With no pass running it is discarded, a late reply to an
abandoned poll among them (R40). One that arrives while a poll of a later pass awaits its outcome is taken as
that poll's outcome (DESIGN CHOICE, safe, log 33). The lowest channel reported OPEN is a channel of the module
(DEDUCED, log 20). -/
def State.moduleReply (s : State) (bytes : List Byte) : State :=
  match s.scan.pass with
  | none => s
  | some p =>
    let e := s.scan.entry (s.scan.polled p)
    match goodReply e bytes with
    | none => s.staleEntry p .badCrc 0
    | some chans =>
      match chans.findIdx? (fun c => c.2 == 1) with
      | some k => s.staleEntry p .openWire (e.firstChan + k)
      | none => s.freshEntry p chans

/-- The 10 ms window expires with no reply received whole (R41). -/
def State.pollExpiry (s : State) : State :=
  match s.scan.pass with
  | none => s
  | some p => s.staleEntry p .noReply 0

/-! ### The scan table (R33 to R35, R51) -/

/-- Whether an entry's own fields are right (R33). -/
def ScanEntry.ok (e : ScanEntry) : Bool :=
  decide (1 ≤ e.module ∧ e.module ≤ 31 ∧ e.firstChan ≤ 15 ∧ 1 ≤ e.count ∧ e.count ≤ 16
    ∧ e.firstChan + e.count ≤ 16 ∧ 1 ≤ e.firstPot ∧ e.firstPot + e.count - 1 ≤ Config.pots)

/-- Whether two runs of numbers meet. -/
def runsMeet (a n b m : Nat) : Bool := decide (a < b + m ∧ b < a + n)

/-- Whether two entries are in conflict (R34). -/
def ScanEntry.conflicts (e f : ScanEntry) : Bool :=
  runsMeet e.firstPot e.count f.firstPot f.count
    || (e.module == f.module && runsMeet e.firstChan e.count f.firstChan f.count)

/-- The higher index of the lowest-indexed pair in conflict (R34); `i` is the index of the first entry. -/
def firstConflict : Nat → List ScanEntry → Option Nat
  | _, [] => none
  | i, e :: rest =>
    match rest.findIdx? e.conflicts with
    | some k => some (i + 1 + k)
    | none => firstConflict (i + 1) rest

/-- The index that a BAD_VALUE reply to SET_SCAN_TABLE carries, if the table is refused (R34). -/
def tableFault (t : List ScanEntry) : Option Nat :=
  if t.length = 0 ∨ Config.scanEntries < t.length then some 0xFF
  else
    match t.findIdx? (fun e => !e.ok) with
    | some i => some i
    | none => firstConflict 0 t

/-- The index of the entry of a table that covers pot `p`. -/
def coveringEntry (t : List ScanEntry) (p : Nat) : Option Nat :=
  t.findIdx? fun e => decide (e.firstPot ≤ p ∧ p < e.firstPot + e.count)

/-- A pot record with its voltage part as R35 clears it. The covering entry and the stale-this-pass mark go
back to their device-reset values with it (DESIGN CHOICE, log 19). -/
def Pot.clearVoltage (x : Pot) : Pot := { Pot.initial with ae := x.ae }

/-- The record of a pot that a new table covers, with its AE part (R35, R53). -/
def Pot.newlyFitted (entry : Nat) : Pot :=
  { Pot.initial with fitted := true, entry := entry, ae := { PotAe.initial with state := .unmonitored } }

/-- Pot `p` brought into line with a new table (R35, R53). -/
def State.installPot (s : State) (t : List ScanEntry) (p : Nat) : State :=
  let x := s.pot p
  match coveringEntry t p with
  | some i => if x.fitted then s.setPot p { x with entry := i } else s.setPot p (Pot.newlyFitted i)
  | none =>
    if x.fitted then
      let s1 := if x.ae.state.inAe then s.closeAe p .signalLost .out else s
      s1.setPot p { (s1.pot p).clearVoltage with ae := { (s1.pot p).ae with state := .out } }
    else s

/-- A new table installed, pot by pot (R35), in ascending number, which numbers the AEs that it closes
(DESIGN CHOICE, unsafe, log 36). -/
def State.installTable (s : State) (t : List ScanEntry) : State :=
  let s1 := s.setScan { s.scan with pass := none, table := t }
  potNumbers.foldl (fun s p => s.installPot t p) s1

/-- SET_SCAN_TABLE at ENGINEER authority (R34, R35). -/
def State.setScanTable (s : State) (payload : List Byte) : Reply × State :=
  if s.sup.state ≠ .setup then (Reply.bare .locked, s)
  else
    let t := readScanEntries (countOf payload) (payload.drop 1)
    match tableFault t with
    | some i => (⟨.badValue, beBytes 1 i⟩, s)
    | none => (Reply.bare .ok, s.installTable t)

/-- GET_SCAN_TABLE (R51). -/
def State.getScanTable (s : State) : Reply × State :=
  (⟨.ok, beBytes 1 s.scan.table.length ++ s.scan.table.flatMap ScanEntry.bytes⟩, s)

/-- GET_POTS (R51). -/
def State.getPots (s : State) (payload : List Byte) : Reply × State :=
  let first := field payload 0 2
  let count := field payload 2 1
  if count = 0 ∨ 21 < count ∨ first = 0 ∨ Config.pots < first ∨ Config.pots < first + count - 1 then
    (Reply.bare .badValue, s)
  else
    (⟨.ok, beBytes 2 first ++ beBytes 1 count
        ++ (List.range count).flatMap fun k => (s.pot (first + k)).bytes⟩, s)

/-- The controller's part in a line reset (R40, R49). -/
def State.scanLineReset (s : State) : State :=
  let before := s.scan.segments.length
  let s1 := s.abandonPass.discardSegments
  s1.when (s1.scan.segments.length < before) fun s =>
    s.setScan { s.scan with reportSkips := bump s.scan.reportSkips }

end Sys2Proof.Machine
end

