-- ==== Sys2Proof/Machine/Stack.lean ====
section
/-! DEFINITION. The ceiling stack (chapter 7): pushes and removals, lifetimes, the utility contact, and the
pot switching procedure. -/

namespace Sys2Proof.Machine

/-! ### Changes of the stack (R112, R113, R118) -/

/-- Changes of the stack (R118). -/
inductive StackChange where
  | pushed | popped | removed | expired | evicted | ended
deriving DecidableEq, Repr

/-- Codes of the changes (R118). -/
def StackChange.code : StackChange → Nat
  | .pushed => 1 | .popped => 2 | .removed => 3 | .expired => 4 | .evicted => 5 | .ended => 6

/-- STACK_CHANGE for the entry `e`, with the term of the stack as it stands (R118). -/
def State.postStack (s : State) (change : StackChange) (e : StackEntry) : State :=
  s.post .stackChange e.id
    [beBytes 1 change.code, beBytes 1 e.source.code, beBytes 3 e.ceiling, beBytes 3 (s.stack.term.getD 0)]

/-- The id after `n`, 256 becoming 1 (R112). -/
def idAfter (n : Nat) : Nat := if n < 255 then n + 1 else 1

/-- The first id from `n` upward that no entry holds (R112), looked for at most `fuel` times. -/
def freeId (used : List Nat) : Nat → Nat → Nat
  | 0, n => n
  | fuel + 1, n => if n ∈ used then freeId used fuel (idAfter n) else n

/-- The id that the next entry pushed takes (R112). -/
def CeilingStack.newId (k : CeilingStack) : Nat := freeId (k.entries.map (·.id)) 255 k.nextId

/-- An entry pushed on top, with its event (R112, R118). -/
def State.pushEntry (s : State) (source : Source) (ceiling : Nat) (rate life : Option Nat) : State :=
  let k := s.stack
  let e : StackEntry :=
    { id := k.newId, source := source, ceiling := ceiling, rate := rate, life := life, pushed := s.energy.time }
  (s.setStack { k with entries := e :: k.entries, nextId := idAfter k.newId }).postStack .pushed e

/-- The first entry that `p` picks removed, from wherever it stands, with its event (R112, R118). -/
def State.removeEntry (s : State) (p : StackEntry → Bool) (change : StackChange) : State :=
  match s.stack.entries.find? p with
  | some e => (s.setStack { s.stack with entries := s.stack.entries.eraseP p }).postStack change e
  | none => s

/-- The stack ceiling term as replies carry it (11.1). -/
def State.termBytes (s : State) : List Byte := optBytes 4 s.stack.term

/-! ### Requests on the stack (R114 to R116, R118) -/

/-- A ceiling clamped to 0..LINE_MAX. -/
def State.clampCeiling (s : State) (v : Nat) : Nat := min v s.lineMax

/-- PUSH_CEILING (R114). -/
def State.pushCeiling (s : State) (payload : List Byte) (engineer : Bool) : Reply × State :=
  let asked := field payload 0 4
  let rate := field payload 4 4
  let life := field payload 8 4
  if 86400 < life then (Reply.bare .badValue, s)
  else if Config.stackSize ≤ s.stack.entries.length then (Reply.bare .stackFull, s)
  else
    let ceiling := s.clampCeiling asked
    let stored := if rate = 0 then none else some (max 10 (min 50000 rate))
    let s1 := s.pushEntry (if engineer then .engineer else .operator) ceiling stored
      (if life = 0 then none else some (life * 10))
    (⟨if ceiling = asked ∧ stored.getD 0 = rate then .ok else .adjusted,
      beBytes 1 s.stack.newId ++ beBytes 4 ceiling ++ beBytes 4 (stored.getD 0) ++ s1.termBytes⟩, s1)

/-- POP_CEILING (R115). -/
def State.popCeiling (s : State) (engineer : Bool) : Reply × State :=
  match s.stack.entries with
  | [] => (Reply.bare .stackEmpty, s)
  | top :: rest =>
    if top.source.binding then (Reply.bare .notPermitted, s)
    else if top.source = .engineer ∧ !engineer then (Reply.bare .notPermitted, s)
    else
      let s1 := (s.setStack { s.stack with entries := rest }).postStack .popped top
      (⟨.ok, beBytes 1 top.id ++ beBytes 4 top.ceiling ++ s1.termBytes⟩, s1)

/-- REMOVE_CEILING at ENGINEER authority (R116). -/
def State.removeCeiling (s : State) (payload : List Byte) : Reply × State :=
  let id := field payload 0 1
  match s.stack.entries.find? (fun e => e.id == id) with
  | none => (Reply.bare .noSuch, s)
  | some e =>
    if e.source.binding then (Reply.bare .notPermitted, s)
    else
      let s1 := s.removeEntry (fun e => e.id == id) .removed
      (⟨.ok, s1.termBytes⟩, s1)

/-- GET_STACK (R118). -/
def State.getStack (s : State) : Reply × State :=
  let k := s.stack
  (⟨.ok, beBytes 1 k.entries.length ++ k.entries.flatMap StackEntry.bytes ++ s.termBytes
      ++ beBytes 1 k.nextId ++ flagByte k.utility ++ k.switching.bytes⟩, s)

/-! ### Lifetimes (R117) -/

/-- An entry's lifetime after a boundary (R117). -/
def StackEntry.tick (e : StackEntry) : StackEntry := { e with life := e.life.map (· - 1) }

/-- An entry whose lifetime has run out (R117). -/
def StackEntry.spent (e : StackEntry) : Bool := e.life == some 0

/-- The lifetimes advanced by a boundary (R117). -/
def State.tickLives (s : State) : State :=
  s.setStack { s.stack with entries := s.stack.entries.map StackEntry.tick }

/-- The entries whose lifetime has run out removed together, each with its event (R117). The events of several
are posted from the top downward, an order that the manual leaves open (DESIGN CHOICE, unsafe, log 37). -/
def State.expireEntries (s : State) : State :=
  let gone := s.stack.entries.filter StackEntry.spent
  gone.foldl (fun s e => s.postStack .expired e)
    (s.setStack { s.stack with entries := s.stack.entries.filter fun e => !e.spent })

/-- The entry with id `id` removed, if its lifetime has run out (R117). -/
def State.expireEntry (s : State) (id : Nat) : State :=
  s.removeEntry (fun e => e.id == id && e.spent) .expired

/-! ### The utility contact (R119, R120) -/

/-- The oldest non-binding entry evicted from a full stack (R120). -/
def State.evictOldest (s : State) : State :=
  let k := s.stack
  if k.entries.length < Config.stackSize then s
  else
    match k.entries.reverse.find? (fun e => !e.source.binding) with
    | some e =>
      (s.setStack { k with entries := (k.entries.reverse.eraseP fun e => !e.source.binding).reverse }).postStack
        .evicted e
    | none => s

/-- A UTILITY entry pushed, when none stands (R112, R120). -/
def State.pushUtility (s : State) : State :=
  if s.stack.entries.any (fun e => e.source == .utility) then s
  else s.evictOldest.pushEntry .utility (s.clampCeiling (s.cfgN .utilityCeiling)) none none

/-- The registered level of the UTILITY contact becomes `level` (R119, R120). -/
def State.registerUtility (s : State) (level : Bool) : State :=
  let s1 := (s.setStack { s.stack with utility := level, assertCount := 0, releaseCount := 0 }).post
    .utility 0 [flagByte level]
  if level then s1.pushUtility else s1.removeEntry (fun e => e.source == .utility) .removed

/-- Whether the contact has read `level`, which is not the registered one, at as many boundaries in a row as
its count asks: 10 for ASSERTED and 2 for DEASSERTED (R119). -/
def CeilingStack.utilityDue (k : CeilingStack) (level : Bool) : Bool :=
  level != k.utility && if level then decide (10 ≤ k.assertCount) else decide (2 ≤ k.releaseCount)

/-- The UTILITY pin read at a boundary (R119). `apart` leaves a registration to UTILITY_INPUT_CHANGE, the
count standing at its end (log 2). -/
def State.readUtility (s : State) (pin : Bool) (apart : Bool) : State :=
  let k := s.stack
  if k.utility then
    let n := if pin then 0 else satInc 2 k.releaseCount
    if 2 ≤ n && !apart then s.registerUtility false else s.setStack { k with releaseCount := n }
  else
    let n := if pin then satInc 10 k.assertCount else 0
    if 10 ≤ n && !apart then s.registerUtility true else s.setStack { k with assertCount := n }

/-! ### The pot switching procedure (R121 to R124) -/

/-- The pot switching record replaced. -/
def State.setSwitching (s : State) (w : Switching) : State := s.setStack { s.stack with switching := w }

/-- SWITCH for pot `p`, with its value fields (R186). -/
def State.postSwitch (s : State) (p : Nat) (fields : List Nat) : State :=
  s.post .switch p (fields.map (beBytes 1))

/-- POT_SWITCH with a kind in its list (R121). -/
def State.beginSwitch (s : State) (p : Nat) (kind : SwitchKind) : Reply × State :=
  let x := s.pot p
  if !(decide (1 ≤ p ∧ p ≤ Config.pots) && x.fitted) then (Reply.bare .noSuch, s)
  else if !s.regulating || (kind == .cutOut && (x.cutOut || s.ae.flag p)) || (kind == .cutIn && !x.cutOut) then
    (Reply.bare .wrongState, s)
  else if s.stack.switching.inProgress then (Reply.bare .busy, s)
  else if Config.stackSize ≤ s.stack.entries.length then (Reply.bare .stackFull, s)
  else
    let id := s.stack.newId
    let s1 := s.pushEntry .switching (s.clampCeiling (s.cfgN .switchCeiling)) none none
    let s2 := s1.setSwitching
      { s1.stack.switching with phase := .lowering, pot := p, kind := kind, entry := id,
                                accepted := some s.energy.time, timer := 0 }
    (⟨.ok, beBytes 1 id⟩, s2.postSwitch p [1])

/-- POT_SWITCH (R121). -/
def State.potSwitch (s : State) (payload : List Byte) : Reply × State :=
  match field payload 2 1 with
  | 1 => s.beginSwitch (field payload 0 2) .cutOut
  | 2 => s.beginSwitch (field payload 0 2) .cutIn
  | _ => (Reply.bare .badValue, s)

/-- The end of a procedure: the SWITCHING entry removed, the phase NONE, and SWITCH ENDED (R123, R124). -/
def State.endSwitch (s : State) (cause : SwitchEnd) : State :=
  let s1 := s.removeEntry (fun e => e.source == .switching) .ended
  let s2 := s1.setSwitching { s1.stack.switching with phase := .none, lastEnd := cause }
  s2.postSwitch s2.stack.switching.pot [3, cause.code]

/-- POT_SWITCH_DONE (R123). -/
def State.potSwitchDone (s : State) : Reply × State :=
  let w := s.stack.switching
  if w.phase = .ready then
    (⟨.ok, beBytes 2 w.pot ++ beBytes 1 w.kind.code⟩, (s.changePot w.pot (w.kind == .cutOut)).endSwitch .done)
  else (Reply.bare .wrongState, s)

/-- POT_SWITCH_ABORT (R124). -/
def State.potSwitchAbort (s : State) : Reply × State :=
  if s.stack.switching.inProgress then (Reply.bare .ok, s.endSwitch .aborted) else (Reply.bare .wrongState, s)

/-- SET_POT_STATE at ENGINEER authority (R126). -/
def State.setPotState (s : State) (payload : List Byte) : Reply × State :=
  let p := field payload 0 2
  let code := field payload 2 1
  if 1 < code then (Reply.bare .badValue, s)
  else if !(decide (1 ≤ p ∧ p ≤ Config.pots) && (s.pot p).fitted) then (Reply.bare .noSuch, s)
  else if s.sup.state ≠ .setup then (Reply.bare .wrongState, s)
  else if (code == 1) = (s.pot p).cutOut then (Reply.bare .ok, s)
  else (Reply.bare .ok, (s.changePot p (code == 1)).postSwitch p [4, code])

/-- Whether a sample lets the bridge be worked (R122). -/
def State.switchLow (s : State) : Bool :=
  s.front.line.state != .fault
    && decide (s.front.line.current ≤ s.cfgN .switchCeiling + s.cfgN .switchTol)

/-- The readiness tests of a line sample (R122). -/
def State.switchReadiness (s : State) : State :=
  let w := s.stack.switching
  match w.phase with
  | .none => s
  | .lowering => if s.switchLow then (s.setSwitching { w with phase := .ready }).postSwitch w.pot [2] else s
  | .ready => if s.switchLow then s else (s.setSwitching { w with phase := .lowering }).postSwitch w.pot [1]

/-- The end of a procedure by its timer, if it is due (R122, R124). -/
def State.switchTimeout (s : State) : State :=
  let w := s.stack.switching
  if w.inProgress && decide (s.cfgN .switchTimeout * 10 ≤ w.timer) then s.endSwitch .timeout else s

/-- The procedure timer advanced by a boundary (R122). -/
def State.tickSwitch (s : State) : State :=
  let w := s.stack.switching
  if w.inProgress then s.setSwitching { w with timer := w.timer + 1 } else s

/-- The stack's part of a boundary, but for the UTILITY pin (R117, R122). Lifetimes expire before the readiness test
and the timeout of a procedure (DESIGN CHOICE, unsafe, log 41), and the readiness test comes before the procedure
timer (DESIGN CHOICE, unsafe, log 38): the manual leaves both orders open. `apart` leaves expiries and the
timeout to STACK_ENTRY_EXPIRED and SWITCH_TIMEOUT (log 2). -/
def State.stackSample (s : State) (apart : Bool) : State :=
  let s1 := s.tickLives.when (!apart) State.expireEntries
  let s2 := s1.switchReadiness.tickSwitch
  s2.when (!apart) State.switchTimeout

/-! ### Line reset and settings -/

/-- The stack's part in a line reset (R125). -/
def State.stackLineReset (s : State) : State :=
  let w := s.stack.switching
  let s1 := s.when w.inProgress fun s =>
    (s.setSwitching { w with phase := .none, lastEnd := .lineReset }).postSwitch w.pot
      [3, SwitchEnd.lineReset.code]
  let s2 := s1.setStack { s1.stack with entries := [] }
  s2.when s2.stack.utility State.pushUtility

/-- The ceiling of a standing entry of source `src` set to the value of a setting just written (R120,
R121). -/
def State.rewriteCeiling (s : State) (src : Source) (v : Nat) : State :=
  let rewrite := fun (e : StackEntry) => if e.source = src then { e with ceiling := v } else e
  s.setStack { s.stack with entries := s.stack.entries.map rewrite }

end Sys2Proof.Machine
end

