-- ==== Sys2Proof/Machine/Requests.lean ====
section
/-! DEFINITION. SET_ITEMS and GET_ITEMS (R173 to R175), GET_STATUS (R179), and the two resets (R15, R180,
R181). -/

namespace Sys2Proof.Machine

/-! ### Writing items (R172 to R174) -/

/-- What the owner of an item does at a write of it (R172): `before` is the state before the write, and `v`
the value now stored. -/
def State.itemEffect (s : State) (i : Item) (before : State) (v : Int) : State :=
  match i with
  | .telEnable => s.when (before.cfg i != v) fun s => s.telChange (v == 1)
  | .group g .fitted => s.when (before.cfg i != v) fun s => s.fitChange g (v == 1) before.carriage
  | .demandMinutes => s.when (before.cfg i != v) fun s => s.cutInterval.openShort
  | .aeHoldCount => s.evalHold
  | .attnLevel => s.evalAttn
  | .utilityCeiling => s.rewriteCeiling .utility v.toNat
  | .switchCeiling => s.rewriteCeiling .switching v.toNat
  | _ => s

/-- One pair applied (R172, R174). -/
def State.writeItem (s : State) (i : Item) (v : Int) : State :=
  (s.setSettings (s.settings.apply i v)).itemEffect i s (i.stored s.settings v)

/-- Whether the authority used may write an item (R173). -/
def Item.mayWrite (i : Item) (eng : Bool) : Bool := eng || !i.row.engineer

/-- The items that a list of pairs names, with the values carried; a pair of an unknown item is left out,
and check 2 has refused the request before. -/
def namedPairs (pairs : List (Nat × Int)) : List (Item × Int) :=
  pairs.filterMap fun p => (Item.ofId? p.1).map fun i => (i, p.2)

/-- The store after the pairs that the authority used may write (R173 check 5). -/
def Settings.after (st : Settings) (pairs : List (Item × Int)) (eng : Bool) : Settings :=
  pairs.foldl (fun st p => if p.1.mayWrite eng then st.apply p.1 p.2 else st) st

/-- Integers strictly rising. -/
def risingInts : List Int → Bool
  | a :: b :: rest => decide (a < b) && risingInts (b :: rest)
  | _ => true

/-- The temperatures of a loop's derate points. -/
def Settings.derateTemps (st : Settings) (g : Group) : List Int :=
  (List.finRange 8).map fun k => derateTemp (st.get (.loop g (.derate k)))

/-- The constraints of R173 check 5 with their codes. -/
def Settings.constraints (st : Settings) : List (Nat × Bool) :=
  [(1, decide (st.get .lineFloor ≤ st.get .lineMax)), (2, decide (st.get .aeOff ≤ st.get .aeOn - 500))]
    ++ Group.all.map fun g => (2 + g.num, risingInts (st.derateTemps g))

/-- The code of the first constraint that does not hold (R173 check 5). -/
def Settings.broken (st : Settings) : Option Nat := (st.constraints.find? fun c => !c.2).map (·.1)

/-- Checks 2 to 5 of R173, for the pairs carried and the items they name: the result of the refusal, the
pair index and the constraint code. -/
def State.refusePairs (s : State) (pairs : List (Nat × Int)) (eng : Bool) : Option (Result × Nat × Nat) :=
  let items := namedPairs pairs
  match pairs.findIdx? (fun p => (Item.ofId? p.1).isNone) with
  | some k => some (.noSuch, k, 0)
  | none =>
    match items.findIdx? (fun p => !p.1.accepts p.2) with
    | some k => some (.badValue, k, 0)
    | none =>
      match items.findIdx? (fun p => p.1.row.setupOnly && s.sup.state != .setup && p.1.mayWrite eng) with
      | some k => some (.locked, k, 0)
      | none => ((s.settings.after items eng).broken).map fun code => (.badValue, 0xFF, code)

/-- The state and the two masks after a pair, `k` being its index (R174). -/
structure Applied where
  state    : State
  index    : Nat
  skipped  : List Nat
  adjusted : List Nat

/-- One pair carried out or skipped (R174). -/
def Applied.step (eng : Bool) (a : Applied) (p : Item × Int) : Applied :=
  if p.1.mayWrite eng then
    { state := a.state.writeItem p.1 p.2, index := a.index + 1, skipped := a.skipped,
      adjusted := if p.1.stored a.state.settings p.2 = p.2 then a.adjusted else a.adjusted ++ [a.index] }
  else { a with index := a.index + 1, skipped := a.skipped ++ [a.index] }

/-- A mask of 32 bits and the number of its bits set (R174). -/
def maskBytes (bits : List Nat) : List Byte := beBytes 4 ((bits.map (2 ^ ·)).sum) ++ beBytes 1 bits.length

/-- SET_ITEMS (R173, R174). The constraint code of a refusal by check 1 is open (log 30). -/
def State.setItems (s : State) (payload : List Byte) (eng : Bool) : Reply × State :=
  let count := countOf payload
  if count = 0 ∨ 32 < count then
    let code := s.openBytes 1
    (⟨.badValue, beBytes 1 0xFF ++ code.1⟩, code.2)
  else
    let pairs := readPairs count (payload.drop 1)
    match s.refusePairs pairs eng with
    | some (result, index, code) => (⟨result, beBytes 1 index ++ beBytes 1 code⟩, s)
    | none =>
      let a := (namedPairs pairs).foldl (Applied.step eng) ⟨s, 0, [], []⟩
      (⟨if !a.skipped.isEmpty then .part else if !a.adjusted.isEmpty then .adjusted else .ok,
        maskBytes a.skipped ++ maskBytes a.adjusted⟩, a.state)

/-- GET_ITEMS (R175). -/
def State.getItems (s : State) (payload : List Byte) : Reply × State :=
  let count := countOf payload
  if count = 0 ∨ 32 < count then (Reply.bare .badValue, s)
  else
    let ids := readIds count (payload.drop 1)
    match ids.findIdx? (fun n => (Item.ofId? n).isNone) with
    | some k => (⟨.noSuch, beBytes 1 k⟩, s)
    | none => (⟨.ok, (ids.filterMap Item.ofId?).flatMap fun i => beSigned 4 (s.cfg i)⟩, s)

/-! ### GET_STATUS (R179) -/

/-- The registered input levels (11.1). Bits 3 to 7 of the first byte and bits 6 and 7 of the second, which 11.1 does
not name, are 0 (DESIGN CHOICE, unsafe, log 42). -/
def State.inputBytes (s : State) : List Byte :=
  let trip := fun g => (s.unit g).record.trip.toNat * 2 ^ (g.num - 1)
  beBytes 1 (s.host.keyLevel.toNat + 2 * s.stack.utility.toNat + 4 * s.sup.safeLevel.toNat)
    ++ beBytes 1 (groupSum trip)

/-- GET_STATUS (R179). -/
def State.getStatus (s : State) : Reply × State :=
  let h := s.host
  (⟨.ok,
    s.sup.bytes ++ s.front.line.bytes ++ (s.chan 0).bytes ++ (s.chan 1).bytes ++ (s.chan 2).bytes
      ++ s.reg.bytes ++ flagByte s.ae.hold ++ optBytes 4 s.energy.limiter.trim ++ beBytes 2 s.ae.count
      ++ s.ae.map.flatMap (fun w => beBytes 4 w.toNat) ++ beBytes 4 s.ae.closed
      ++ beBytes 4 s.scan.passNumber ++ beBytes 2 s.scan.periodSkips ++ beBytes 2 s.scan.reportSkips
      ++ beBytes 1 s.scan.segments.length ++ s.inputBytes
      ++ beBytes 2 h.badLen ++ beBytes 2 h.timeouts ++ beBytes 2 h.crcErrors ++ beBytes 2 h.overruns
      ++ beBytes 1 s.events.entries.length ++ flagByte s.events.overrun
      ++ timeBytes s.energy.time ++ flagByte s.energy.clockSet⟩, s)

/-! ### Resets -/

/-- The Host Link Controller's own part in a line reset (R180). -/
def State.hostLineReset (s : State) : State :=
  let s1 := s.setHost { s.host with queue := [] }
  let s2 := s1.setEvents { s1.events with entries := [], overrun := false }
  let s3 := s2.post .resetDone 0 [beBytes 1 2]
  let s4 := s3.setHost { s3.host with badLen := 0, timeouts := 0, crcErrors := 0, overruns := 0 }
  s4.evalAttn

/-- The supervisor's part in a line reset (R15). -/
def State.supLineReset (s : State) : State :=
  s.setSup { s.sup with state := .setup, cause := .lineReset, lastRun := .none, lossTimer := none }

/-- The line reset of every block, before the SAFE level is tested (R15, R180). The order of the blocks
after the supervisor and the regulator is the model's, but for the order that R86 gives (log 17). -/
def State.lineResetBlocks (s : State) : State :=
  let s1 := s.hostLineReset.supLineReset
  let s2 := s1.setReg Regulator.initial
  let s3 := s2.aeLineReset.scanLineReset
  let s4 := s3.eachGroup State.coolingLineReset
  let s5 := s4.linkLineReset.eachGroup State.rewriteStage
  s5.stackLineReset.energyLineReset

/-- LINE_RESET at ENGINEER authority (R15, R180). -/
def State.lineReset (s : State) : Reply × State :=
  let s1 := s.lineResetBlocks.safeIfAsserted
  (⟨.ok, beBytes 1 s1.sup.state.code⟩, s1)

/-- A device reset that found the pins at `p` (R1, R12, R181). The waiting commands and the index of the
next open value are the model's own and are kept. -/
def State.deviceReset (s : State) (p : Pins) : State :=
  ({ State.afterReset p with pending := s.pending, free := s.free }).safeIfAsserted

end Sys2Proof.Machine
end

