-- ==== Sys2Proof/Machine/GroupCommands.lean ====
section
/-! DEFINITION. The meanings of the commands of the rectifier group link and of the loops:
one definition for each row of the table. -/

namespace Sys2Proof.Machine

/-- GROUP_ORDER with kind START (R96). -/
def execGroupOrderStart (s : State) : Host.Outcome State Fault Refusal := .next (s.serveGroupOrder .start)

/-- GROUP_ORDER with kind STOP (R96, R97). -/
def execGroupOrderStop (s : State) : Host.Outcome State Fault Refusal := .next (s.serveGroupOrder .stop)

/-- GROUP_ORDER with kind RESET_TRIP (R96). -/
def execGroupOrderResetTrip (s : State) : Host.Outcome State Fault Refusal :=
  .next (s.serveGroupOrder .resetTrip)

/-- GROUP_ORDER with kind CAPTURE (R96). -/
def execGroupOrderCapture (s : State) : Host.Outcome State Fault Refusal :=
  .next (s.serveGroupOrder .capture)

/-- GROUP_ORDER with kind GROUP_RESET (R96). -/
def execGroupOrderGroupReset (s : State) : Host.Outcome State Fault Refusal :=
  .next (s.serveGroupOrder .groupReset)

/-- GET_GROUP (R111). -/
def execGetGroup (s : State) : Host.Outcome State Fault Refusal :=
  .next (s.serve .getGroup fun p _ s => s.getGroup p)

/-- ORDER_SEND (R99). -/
def execOrderSend (s : State) : Host.Outcome State Fault Refusal := .next (s.orderSend)

/-- GROUP_REPLY (R101 to R104): a frame is received on the group link. -/
def execGroupReply (bytes : List Byte) (s : State) : Host.Outcome State Fault Refusal :=
  .next (s.groupReply bytes)

/-- REPLY_WINDOW_EXPIRY (R105, R109). -/
def execReplyWindowExpiry (s : State) : Host.Outcome State Fault Refusal := .next (s.windowExpiry)

/-- BACKOFF_DEADLINE (R104). -/
def execBackoffDeadline (g : Group) (slot : LinkSlot) (s : State) : Host.Outcome State Fault Refusal :=
  .next (s.backoffPass g slot)

/-- SENSE_TIMER_EXPIRY (R100): the running sense timer of a group expires. -/
def execSenseTimerExpiry (g : Group) (s : State) : Host.Outcome State Fault Refusal :=
  .next (s.senseExpiry g)

/-- TRIP_INPUT_EVENT (R90): a change of the registered trip input to `level`. -/
def execTripInputEvent (g : Group) (level : Bool) (s : State) : Host.Outcome State Fault Refusal :=
  .next (s.tripEvent g level)

/-- COOLING_SENSOR (R75): a change of the sensor fault field that the invalid runs call for. -/
def execCoolingSensor (g : Group) (s : State) : Host.Outcome State Fault Refusal := .next (s.sensorChange g)

/-- COOLING_STOP (R78): a cooling stop that the critical dwell calls for. -/
def execCoolingStop (g : Group) (s : State) : Host.Outcome State Fault Refusal := .next (s.coolingStop g)

/-- UNLOAD_TIME_END (R84): the end by TIME that the unload timer calls for. -/
def execUnloadTimeEnd (g : Group) (s : State) : Host.Outcome State Fault Refusal :=
  .next (s.unloadTimeEnd g)

end Sys2Proof.Machine
end

