-- ==== Sys2Proof/Machine/HostCommands.lean ====
section
/-! DEFINITION. The meanings of the commands of the host link: resets, bytes received and frames sent,
identity and status, settings, events and the key switch:
one definition for each row of the table. -/

namespace Sys2Proof.Machine

/-- DEVICE_RESET (R181, and the device-reset values of every block). -/
def execDeviceReset (pins : Pins) (s : State) : Host.Outcome State Fault Refusal :=
  .next (s.deviceReset pins)

/-- LINE_RESET (R15, R180). -/
def execLineReset (s : State) : Host.Outcome State Fault Refusal :=
  .next (s.serve .lineReset fun _ _ s => s.lineReset)

/-- HOST_SYNC_FOUND (R166): the byte 0xC3 is received. -/
def execHostSyncFound (s : State) : Host.Outcome State Fault Refusal := .next (s.receive [hostSync])

/-- HOST_FRAME_RECEIVED (R166, R167): bytes of a frame are received, up to its last CRC byte. -/
def execHostFrameReceived (bytes : List Byte) (s : State) : Host.Outcome State Fault Refusal :=
  .next (s.receive bytes)

/-- BAD_LEN_ABANDON (R166): the two LEN bytes are received. -/
def execBadLenAbandon (hi lo : Byte) (s : State) : Host.Outcome State Fault Refusal :=
  .next (s.receive [hi, lo])

/-- FRAME_TIMEOUT (R166). -/
def execFrameTimeout (s : State) : Host.Outcome State Fault Refusal := .next (s.frameGap)

/-- HOST_FRAME_SENT (R169). -/
def execHostFrameSent (s : State) : Host.Outcome State Fault Refusal := .next (s.frameSent)

/-- BAD_KIND_REQUEST (R168 test 1). -/
def execBadKindRequest (s : State) : Host.Outcome State Fault Refusal := .next (s.serveBadKind)

/-- IDENTIFY (R179). -/
def execIdentify (s : State) : Host.Outcome State Fault Refusal :=
  .next (s.serve .identify fun _ _ s => s.identify)

/-- GET_STATUS (R179). -/
def execGetStatus (s : State) : Host.Outcome State Fault Refusal :=
  .next (s.serve .getStatus fun _ _ s => s.getStatus)

/-- SET_ITEMS (R173, R174). -/
def execSetItems (s : State) : Host.Outcome State Fault Refusal :=
  .next (s.serve .setItems fun p eng s => s.setItems p eng)

/-- GET_ITEMS (R175). -/
def execGetItems (s : State) : Host.Outcome State Fault Refusal :=
  .next (s.serve .getItems fun p _ s => s.getItems p)

/-- GET_EVENT (R177). -/
def execGetEvent (s : State) : Host.Outcome State Fault Refusal :=
  .next (s.serve .getEvent fun _ _ s => s.getEvent)

/-- ENG_KEY_CHANGE (R170): a change of the registered key level to `level`, once the pin has read it at two
boundaries in a row. -/
def execEngKeyChange (level : Bool) (s : State) : Host.Outcome State Fault Refusal :=
  .next (if s.host.keyDue level then s.registerKey level else s)

end Sys2Proof.Machine
end

