-- ==== Sys2Proof/Machine/FrontEnd.lean ====
section
/-! DEFINITION. The measurement front end (chapter 2): channel samples, line current selection, the line
measurement state, and the events of a line sample. -/

namespace Sys2Proof.Machine

/-! ### Channel samples (R18 to R20) -/

/-- Quantity range of a channel (section 2.1). -/
def channelRange (n : Nat) : Int × Int :=
  if n = 2 then (0, 2000000) else if n < 9 then (0, 650000)
  else if n ≤ 20 then (-200, 1500) else (0, 5000)

/-- The floor mean of a sample's 16 conversions (R18). -/
def meanOf (conv : Vector Word16 16) : Nat := (conv.toList.map (·.toNat)).sum / 16

/-- A sample is INVALID if any conversion equals 65,535 or is below 16 (R18). -/
def sampleValid (conv : Vector Word16 16) : Bool :=
  conv.toList.all fun c => decide (16 ≤ c.toNat ∧ c.toNat < 65535)

/-- A raw mean scaled and brought into the channel's range (R19). -/
def scaled (n : Nat) (offset span : Int) (mean : Nat) : Int :=
  clampInt (channelRange n).1 (channelRange n).2 (offset + (mean : Int) * span / 65535)

/-- A channel record after a sample (R18 to R20). -/
def Channel.take (c : Channel) (n : Nat) (offset span : Int) (conv : Vector Word16 16) : Channel :=
  if sampleValid conv then
    { value := scaled n offset span (meanOf conv), valid := true, invalidRun := 0, rawMean := meanOf conv }
  else
    { c with valid := false, invalidRun := satInc Config.counterMax c.invalidRun, rawMean := meanOf conv }

/-- All 27 channel records after a sample, with the calibration as it stands (R21, R28). -/
def State.sampleChannels (s : State) (conv : Vector (Vector Word16 16) 27) : List Channel :=
  (List.finRange 27).map fun n =>
    (s.chan n.val).take n.val (s.cfg (.offset n)) (s.cfg (.span n)) conv[n]

/-! ### Line current selection (R22, R23) -/

/-- The group sum S, if it is available (R22). -/
def State.groupSumS (s : State) : Option Nat :=
  let gs := Group.all.filter s.fitted
  if gs.isEmpty || gs.any (fun g => !(s.chan (gcChan g)).valid) then none
  else some (gs.map fun g => (s.chan (gcChan g)).value.toNat).sum

/-- Whether two currents agree within `tol` permille (R23). -/
def currentsAgree (a b tol : Nat) : Bool := decide (((a - b) + (b - a)) * 1000 ≤ tol * max a b)

/-- Whichever of `a` and `b` is nearer `sum`, `a` on a tie (R23). -/
def nearer (a b sum : Nat) : Nat :=
  if (b - sum) + (sum - b) < (a - sum) + (sum - a) then b else a

/-- The selected current and the selection result (R23). -/
def State.selectCurrent (s : State) : Nat × LineState :=
  let ca := s.chan 0
  let cb := s.chan 1
  let a := ca.value.toNat
  let b := cb.value.toNat
  let held := s.front.line.current
  match ca.valid, cb.valid with
  | true, true =>
    if currentsAgree a b (s.cfgN .lcurTol) then ((a + b) / 2, .normal)
    else
      match s.groupSumS with
      | some sum => (nearer a b sum, .disagree)
      | none => (held, .fault)
  | true, false => (a, .single)
  | false, true => (b, .single)
  | false, false => (held, .fault)

/-! ### The line measurement record (R24 to R27) -/

/-- The record's state and recovery count after a selection result (R25, R26). -/
def LineRecord.nextState (r : LineRecord) (sel : LineState) : LineState × Nat :=
  if r.state = .fault then
    if sel = .fault then (.fault, 0)
    else if 9 ≤ r.recovery then (sel, 0)
    else (.fault, r.recovery + 1)
  else if sel = .fault then (.fault, 0)
  else (sel, r.recovery)

/-- The cause of a LINE_FAULT (R30): BOTH_INVALID 1, UNRESOLVED 2. -/
def State.faultCause (s : State) : Nat := if (s.chan 0).valid || (s.chan 1).valid then 2 else 1

/-- The line sample completed (R28), for a clock that already reads the time of the boundary. -/
def State.completeSample (s : State) (conv : Vector (Vector Word16 16) 27) : State :=
  let s1 := s.setFront { s.front with chans := s.sampleChannels conv }
  let sel := s1.selectCurrent
  let lv := s1.chan 2
  let next := s1.front.line.nextState sel.2
  s1.setFront { s1.front with line :=
    { state := next.1, recovery := next.2, current := sel.1, voltage := lv.value.toNat, held := !lv.valid,
      sampleTime := s1.energy.time, selection := sel.2 } }

/-- The events of a sample, `before` being the record before it (R30). -/
def State.postSample (s : State) (before : LineRecord) : State :=
  let r := s.front.line
  let s1 := s.when (r.state == .fault && before.state != .fault) fun s =>
    s.post .lineFault 0 [beBytes 1 s.faultCause]
  s1.when (r.state != before.state || r.held != before.held) fun s =>
    s.post .lineMeas 0 [beBytes 1 r.state.code, beBytes 1 before.state.code, flagByte r.held]

/-- The front end's part of a boundary (R28, R30). -/
def State.frontSample (s : State) (conv : Vector (Vector Word16 16) 27) : State :=
  (s.completeSample conv).postSample s.front.line

end Sys2Proof.Machine
end

