-- ==== Sys2Proof/Machine/Boundary.lean ====
section
/-! DEFINITION. The 100 ms boundary (R28): what every block does at it, in the order of log 2. -/

namespace Sys2Proof.Machine

/-- The SAFE pin read at a boundary (R3). `apart` leaves a registration to SAFE_INPUT_EVENT (log 2). -/
def State.readSafe (s : State) (pin : Bool) (apart : Bool) : State :=
  let n := if pin = s.sup.safeLevel then 0 else satInc 2 s.sup.safeRun
  if 2 ≤ n && !apart then s.registerSafe pin else s.setSup { s.sup with safeRun := n }

/-- The boundary counted and the levels of the three level inputs read (R3, R32, R119, R170). -/
def State.beginBoundary (s : State) (b : Boundary) : State :=
  (s.setTicks (s.ticks + 1)).setPins { s.pins with safe := b.safe, utility := b.utility, engKey := b.engKey }

/-- The three level inputs (R3, R119, R170). -/
def State.readInputs (s : State) (b : Boundary) : State :=
  ((s.readUtility b.utility b.apart).readSafe b.safe b.apart).readKey b.engKey b.apart

/-- The line sample up to the supervisor's part of it (R10, R28, R144). -/
def State.lineSample (s : State) (b : Boundary) : State :=
  ((s.beginBoundary b).advanceClock.frontSample b.conversions).measurementHold

/-- A 100 ms boundary (R28 and the rules of each block). The clock advances first (R144); the order of the
blocks after the supervisor is the model's (DESIGN CHOICE, unsafe, log 2). -/
def State.boundary (s : State) (b : Boundary) : State :=
  let s1 := s.lineSample b
  let s2 := (s1.energySample b.apart).stackSample b.apart
  let s3 := s2.readInputs b
  let s4 := (s3.aeSample b.apart).scanSample b.apart
  s4.evalLoops b.apart

end Sys2Proof.Machine
end

