-- ==== Sys2Proof/Machine/SampleCommands.lean ====
section
/-! DEFINITION. The meanings of the commands of the 100 ms boundary, of energy and of demand:
one definition for each row of the table. -/

namespace Sys2Proof.Machine

/-- LINE_SAMPLE (R28): a 100 ms boundary. -/
def execLineSample (b : Boundary) (s : State) : Host.Outcome State Fault Refusal := .next (s.boundary b)

/-- LINE_MEAS_RECOVERY (R26): the 100 ms boundary whose sample ends a recovery (log 31). -/
def execLineMeasRecovery (b : Boundary) (s : State) : Host.Outcome State Fault Refusal :=
  .next (s.boundary b)

/-- DEMAND_EVALUATION (R150 step 6, R157), when it falls due. -/
def execDemandEvaluation (s : State) : Host.Outcome State Fault Refusal :=
  .next (if s.energy.interval.evalDue then s.evalDemand else s)

/-- TARIFF_MINUTE_EVALUATION (R147), at a minute boundary. -/
def execTariffMinuteEvaluation (s : State) : Host.Outcome State Fault Refusal := .next (s.minuteEvaluation)

/-- DEMAND_INTERVAL_END (R153), when the clock has reached the end. -/
def execDemandIntervalEnd (s : State) : Host.Outcome State Fault Refusal :=
  .next (if s.energy.intervalOver then s.closeInterval else s)

/-- SET_TARIFF (R146). -/
def execSetTariff (s : State) : Host.Outcome State Fault Refusal :=
  .next (s.serve .setTariff fun p _ s => s.setTariff p)

/-- SET_TIME (R145). -/
def execSetTime (s : State) : Host.Outcome State Fault Refusal :=
  .next (s.serve .setTime fun p _ s => s.setTime p)

/-- GET_ENERGY (R163). -/
def execGetEnergy (s : State) : Host.Outcome State Fault Refusal :=
  .next (s.serve .getEnergy fun _ _ s => s.getEnergy)

/-- GET_DEMAND_LOG (R154). -/
def execGetDemandLog (s : State) : Host.Outcome State Fault Refusal :=
  .next (s.serve .getDemandLog fun p _ s => s.getDemandLog p)

/-- CLOSE_PERIOD (R160). -/
def execClosePeriod (s : State) : Host.Outcome State Fault Refusal :=
  .next (s.serve .closePeriod fun _ _ s => s.closePeriod)

/-- GET_PERIODS (R161). -/
def execGetPeriods (s : State) : Host.Outcome State Fault Refusal :=
  .next (s.serve .getPeriods fun p _ s => s.getPeriods p)

end Sys2Proof.Machine
end

