-- ==== Sys2Proof/Machine/ScanCommands.lean ====
section
/-! DEFINITION. The meanings of the commands of the pot scan controller and the anode effect monitor:
one definition for each row of the table. -/

namespace Sys2Proof.Machine

/-- SET_SCAN_TABLE (R34, R35). -/
def execSetScanTable (s : State) : Host.Outcome State Fault Refusal :=
  .next (s.serve .setScanTable fun p _ s => s.setScanTable p)

/-- GET_SCAN_TABLE (R51). -/
def execGetScanTable (s : State) : Host.Outcome State Fault Refusal :=
  .next (s.serve .getScanTable fun _ _ s => s.getScanTable)

/-- GET_POTS (R51). -/
def execGetPots (s : State) : Host.Outcome State Fault Refusal :=
  .next (s.serve .getPots fun p _ s => s.getPots p)

/-- GET_AE_LOG (R68). -/
def execGetAeLog (s : State) : Host.Outcome State Fault Refusal :=
  .next (s.serve .getAeLog fun p _ s => s.getAeLog p)

/-- SCAN_PERIOD_EXPIRY (R37, R38). It is taken as an expiry whenever it is given: no test is made that the
scan period timer has run out (DESIGN CHOICE, safe, log 32). -/
def execScanPeriodExpiry (s : State) : Host.Outcome State Fault Refusal := .next (s.scanExpiry)

/-- MODULE_REPLY (R41 to R44): a reply is received whole. -/
def execModuleReply (bytes : List Byte) (s : State) : Host.Outcome State Fault Refusal :=
  .next (s.moduleReply bytes)

/-- POLL_WINDOW_EXPIRY (R41, R42). -/
def execPollWindowExpiry (s : State) : Host.Outcome State Fault Refusal := .next (s.pollExpiry)

/-- QUENCH_REQUEST (R60): the request of a pot, when it is due. -/
def execQuenchRequest (pot : Nat) (s : State) : Host.Outcome State Fault Refusal :=
  .next (if 1 ≤ pot ∧ pot ≤ Config.pots then s.quenchRequest pot else s)

/-- AE_LONG (R61): the report of a pot, when it is due. -/
def execAeLong (pot : Nat) (s : State) : Host.Outcome State Fault Refusal :=
  .next (if 1 ≤ pot ∧ pot ≤ Config.pots then s.longAe pot else s)

end Sys2Proof.Machine
end

