-- ==== Sys2Proof/Machine/StackCommands.lean ====
section
/-! DEFINITION. The meanings of the commands of the ceiling stack and pot switching:
one definition for each row of the table. -/

namespace Sys2Proof.Machine

/-- PUSH_CEILING (R114). -/
def execPushCeiling (s : State) : Host.Outcome State Fault Refusal :=
  .next (s.serve .pushCeiling fun p eng s => s.pushCeiling p eng)

/-- POP_CEILING (R115). -/
def execPopCeiling (s : State) : Host.Outcome State Fault Refusal :=
  .next (s.serve .popCeiling fun _ eng s => s.popCeiling eng)

/-- REMOVE_CEILING (R116). -/
def execRemoveCeiling (s : State) : Host.Outcome State Fault Refusal :=
  .next (s.serve .removeCeiling fun p _ s => s.removeCeiling p)

/-- GET_STACK (R118). -/
def execGetStack (s : State) : Host.Outcome State Fault Refusal :=
  .next (s.serve .getStack fun _ _ s => s.getStack)

/-- POT_SWITCH (R121). -/
def execPotSwitch (s : State) : Host.Outcome State Fault Refusal :=
  .next (s.serve .potSwitch fun p _ s => s.potSwitch p)

/-- POT_SWITCH_DONE (R123). -/
def execPotSwitchDone (s : State) : Host.Outcome State Fault Refusal :=
  .next (s.serve .potSwitchDone fun _ _ s => s.potSwitchDone)

/-- POT_SWITCH_ABORT (R124). -/
def execPotSwitchAbort (s : State) : Host.Outcome State Fault Refusal :=
  .next (s.serve .potSwitchAbort fun _ _ s => s.potSwitchAbort)

/-- SET_POT_STATE (R126). -/
def execSetPotState (s : State) : Host.Outcome State Fault Refusal :=
  .next (s.serve .setPotState fun p _ s => s.setPotState p)

/-- UTILITY_INPUT_CHANGE (R119, R120): a change of the registered level to `level`, once its count has been
reached. -/
def execUtilityInputChange (level : Bool) (s : State) : Host.Outcome State Fault Refusal :=
  .next (if s.stack.utilityDue level then s.registerUtility level else s)

/-- STACK_ENTRY_EXPIRED (R117): the entry with that id, its lifetime having run out. -/
def execStackEntryExpired (id : Nat) (s : State) : Host.Outcome State Fault Refusal :=
  .next (s.expireEntry id)

/-- SWITCH_TIMEOUT (R122, R124): the procedure timer having reached its end. -/
def execSwitchTimeout (s : State) : Host.Outcome State Fault Refusal := .next (s.switchTimeout)

end Sys2Proof.Machine
end

