-- ==== Sys2Proof/Machine/SupervisorCommands.lean ====
section
/-! DEFINITION. The meanings of the commands of the line supervisor and the line regulator:
one definition for each row of the table. -/

namespace Sys2Proof.Machine

/-- RUN (R4). -/
def execRun (s : State) : Host.Outcome State Fault Refusal := .next (s.serve .run fun _ _ s => s.runRequest)

/-- HOLD (R8). -/
def execHold (s : State) : Host.Outcome State Fault Refusal :=
  .next (s.serve .hold fun _ _ s => s.holdRequest)

/-- RELEASE (R9). -/
def execRelease (s : State) : Host.Outcome State Fault Refusal :=
  .next (s.serve .release fun _ _ s => s.releaseRequest)

/-- SAFE_INPUT_EVENT (R3, R12): a change of the registered SAFE level to `level`, once the pin has read it at two
boundaries in a row. -/
def execSafeInputEvent (level : Bool) (s : State) : Host.Outcome State Fault Refusal :=
  .next (if s.safeDue level then s.registerSafe level else s)

/-- GROUP_LOSS_TIMEOUT (R13): the running group loss timer has run 5.0 s. -/
def execGroupLossTimeout (s : State) : Host.Outcome State Fault Refusal := .next (s.lossTimeout)

/-- PERIODIC_CYCLE (R129, R131): the running cycle timer expires. -/
def execPeriodicCycle (apart : Bool) (s : State) : Host.Outcome State Fault Refusal :=
  .next (if s.reg.cycleTimer then s.cycle true apart else s)

/-- TRACKING (R141): a count of periodic cycles that has reached 10 changes the flag. -/
def execTracking (s : State) : Host.Outcome State Fault Refusal := .next (s.evalTracking)

end Sys2Proof.Machine
end

