-- ==== Sys2Proof/Machine/Dispatch.lean ====
section
/-! DEFINITION. The dispatch: one arm for each command, each one call of its meaning. -/

namespace Sys2Proof.Machine

def exec (i : Instr) (s : State) : Host.Outcome State Fault Refusal :=
  match i with
  | .deviceReset pins => Sys2Proof.Machine.execDeviceReset pins s
  | .lineReset => Sys2Proof.Machine.execLineReset s
  | .hostFrameReceived bytes => Sys2Proof.Machine.execHostFrameReceived bytes s
  | .badLenAbandon hi lo => Sys2Proof.Machine.execBadLenAbandon hi lo s
  | .frameTimeout => Sys2Proof.Machine.execFrameTimeout s
  | .hostFrameSent => Sys2Proof.Machine.execHostFrameSent s
  | .badKindRequest => Sys2Proof.Machine.execBadKindRequest s
  | .identify => Sys2Proof.Machine.execIdentify s
  | .getStatus => Sys2Proof.Machine.execGetStatus s
  | .setItems => Sys2Proof.Machine.execSetItems s
  | .getItems => Sys2Proof.Machine.execGetItems s
  | .setScanTable => Sys2Proof.Machine.execSetScanTable s
  | .getScanTable => Sys2Proof.Machine.execGetScanTable s
  | .setTariff => Sys2Proof.Machine.execSetTariff s
  | .setTime => Sys2Proof.Machine.execSetTime s
  | .run => Sys2Proof.Machine.execRun s
  | .hold => Sys2Proof.Machine.execHold s
  | .release => Sys2Proof.Machine.execRelease s
  | .pushCeiling => Sys2Proof.Machine.execPushCeiling s
  | .popCeiling => Sys2Proof.Machine.execPopCeiling s
  | .removeCeiling => Sys2Proof.Machine.execRemoveCeiling s
  | .getStack => Sys2Proof.Machine.execGetStack s
  | .groupOrderStart => Sys2Proof.Machine.execGroupOrderStart s
  | .groupOrderStop => Sys2Proof.Machine.execGroupOrderStop s
  | .groupOrderResetTrip => Sys2Proof.Machine.execGroupOrderResetTrip s
  | .groupOrderCapture => Sys2Proof.Machine.execGroupOrderCapture s
  | .groupOrderGroupReset => Sys2Proof.Machine.execGroupOrderGroupReset s
  | .getGroup => Sys2Proof.Machine.execGetGroup s
  | .getPots => Sys2Proof.Machine.execGetPots s
  | .getAeLog => Sys2Proof.Machine.execGetAeLog s
  | .potSwitch => Sys2Proof.Machine.execPotSwitch s
  | .potSwitchDone => Sys2Proof.Machine.execPotSwitchDone s
  | .potSwitchAbort => Sys2Proof.Machine.execPotSwitchAbort s
  | .setPotState => Sys2Proof.Machine.execSetPotState s
  | .getEvent => Sys2Proof.Machine.execGetEvent s
  | .getEnergy => Sys2Proof.Machine.execGetEnergy s
  | .getDemandLog => Sys2Proof.Machine.execGetDemandLog s
  | .closePeriod => Sys2Proof.Machine.execClosePeriod s
  | .getPeriods => Sys2Proof.Machine.execGetPeriods s
  | .lineSample b => Sys2Proof.Machine.execLineSample b s
  | .lineMeasRecovery b => Sys2Proof.Machine.execLineMeasRecovery b s
  | .demandEvaluation => Sys2Proof.Machine.execDemandEvaluation s
  | .tariffMinuteEvaluation => Sys2Proof.Machine.execTariffMinuteEvaluation s
  | .demandIntervalEnd => Sys2Proof.Machine.execDemandIntervalEnd s
  | .coolingSensor g => Sys2Proof.Machine.execCoolingSensor g s
  | .coolingStop g => Sys2Proof.Machine.execCoolingStop g s
  | .unloadTimeEnd g => Sys2Proof.Machine.execUnloadTimeEnd g s
  | .safeInputEvent level => Sys2Proof.Machine.execSafeInputEvent level s
  | .utilityInputChange level => Sys2Proof.Machine.execUtilityInputChange level s
  | .engKeyChange level => Sys2Proof.Machine.execEngKeyChange level s
  | .tripInputEvent g level => Sys2Proof.Machine.execTripInputEvent g level s
  | .groupLossTimeout => Sys2Proof.Machine.execGroupLossTimeout s
  | .periodicCycle apart => Sys2Proof.Machine.execPeriodicCycle apart s
  | .tracking => Sys2Proof.Machine.execTracking s
  | .orderSend => Sys2Proof.Machine.execOrderSend s
  | .groupReply bytes => Sys2Proof.Machine.execGroupReply bytes s
  | .replyWindowExpiry => Sys2Proof.Machine.execReplyWindowExpiry s
  | .backoffDeadline g slot => Sys2Proof.Machine.execBackoffDeadline g slot s
  | .senseTimerExpiry g => Sys2Proof.Machine.execSenseTimerExpiry g s
  | .scanPeriodExpiry => Sys2Proof.Machine.execScanPeriodExpiry s
  | .moduleReply bytes => Sys2Proof.Machine.execModuleReply bytes s
  | .pollWindowExpiry => Sys2Proof.Machine.execPollWindowExpiry s
  | .quenchRequest pot => Sys2Proof.Machine.execQuenchRequest pot s
  | .aeLong pot => Sys2Proof.Machine.execAeLong pot s
  | .stackEntryExpired id => Sys2Proof.Machine.execStackEntryExpired id s
  | .switchTimeout => Sys2Proof.Machine.execSwitchTimeout s
  | .hostSyncFound => Sys2Proof.Machine.execHostSyncFound s

end Sys2Proof.Machine
end

