-- ==== Sys2Proof/Safety.lean ====
section
/-! DEFINITION. The words in which statements about the part are made: the blocks in which two states
differ, the request that the part takes, and what holds of the state at every moment. -/

namespace Sys2Proof

/-- The request kind of a command that takes a request of one known kind (section 10.5). -/
def Instr.requestKind? : Instr → Option Machine.RequestKind
  | .identify => some .identify
  | .getStatus => some .getStatus
  | .setItems => some .setItems
  | .getItems => some .getItems
  | .setScanTable => some .setScanTable
  | .getScanTable => some .getScanTable
  | .setTariff => some .setTariff
  | .setTime => some .setTime
  | .run => some .run
  | .hold => some .hold
  | .release => some .release
  | .lineReset => some .lineReset
  | .pushCeiling => some .pushCeiling
  | .popCeiling => some .popCeiling
  | .removeCeiling => some .removeCeiling
  | .getStack => some .getStack
  | .groupOrderStart | .groupOrderStop | .groupOrderResetTrip | .groupOrderCapture
  | .groupOrderGroupReset => some .groupOrder
  | .getGroup => some .getGroup
  | .getPots => some .getPots
  | .getAeLog => some .getAeLog
  | .potSwitch => some .potSwitch
  | .potSwitchDone => some .potSwitchDone
  | .potSwitchAbort => some .potSwitchAbort
  | .setPotState => some .setPotState
  | .getEvent => some .getEvent
  | .getEnergy => some .getEnergy
  | .getDemandLog => some .getDemandLog
  | .closePeriod => some .closePeriod
  | .getPeriods => some .getPeriods
  | .deviceReset _ | .hostFrameReceived _ | .badLenAbandon _ _ | .frameTimeout | .hostFrameSent
  | .badKindRequest | .lineSample _ | .lineMeasRecovery _ | .demandEvaluation | .tariffMinuteEvaluation
  | .demandIntervalEnd | .coolingSensor _ | .coolingStop _ | .unloadTimeEnd _ | .safeInputEvent _
  | .utilityInputChange _ | .engKeyChange _ | .tripInputEvent _ _ | .groupLossTimeout | .periodicCycle _
  | .tracking | .orderSend | .groupReply _ | .replyWindowExpiry | .backoffDeadline _ _
  | .senseTimerExpiry _ | .scanPeriodExpiry | .moduleReply _ | .pollWindowExpiry | .quenchRequest _
  | .aeLong _ | .stackEntryExpired _ | .switchTimeout | .hostSyncFound => none

/-- The kind of the order that a group order command takes (R96). -/
def Instr.orderKind? : Instr → Option Machine.CmdKind
  | .groupOrderStart => some .start
  | .groupOrderStop => some .stop
  | .groupOrderResetTrip => some .resetTrip
  | .groupOrderCapture => some .capture
  | .groupOrderGroupReset => some .groupReset
  | .deviceReset _ | .lineReset | .hostFrameReceived _ | .badLenAbandon _ _ | .frameTimeout
  | .hostFrameSent | .badKindRequest | .identify | .getStatus | .setItems | .getItems | .setScanTable
  | .getScanTable | .setTariff | .setTime | .run | .hold | .release | .pushCeiling | .popCeiling
  | .removeCeiling | .getStack | .getGroup | .getPots | .getAeLog | .potSwitch | .potSwitchDone
  | .potSwitchAbort | .setPotState | .getEvent | .getEnergy | .getDemandLog | .closePeriod | .getPeriods
  | .lineSample _ | .lineMeasRecovery _ | .demandEvaluation | .tariffMinuteEvaluation
  | .demandIntervalEnd | .coolingSensor _ | .coolingStop _ | .unloadTimeEnd _ | .safeInputEvent _
  | .utilityInputChange _ | .engKeyChange _ | .tripInputEvent _ _ | .groupLossTimeout | .periodicCycle _
  | .tracking | .orderSend | .groupReply _ | .replyWindowExpiry | .backoffDeadline _ _
  | .senseTimerExpiry _ | .scanPeriodExpiry | .moduleReply _ | .pollWindowExpiry | .quenchRequest _
  | .aeLong _ | .stackEntryExpired _ | .switchTimeout | .hostSyncFound => none

end Sys2Proof

namespace Sys2Proof.Machine

/-! ### Blocks -/

/-- The blocks of the state. -/
inductive Block where
  | pending | free | ticks | pins | sup | front | scan | pots | ae | cool | link | stack | reg | energy
  | host | settings | events
deriving DecidableEq, Repr

/-- The block `b` is the same in both states. -/
def Block.Same (b : Block) (s t : State) : Prop :=
  match b with
  | .pending => t.pending = s.pending
  | .free => t.free = s.free
  | .ticks => t.ticks = s.ticks
  | .pins => t.pins = s.pins
  | .sup => t.sup = s.sup
  | .front => t.front = s.front
  | .scan => t.scan = s.scan
  | .pots => t.pots = s.pots
  | .ae => t.ae = s.ae
  | .cool => t.cool = s.cool
  | .link => t.link = s.link
  | .stack => t.stack = s.stack
  | .reg => t.reg = s.reg
  | .energy => t.energy = s.energy
  | .host => t.host = s.host
  | .settings => t.settings = s.settings
  | .events => t.events = s.events

/-- The two states differ in the blocks of `l` only. -/
def Touches (l : List Block) (s t : State) : Prop := ∀ b, b ∉ l → b.Same s t

/-! ### Requests -/

/-- The frame `f` stands at the head of the receive queue, before `rest`, and no reply waits to be sent, so
that the part takes `f` as a request (R168). -/
abbrev State.Offers (s : State) (f : Frame) (rest : List Frame) : Prop :=
  s.host.queue = f :: rest ∧ s.host.waiting = none

/-- The frame that the part takes is a request of kind `k` and passes the tests of R168. -/
abbrev State.Admits (s : State) (k : RequestKind) (f : Frame) (rest : List Frame) : Prop :=
  s.Offers f rest ∧ f.kind.toNat = k.code ∧ (k.engineerOnly = true → s.engineer f = true)
    ∧ k.lengthOk f.payload = true

/-- The state once the oldest frame has been taken from the receive queue (R167, R168). -/
def State.taken (s : State) : State := s.setHost { s.host with queue := s.host.queue.tail }

/-- The event queue of `t` holds a posting of this kind, subject and value as the latest of its kind and
subject, unless the queue has been full since it was last empty (R176). -/
def State.Tells (t : State) (k : EventKind) (subject : Nat) (fields : List (List Byte)) : Prop :=
  t.events.overrun = true
    ∨ ∃ e ∈ t.events.entries, e.kind = k ∧ e.subject = subject ∧ e.value = eventValue fields

/-- The bytes of a reply to the order `o` (R184): condition, status bits and state code, the current, and
`capture`, which is empty unless the reply carries a capture payload. -/
def InFlight.reply (o : InFlight) (condition status state : Byte) (current : Nat) (capture : List Byte) :
    List Byte :=
  let checked := [BitVec.ofNat 8 (o.group.num + 0x80), BitVec.ofNat 8 o.order.code, BitVec.ofNat 8 o.seq,
    condition, status, state] ++ beBytes 4 current ++ capture
  0x96#8 :: checked ++ beBytes 2 (crc checked).toNat

/-- A reply of this condition and these fields is one that a firing controller can give to `o` (R184):
`state` is the code of the group state `st`, and a capture payload stands in the ACCEPTED reply to CAPTURE
alone. -/
abbrev InFlight.Answers (o : InFlight) (condition state : Byte) (st : GroupState) (current : Nat)
    (capture : List Byte) : Prop :=
  o.seq < 256 ∧ condition.toNat ≤ 2 ∧ state.toNat = st.code ∧ 1 ≤ st.code ∧ current < 2 ^ 32
    ∧ capture.length = if o.order = .command .capture ∧ condition = 0#8 then 9 else 0

/-! ### The ceiling stack, pot switching and tariffs -/

/-- The id that the next entry pushed takes (R112): the first, counting upward from the next-id counter and
passing from 255 to 1, that no entry present holds. -/
abbrev CeilingStack.Issues (k : CeilingStack) (id : Nat) : Prop :=
  let at_ := fun n => (k.nextId - 1 + n) % 255 + 1
  ∃ n, id = at_ n ∧ id ∉ k.entries.map (·.id) ∧ ∀ m < n, at_ m ∈ k.entries.map (·.id)

/-- From `s` to `t` the AE of pot `p`, whose fields stand at `a`, has been closed (R64, R65, R67): it takes the
next AE number, its record is the newest of the log, its map flag is cleared, and AE_END is posted. -/
abbrev State.AeClosed (s t : State) (p : Nat) (a : PotAe) (cause : EndCause) : Prop :=
  t.ae.closed = (if s.ae.closed < 4294967295 then s.ae.closed + 1 else 1)
    ∧ (let record := { number := t.ae.closed, pot := p, startTime := a.startTime, duration := a.timer,
                       peak := a.peak, excess := a.excess, cause := cause, quench := a.quench }
       let log := s.ae.log ++ [record]
       t.ae.log = log.drop (log.length - 128))
    ∧ t.ae.flag p = false
    ∧ t.Tells .aeEnd p [beBytes 4 t.ae.closed]

/-- From `s` to `t` the switching state of pot `p` has become CUT_OUT (`cut`) or CONNECTED (R63, R123 step 1):
an AE in progress is closed with cause CUT_OUT; on a cut-in the next fresh reading seeds the filter. -/
abbrev State.PotSwitched (s t : State) (p : Nat) (cut : Bool) : Prop :=
  let x := s.pot p
  let y := t.pot p
  y.cutOut = cut ∧ y.ae.frozen = false
    ∧ y.ae.state = (if cut then .out else .normal)
    ∧ y.seeded = (if cut then x.seeded else false)
    ∧ y.fitted = x.fitted ∧ y.lastVoltage = x.lastVoltage ∧ y.filtered = x.filtered ∧ y.stale = x.stale
    ∧ y.resistance = x.resistance
    ∧ (if cut = true ∧ x.ae.state.inAe = true then s.AeClosed t p x.ae .cutOut
      else t.ae = s.ae)
    ∧ ∀ q ∈ potNumbers, q ≠ p → t.pot q = s.pot q

/-- Day type and bucket are those that the clock and the tables in force give (R144, R147, R148). -/
abbrev Energy.TariffFound (e : Energy) : Prop :=
  let m := 60 * e.time.hour + e.time.minute
  e.dayType = (if e.time.date ∈ e.tariff.holidays then .holiday
               else if e.time.days % 7 = 0 ∨ e.time.days % 7 = 1 then .weekend else .weekday)
    ∧ (e.clockSet = false → e.bucket = 0)
    ∧ (e.clockSet = true → ∀ (before : List TariffPoint) (p : TariffPoint) (after : List TariffPoint),
        e.tariff.table e.dayType = before ++ p :: after →
        (p.minute ≤ m → (∀ x ∈ after, m < x.minute) → e.bucket = p.bucket)
        ∧ (after = [] → (∀ x ∈ before, m < x.minute) → m < p.minute → e.bucket = p.bucket))

/-! ### The evaluation of a loop (R73) -/

/-- What the steps 2 to 5 of R73 up to the advance of the dwell make of the loop record `was` of group `g`, at the
outlet temperature `temp` and the flow `flow`, the sensor fault field being `l.fault` (R74 to R78). -/
abbrev State.LoopFormed (s : State) (g : Group) (was l : LoopRecord) (temp flow : Int) : Prop :=
  let crit := s.cfg (.loop g .critTemp)
  l.tempFactor = (curveAt (s.curve g) temp).toNat
    ∧ l.flowFactor = (if flow < s.cfg (.loop g .flowMin) then s.cfgN (.loop g .flowFactor) else 1000)
    ∧ l.senseFactor = (if l.fault then s.cfgN (.loop g .sensorFactor) else 1000)
    ∧ l.factor = min l.tempFactor (min l.flowFactor l.senseFactor)
    ∧ l.state = (if (if was.state = .critical then crit - 20 else crit) ≤ temp then .critical
                 else if l.factor = 1000 then .normal else .derated)
    ∧ l.dwell = (if l.state = .critical then
                   if was.state = .critical then was.dwell.map fun n => if n < 65535 then n + 1 else 65535
                   else some 0
                 else if was.state = .critical then none else was.dwell)

/-- From `s` to `t` the cooling state of `g` has gone from that of `was` to that of `l` (R77): a change posts
COOLING_STATE with the new state, the state left and the loop factor, and nothing else posts it. -/
abbrev State.CoolStateTold (s t : State) (g : Group) (was l : LoopRecord) : Prop :=
  let told := fun u : State => u.events.entries.filter fun e => e.kind == .coolingState && e.subject == g.num
  (l.state ≠ was.state →
      t.Tells .coolingState g.num [beBytes 1 l.state.code, beBytes 1 was.state.code, beBytes 2 l.factor])
    ∧ (l.state = was.state → told t = told s)

/-- A cooling stop of a loop falls due: its dwell has reached CRIT_DWELL and `begun` says that none has been begun
in the episode (R78). -/
abbrev State.StopFallsDue (s : State) (g : Group) (dwell : Option Nat) (begun : Bool) : Prop :=
  begun = false ∧ ∃ n, dwell = some n ∧ s.cfgN (.loop g .critDwell) * 10 ≤ n

/-- The stage after a sample (R79): 3 while the sensor fault field is YES; otherwise the highest whose threshold
the temperature has reached, or, among those up to the stage `was` before the sample, the threshold less the
hysteresis. -/
abbrev State.stageAfter (s : State) (g : Group) (fault : Bool) (was : Nat) (temp : Int) : Nat :=
  let on := fun k : Fin 3 => s.cfg (.loop g (.stageOn k))
  let holds := (List.finRange 3).filter fun k =>
    decide (on k ≤ temp ∨ k.val + 1 ≤ was ∧ on k - s.cfg .stageHyst ≤ temp)
  if fault then 3 else (holds.map fun k => k.val + 1).foldl max 0

/-- The GC channel record `gc` of a sample ends an unloading of `g` by LEVEL (R84). -/
abbrev State.LevelReached (s : State) (g : Group) (gc : Channel) : Prop :=
  gc.valid = true ∧ gc.value ≤ s.cfg (.group g .unloadLevel)

/-- The capacity record after step 7 of R73 (R84): an unloading in progress has its timer incremented, and ends
by LEVEL, or by TIME unless `apart` leaves that end to UNLOAD_TIME_END (log 2). -/
abbrev State.unloadingAfter (s : State) (g : Group) (gc : Channel) (apart : Bool) (c : CapRecord) : CapRecord :=
  let timer := if c.timer < 3000 then c.timer + 1 else 3000
  if c.unloading = false then c
  else if s.LevelReached g gc then { c with timer := timer, unloading := false, lastEnd := .level }
  else if apart = false ∧ s.cfgN (.group g .unloadTime) * 10 ≤ timer then
    { c with timer := timer, unloading := false, lastEnd := .time }
  else { c with timer := timer }

/-- The capacity record once a cooling stop has begun the unloading of an allocatable group (R78, R83). -/
abbrev State.unloadingBegun (s : State) (g : Group) (c : CapRecord) : CapRecord :=
  if s.allocatable g = true ∧ c.unloading = false then
    { c with unloading := true, origin := .cooling, timer := 0 }
  else c

/-- A STOP waiting on an unloading, made sendable when it has `ended` (R84, R97). -/
abbrev Command.released (x : Command) (ended : Prop) [Decidable ended] : Command :=
  if x.kind = .stop ∧ ended then { x with sendable := true } else x

/-- The unit of a group once the command in its slot has completed (R98, R106): a set reset flag places its
GROUP_RESET in the slot as WAITING and clears; otherwise a cooling stop pending is resolved, the mark becoming NO,
and a STOP of origin COOLING enters the slot when the reported state is STARTING, RUNNING or UNKNOWN, waiting while
the group is `unloading`. -/
abbrev GroupUnit.resolved (u : GroupUnit) (unloading : Bool) : GroupUnit :=
  let entered := fun (kind : CmdKind) (origin : Origin) (sendable : Bool) =>
    some { kind := kind, origin := origin, state := .waiting, seq := 0, firstSent := none,
           sendable := sendable : Command }
  let st := u.record.state
  match u.resetFlag with
  | some o => { u with command := entered .groupReset o true, resetFlag := none }
  | none =>
    { u with command :=
               if u.coolPending = true ∧ (st = .starting ∨ st = .running ∨ st = .unknown) then
                 entered .stop .cooling (!unloading)
               else none,
             coolPending := false }

/-- The slots of `v` are those of `u` once its command has completed with reported state `st` (R98, R106). -/
abbrev GroupUnit.Settled (u v : GroupUnit) (st : GroupState) (unloading : Bool) : Prop :=
  let left := { u with record := { u.record with state := st } : GroupUnit }.resolved unloading
  v.command = left.command ∧ v.resetFlag = left.resetFlag ∧ v.coolPending = left.coolPending

/-- A slot into which the value `v` has been written (R94, R95): a value other than the one desired clears the
rejected mark. -/
abbrev ValueSlot.written (x : ValueSlot) (v : Nat) : ValueSlot :=
  if v = x.desired then x else { x with desired := v, rejected := false }

/-! ### Changes of allocatability, and what SET_ITEMS does at a write -/

/-- From `s` to `t` one event has settled which groups are allocatable and frozen, and those who follow that have
been told (R13, R80, R82, R91, R130, R136): join credits are seeded or cleared; in RUN and HOLD the group loss
timer is started or stopped at a change; and for a change, or for an event that is itself a `cause`, one
out-of-turn cycle has been run, which leaves the target where it stood but for the capacity clamp. -/
abbrev State.CarriageTold (s t : State) (cause : Bool) : Prop :=
  let changed := Group.all.any fun g => t.allocatable g != s.allocatable g || t.frozen g != s.frozen g
  let regulates := decide (s.sup.state = .run ∨ s.sup.state = .hold)
  let carried := Group.all.any fun g => t.allocatable g || t.frozen g
  let capacity := (Group.all.map fun g =>
    if t.allocatable g ∧ t.holdsStop g = false ∧ (t.coolOf g).cap.unloading = false then
      min (t.coolOf g).cap.capacity (t.coolOf g).cap.credit
    else 0).sum
  let frozen := (Group.all.map fun g =>
    if t.frozen g then
      if (s.chan (gcChan g)).valid then (s.chan (gcChan g)).value.toNat else (t.unit g).record.ackShare
    else 0).sum
  (∀ g, (t.coolOf g).cap.credit =
      if t.allocatable g = s.allocatable g then (s.coolOf g).cap.credit
      else if t.allocatable g then min (s.coolOf g).cap.capacity (s.chan (gcChan g)).value.toNat else 0)
    ∧ t.sup = { s.sup with lossTimer :=
        if regulates && changed then if carried then none else some (s.sup.lossTimer.getD s.ticks)
        else s.sup.lossTimer }
    ∧ ((regulates && (changed || cause)) = true →
        t.reg.capacityC = capacity ∧ t.reg.frozenZ = frozen
        ∧ t.reg.applied = min s.reg.previous (capacity + frozen) ∧ t.reg.previous = t.reg.applied
        ∧ t.reg.lastStep = (if s.sup.state = .hold then .heldState else .none)
        ∧ ∀ g, t.reg.shares.get g = if t.allocatable g then some (t.unit g).share.desired else none)
    ∧ ((regulates && (changed || cause)) = false → t.reg = s.reg ∧ t.energy = s.energy)

/-- From `s` to `t` the pair of item `i` and value `v` has been applied, with what the owner of the item does at
the write itself (R49, R66, R73, R100, R110, R120, R121, R155, R172, R178). For the other items the settings
store is all that changes. -/
abbrev State.Written (s : State) (i : Item) (v : Int) (t : State) : Prop :=
  let now := i.stored s.settings v
  let differs := s.cfg i ≠ now
  let w := s.setSettings (s.settings.apply i v)
  let ceilings := fun src : Source =>
    w.setStack { s.stack with entries := s.stack.entries.map fun e =>
      if e.source = src then { e with ceiling := now.toNat } else e }
  match i with
  | .telEnable =>
    t = if ¬ differs then w
        else if now = 1 then w.setScan { s.scan with reportSkips := 0, upPass := 0#16 }
        else w.setScan { s.scan with segments := match s.host.transmitter with
                         | .sendingReport _ => s.scan.segments.take 1
                         | .sendingReply _ | .idle => [] }
  | .aeHoldCount =>
    let hold := decide (now.toNat ≤ s.ae.count)
    t = if hold = s.ae.hold then w
        else (w.setAe { s.ae with hold := hold }).post .aeHold 0
          [[if hold then 1#8 else 0#8], beBytes 2 s.ae.count]
  | .attnLevel =>
    t = w.setEvents { s.events with
          attn := s.events.overrun || s.events.entries.any fun e => decide (now.toNat ≤ e.kind.cls) }
  | .utilityCeiling => t = ceilings .utility
  | .switchCeiling => t = ceilings .switching
  | .demandMinutes =>
    let e := s.energy
    let i := e.interval
    let length := now.toNat * 600
    let first := length - e.time.dayTenths % length
    let long := if first < 600 then first + length else first
    let demand := i.energy / (i.t * 1000000)
    let log := e.demandLog ++ [⟨e.time, i.t, demand, { i.flags with shortened := true }⟩]
    (¬ differs → t = w)
    ∧ (differs → Touches [.energy, .events] w t
      ∧ t.energy = { e with
          interval := { start := e.time, stop := e.time.addTenths long, length := long, t := 0, energy := 0,
                        flags := ⟨true, false, false, false, false⟩, unavoidable := false },
          limiter := { e.limiter with active := false, trim := none },
          demandLog := if i.t = 0 then e.demandLog else log.drop (log.length - 96),
          period := if i.t = 0 then e.period else
            { e.period with
              maximum := max e.period.maximum demand,
              maxTime := if e.period.maximum < demand then some e.time else e.period.maxTime,
              flags := { e.period.flags with shortenedSeen := true } } }
      ∧ (e.limiter.active = false → t.events = s.events)
      ∧ (e.limiter.active = true → t.Tells .demandLimit 0 [[0#8], [5#8], beBytes 4 e.limiter.projection]))
  | .group g .fitted =>
    let u := s.unit g
    (¬ differs → t = w)
    ∧ (differs → s.sup.state = .setup → Touches [.cool, .link] w t
      ∧ t.link.lastServed = s.link.lastServed ∧ t.link.lastOrder = s.link.lastOrder
      ∧ (∀ g', g' ≠ g → t.unit g' = s.unit g' ∧ t.coolOf g' = s.coolOf g')
      ∧ (now = 1 →
        t.unit g = { u with record := { u.record with senseDue := true } }
        ∧ t.link.bus = s.link.bus
        ∧ (t.coolOf g).loop = (s.coolOf g).loop
        ∧ (t.allocatable g = false → t.coolOf g = s.coolOf g))
      ∧ (now = 0 →
        t.unit g =
          { record := { state := .unknown, reachable := true, isLocal := false, current := 0,
                        trip := u.record.trip, ackShare := 0, ackStage := 0, senseDue := true,
                        seq := u.record.seq, capture := none },
            command := none, resetFlag := none, coolPending := false,
            share := ⟨u.record.ackShare, false, .absent⟩, stage := ⟨u.record.ackStage, false, .absent⟩,
            senseTimer := false }
        ∧ t.link.bus = (match s.link.bus with
            | .awaiting o => if o.group = g then .draining else .awaiting o
            | .idle => .idle
            | .draining => .draining)
        ∧ (t.coolOf g).loop = ⟨.normal, 1000, 1000, 1000, 1000, false, none, false, 0⟩
        ∧ (t.coolOf g).cap = ⟨0, 0, false, .cooling, 0, .none⟩))
  | .lineMax | .lineFloor | .baseSetpoint | .rampUp | .rampDown | .rampUtility | .trackTol | .lcurTol
  | .group _ .rated | .group _ .joinRate | .group _ .unloadLevel | .group _ .unloadTime
  | .loop _ _ | .stageHyst | .aeOn | .aeOff | .recoverScans | .quenchDelay | .aeLong | .filterShift
  | .backEmf | .suspectRes | .suspectHyst | .scanPeriod | .scanRotate | .switchTol | .switchTimeout
  | .contractKw | .marginKw | .releaseKw | .vValidMin | .telSlot _ | .telData | .offset _ | .span _ => t = w

/-! ### What holds at every moment -/

/-- The settings store has its canonical form, every item holds a value of its range or list, and the
constraints between items hold (R128, R172 to R174, 11.6). -/
abbrev State.SettingsKept (s : State) : Prop :=
  s.settings.wf = true
    ∧ (∀ i ∈ Item.all, match i.row.admits with
      | .range lo hi => lo ≤ s.cfg i ∧ s.cfg i ≤ hi
      | .oneOf codes => s.cfg i ∈ codes
      | .deratePoint =>
        -200 ≤ derateTemp (s.cfg i) ∧ derateTemp (s.cfg i) ≤ 1500
          ∧ 0 ≤ derateFactor (s.cfg i) ∧ derateFactor (s.cfg i) ≤ 1000
      | .floorToMax => s.cfg .lineFloor ≤ s.cfg i ∧ s.cfg i ≤ s.cfg .lineMax
      | .zeroToMax => 0 ≤ s.cfg i ∧ s.cfg i ≤ 650000)
    ∧ s.cfg .aeOff ≤ s.cfg .aeOn - 500
    ∧ ∀ g ∈ Group.all, ∀ k : Fin 7,
        derateTemp (s.cfg (.loop g (.derate k.castSucc))) < derateTemp (s.cfg (.loop g (.derate k.succ)))

/-- The law of the event queue, and ATTN as the queue requires (R176, R178). -/
abbrev State.QueueKept (s : State) : Prop :=
  s.events.entries.length ≤ 64
    ∧ (s.events.entries.map fun e => (e.kind, e.subject)).Nodup
    ∧ (∀ e ∈ s.events.entries, 1 ≤ e.count ∧ e.count ≤ 255)
    ∧ (s.events.overrun = true → s.events.entries ≠ [])
    ∧ s.events.attn
        = (s.events.overrun || s.events.entries.any fun e => decide (s.cfgN .attnLevel ≤ e.kind.cls))

/-- The number of entries of the stack whose source is `src`. -/
def CeilingStack.count (k : CeilingStack) (src : Source) : Nat :=
  (k.entries.filter fun e => e.source == src).length

/-- The law of the ceiling stack (R112, R119 to R121): at most 8 entries, with ids of their own in 1..255;
one UTILITY entry exactly while the contact is registered ASSERTED, one SWITCHING entry exactly while a pot
switching procedure is in progress; and no binding entry has a lifetime. -/
abbrev State.StackKept (s : State) : Prop :=
  s.stack.entries.length ≤ 8
    ∧ (s.stack.entries.map (·.id)).Nodup
    ∧ (∀ e ∈ s.stack.entries, 1 ≤ e.id ∧ e.id ≤ 255)
    ∧ (1 ≤ s.stack.nextId ∧ s.stack.nextId ≤ 255)
    ∧ s.stack.count .utility = s.stack.utility.toNat
    ∧ s.stack.count .switching = s.stack.switching.inProgress.toNat
    ∧ (∀ e ∈ s.stack.entries, e.source.binding = true → e.life = none)

/-- The anode effect monitor's fields agree with each other and with the pot table (R52, R65, R66): the
map flags exactly the pots in an AE, and count, lamp and hold flag follow it. The rest says what of the pots and of
pot switching this rests on: a pot that is CUT_OUT or NOT_FITTED has AE state OUT (R53, R63), and a procedure in
progress, outside SETUP, has kind CUT_OUT or CUT_IN and a fitted pot, CUT_OUT on a cut-in (R121, R126). -/
abbrev State.MapKept (s : State) : Prop :=
  s.ae.map.length = 12
    ∧ s.pots.length = 384
    ∧ s.ae.count = aeMapCount s.ae.map
    ∧ s.ae.lamp = decide (0 < s.ae.count)
    ∧ s.ae.hold = decide (s.cfgN .aeHoldCount ≤ s.ae.count)
    ∧ (∀ p ∈ potNumbers, s.ae.flag p = (s.pot p).ae.state.inAe)
    ∧ (∀ p ∈ potNumbers, (s.pot p).cutOut = true → (s.pot p).ae.state = .out)
    ∧ (∀ p ∈ potNumbers, (s.pot p).fitted = false → (s.pot p).ae.state = .out)
    ∧ (s.stack.switching.inProgress = true → s.sup.state ≠ .setup
        ∧ s.stack.switching.pot ∈ potNumbers
        ∧ s.stack.switching.kind ≠ .none
        ∧ (s.pot s.stack.switching.pot).fitted = true
        ∧ (s.stack.switching.kind = .cutIn → (s.pot s.stack.switching.pot).cutOut = true))

/-- The part steers the line only as the supervisor allows (R2, R10, R12, R13, R129, R142), and never above
LINE_MAX (R7, R132): outside RUN and HOLD the targets are 0 and the timers stopped, RUN excludes a line
measurement in FAULT, and a registered SAFE input holds the part in SAFE. -/
abbrev State.TargetKept (s : State) : Prop :=
  s.reg.applied ≤ s.lineMax
    ∧ s.reg.previous ≤ s.lineMax
    ∧ (s.regulating = false → s.reg.applied = 0 ∧ s.reg.previous = 0 ∧ s.sup.lossTimer = none)
    ∧ s.reg.cycleTimer = s.regulating
    ∧ (s.sup.state = .run → s.front.line.state ≠ .fault)
    ∧ (s.sup.safeLevel = true → s.sup.state = .safe)

/-- At most one command is SENT, and it is the order in flight (R93, R99): group `g` has a SENT command of
kind `k` exactly while the link awaits the reply to an order of that kind to `g`. -/
abbrev State.FlightKept (s : State) : Prop :=
  ∀ g k, (∃ c, (s.unit g).command = some c ∧ c.state = .sent ∧ c.kind = k)
    ↔ ∃ o, s.link.bus = .awaiting o ∧ o.group = g ∧ o.order = .command k

end Sys2Proof.Machine
end

