-- ==== Sys2Proof/Certificates/Slice0/Obligations.lean ====
section
/-! DEFINITION. The statements about the model that are handed to the provers. -/

open Sys2Proof Sys2Proof.Machine

/-! ### The step, the resets and the shared operations -/

/-- One step takes the command at the front of the queue and is its meaning on the state with the queue's
rest. On an empty queue the block idles, which is the model's own choice (log 5). -/
def Obligations.StepRunsTheFrontCommand : Prop :=
  (∀ (c : Instr) (rest : List Instr) (s : State), s.pending = c :: rest →
    step s = exec c { s with pending := rest })
  ∧ ∀ s : State, s.pending = [] → step s = .next s

/-- The values that a device reset lays down (R181 and the tables of R1, R17, R24, R36, R52, R71, R72, R88, R93 to
R95, R99, R112, R119, R121, R127, R144, R149 and R157): every record of every block at its reset value, the levels
of the SAFE, key and trip inputs and the straps taken from the pins, every setting at its default; RESET_DONE with
value 1 is the first entry of the event queue, and the supervisor passes at once to SAFE when the SAFE input is
ASSERTED (R12). With it DEASSERTED that entry is the only one and ATTN is deasserted. The queue of waiting
commands, which is kept, and the counts of readings, at 0, are the model's own (log 24); the t of the limiter's
projection (log 39) and the selection result (log 27), which the manual does not give, are left unsaid. -/
def Obligations.DeviceResetInitialisesEveryBlock : Prop :=
  ∀ (p : Pins) (s : State), ∃ t, exec (.deviceReset p) s = .next t
    ∧ t.pending = s.pending
    ∧ t.pins = p
    ∧ t.host = { receiver := .hunting, queue := [], badLen := 0, timeouts := 0, crcErrors := 0, overruns := 0,
                 transmitter := .idle, waiting := none, baudCode := 2 * p.baud1.toNat + p.baud0.toNat,
                 keyLevel := p.engKey, keyRun := 0 }
    ∧ (∀ i : Item, t.cfg i = i.row.dflt)
    ∧ t.events.overrun = false
    ∧ t.events.entries.head? = some ⟨.resetDone, 0, eventValue [[1#8]], Time.epoch, Time.epoch, 1⟩
    ∧ (p.safe = false → t.events.entries.length = 1 ∧ t.events.attn = false)
    ∧ t.sup = { state := if p.safe then .safe else .setup,
                cause := if p.safe then .safeInput else .deviceReset,
                lastRun := .none, safeLevel := p.safe, safeRun := 0, lossTimer := none }
    ∧ (∀ n < 27, t.chan n = ⟨0, false, 0, 0⟩)
    ∧ t.front.line = { state := .fault, recovery := 0, current := 0, voltage := 0, held := true,
                       sampleTime := ⟨2000, 1, 1, 0, 0, 0, 0⟩, selection := t.front.line.selection }
    ∧ t.scan = { table := [], pass := none, passNumber := 0, rotation := 1#15, periodLeft := 10,
                 periodSkips := 0, segments := [], reportSkips := 0, upPot := 0#16, upPass := 0#16,
                 lastPoll := t.scan.lastPoll }
    ∧ (∀ n ∈ potNumbers, t.pot n =
        { fitted := false, entry := 0, cutOut := false, lastVoltage := 0, status := .none, lastFresh := none,
          seeded := false, filtered := 0, resistance := 0, stale := 0, staleNow := false,
          ae := { state := .out, frozen := false, timer := 0, pendingTime := ⟨2000, 1, 1, 0, 0, 0, 0⟩,
                  startTime := ⟨2000, 1, 1, 0, 0, 0, 0⟩, vRef := 0, peak := 0, excess := 0, recover := 0,
                  quench := false, long := false, lifetime := 0, spikes := 0 } })
    ∧ t.ae = { map := List.replicate 12 0#32, count := 0, hold := false, lamp := false, closed := 0, log := [],
               excess := ⟨0, false⟩ }
    ∧ (∀ g, (t.coolOf g).loop = ⟨.normal, 1000, 1000, 1000, 1000, false, none, false, 0⟩
        ∧ (t.coolOf g).cap = ⟨0, 0, false, .cooling, 0, .none⟩)
    ∧ (∀ g, t.unit g =
        { record := ⟨.unknown, true, false, 0, p.trip.get g, 0, 0, true, 0, none⟩, command := none,
          resetFlag := none, coolPending := false, share := ⟨0, false, .absent⟩, stage := ⟨0, false, .absent⟩,
          senseTimer := false })
    ∧ t.link.bus = .idle ∧ t.link.lastServed = .g6
    ∧ t.stack = { entries := [], nextId := 1, utility := false, assertCount := 0, releaseCount := 0,
                  switching := { phase := .none, pot := 0, kind := .none, entry := 0, accepted := none,
                                 timer := 0, lastEnd := .none } }
    ∧ t.reg = { applied := 0, previous := 0, desired := 0, governing := .none, lastStep := .none,
                limited := false, tracking := false, outside := 0, inside := 0, capacityC := 0, frozenZ := 0,
                amount := 0, shares := ⟨none, none, none, none, none, none⟩, cycleTimer := false }
    ∧ t.energy =
        { time := ⟨2000, 1, 1, 0, 0, 0, 0⟩, clockSet := false, dayType := .weekend, bucket := 0,
          tariff := ⟨[⟨0, 0⟩], [⟨0, 0⟩], [⟨0, 0⟩], []⟩, tariffPending := none,
          accounts := [⟨0, false⟩, ⟨0, false⟩, ⟨0, false⟩, ⟨0, false⟩], lifetime := ⟨0, false⟩, ring := [],
          interval := { start := ⟨2000, 1, 1, 0, 0, 0, 0⟩, stop := ⟨2000, 1, 1, 0, 15, 0, 0⟩, length := 9000,
                        t := 0, energy := 0, flags := ⟨false, false, false, false, false⟩,
                        unavoidable := false },
          demandLog := [],
          limiter := { active := false, trim := none, projection := 0,
                       projectionT := t.energy.limiter.projectionT, voltage := 0 },
          period := { maximum := 0, maxTime := none, opened := ⟨2000, 1, 1, 0, 0, 0, 0⟩,
                      flags := ⟨false, false, false, false⟩ },
          history := [] }

/-- A posting (R176): it updates the entry of its kind and subject, or is appended with count 1, or, on a
queue of 64 entries, is discarded with OVERRUN set; ATTN then stands as R178 says. Nothing else changes. -/
def Obligations.PostingMergesAppendsOrOverruns : Prop :=
  ∀ (s : State) (k : EventKind) (subject : Nat) (fields : List (List Byte)),
    let t := s.post k subject fields
    let now := s.energy.time
    let same := fun e : Event => e.kind = k ∧ e.subject = subject
    t = s.setEvents t.events
    ∧ ((∃ e ∈ s.events.entries, same e) →
        t.events.overrun = s.events.overrun
        ∧ t.events.entries = s.events.entries.map fun e =>
            if same e then { e with value := eventValue fields, last := now,
                                    count := if e.count < 255 then e.count + 1 else 255 }
            else e)
    ∧ ((∀ e ∈ s.events.entries, ¬ same e) → s.events.entries.length < 64 →
        t.events.overrun = s.events.overrun
        ∧ t.events.entries = s.events.entries ++ [⟨k, subject, eventValue fields, now, now, 1⟩])
    ∧ ((∀ e ∈ s.events.entries, ¬ same e) → 64 ≤ s.events.entries.length →
        t.events.overrun = true ∧ t.events.entries = s.events.entries)
    ∧ (t.events.attn = true ↔ t.events.overrun = true ∨ ∃ e ∈ t.events.entries, s.cfgN .attnLevel ≤ e.kind.cls)

/-- The reply to a request (R168 to R170, R178): the request's TAG, KIND raised by 0x40 or 0x7F, the
authority used and refused and the level of ATTN in FLAGS, the result code before the payload; it is sent
at once by an idle transmitter and otherwise waits. Nothing but the transmitter changes. -/
def Obligations.ReplyIsFormedAndHandedOver : Prop :=
  ∀ (s : State) (f : Frame) (eng : Bool) (r : Result) (body : List Byte), s.host.waiting = none →
    let payload := BitVec.ofNat 8 r.code :: body
    let kind : Byte := if f.kind.toNat < 0x40 then f.kind + 0x40#8 else 0x7F#8
    let flags : Byte := BitVec.ofNat 8
      ((if eng then 1 else 0) + (if f.flags.getLsbD 0 && !eng then 2 else 0) + (if s.events.attn then 4 else 0))
    let checked := beBytes 2 payload.length ++ [kind, f.tag, flags] ++ payload
    let frame := 0xC3#8 :: checked ++ beBytes 2 (crc checked).toNat
    s.answer f eng ⟨r, body⟩
      = s.setHost (if s.host.transmitter = .idle then { s.host with transmitter := .sendingReply frame }
                   else { s.host with waiting := some frame })

/-- The tests that every request passes before the rule of its kind (R168): its KIND, answered BAD_KIND with the
KIND received when none of section 10.5, then its authority, refused NOT_PERMITTED, then its length, refused
BAD_LENGTH. A refused request is taken and answered and changes nothing else (R171). -/
def Obligations.RequestsPassTheirTestsInOrder : Prop :=
  (∀ (i : Instr) (k : RequestKind) (f : Frame) (rest : List Frame) (s : State),
     i.requestKind? = some k → s.Offers f rest → f.kind.toNat = k.code →
     (k.engineerOnly = true → s.engineer f = false →
       exec i s = .next (s.taken.answer f false ⟨.notPermitted, []⟩))
     ∧ ((k.engineerOnly = true → s.engineer f = true) → k.lengthOk f.payload = false →
       exec i s = .next (s.taken.answer f (s.engineer f) ⟨.badLength, []⟩)))
  ∧ (∀ (f : Frame) (rest : List Frame) (s : State), s.Offers f rest →
       (∀ k ∈ RequestKind.all, k.code ≠ f.kind.toNat) →
       exec .badKindRequest s = .next (s.taken.answer f (s.engineer f) ⟨.badKind, [f.kind]⟩))

/-! ### The host link -/

/-- Framing and its reading agree (R165 to R167): the bytes that follow SYNC in a frame of any KIND, TAG and
FLAGS with a payload of at most 1,200 bytes are received in GATHERING as exactly that frame, which joins
the receive queue as its newest frame, or, on a queue of 4, is discarded with RX_OVERRUNS counted. -/
def Obligations.FrameReceivedIsTheFrameSent : Prop :=
  ∀ (kind tag flags : Byte) (payload : List Byte) (s : State),
    payload.length ≤ 1200 → s.host.receiver = .gathering [] →
    exec (.hostFrameReceived ((hostFrame kind tag flags payload).drop 1)) s
      = .next (s.setHost
          (if s.host.queue.length < 4 then
            { s.host with receiver := .hunting, queue := s.host.queue ++ [⟨kind, tag, flags, payload⟩] }
          else
            { s.host with receiver := .hunting,
                          overruns := if s.host.overruns < 65535 then s.host.overruns + 1 else 65535 }))

/-- The receiver (R166). In HUNTING the byte 0xC3 starts a frame and any other byte is discarded; inside a frame
0xC3 is a byte like any other. A LEN above 1,200, a gap of more than 5 ms and a CRC that does not match lose the
frame: each is counted, saturating at 65,535, and the receiver hunts again; a gap while HUNTING has no effect. -/
def Obligations.ReceiverFramesOrDropsTheBytes : Prop :=
  ((∀ s : State, s.host.receiver = .hunting →
     exec .hostSyncFound s = .next (s.setHost { s.host with receiver := .gathering [] })
     ∧ ∀ b : Byte, b ≠ 0xC3#8 → exec (.hostFrameReceived [b]) s = .next s)
   ∧ ∀ (s : State) (got : List Byte), s.host.receiver = .gathering got →
       exec .hostSyncFound s = exec (.hostFrameReceived [0xC3#8]) s
       ∧ (got = [] → exec .hostSyncFound s = .next (s.setHost { s.host with receiver := .gathering [0xC3#8] })))
  ∧ (let up := fun n : Nat => if n < 65535 then n + 1 else 65535
     ∀ s : State,
       (s.host.receiver = .gathering [] → ∀ hi lo : Byte, 1200 < 256 * hi.toNat + lo.toNat →
         exec (.badLenAbandon hi lo) s
           = .next (s.setHost { s.host with receiver := .hunting, badLen := up s.host.badLen }))
       ∧ (∀ got, s.host.receiver = .gathering got →
         exec .frameTimeout s
           = .next (s.setHost { s.host with receiver := .hunting, timeouts := up s.host.timeouts }))
       ∧ (s.host.receiver = .hunting → exec .frameTimeout s = .next s)
       ∧ (s.host.receiver = .gathering [] →
         ∀ (kind tag flags : Byte) (payload : List Byte) (sent : Word16), payload.length ≤ 1200 →
           let checked := beBytes 2 payload.length ++ [kind, tag, flags] ++ payload
           sent ≠ crc checked →
           exec (.hostFrameReceived (checked ++ beBytes 2 sent.toNat)) s
             = .next (s.setHost { s.host with receiver := .hunting, crcErrors := up s.host.crcErrors })))

/-- The transmitter once a frame has been sent whole (R169, R183): a waiting reply is sent first, then the oldest
segment of the report buffer as a SCAN_FRAME, and otherwise the transmitter is idle; a segment leaves the
buffer when its frame has been sent. That bits 3 to 7 of a report's FLAGS are 0 is the model's choice (log 42). -/
def Obligations.SentFrameGivesWayToTheNext : Prop :=
  let report := fun (s : State) (x : Segment) =>
    hostFrame 0x80#8 0#8 (if s.events.attn then 4#8 else 0#8)
      (beBytes 4 x.passNumber ++ beBytes 1 x.index ++ beBytes 1 x.count ++ beBytes 1 x.firstEntry
        ++ beBytes 2 x.skips ++ timeBytes x.startTime ++ beBytes 1 x.entries.length
        ++ x.entries.flatMap fun e => beBytes 2 e.data.toNat ++ [e.tags.setWidth 8])
  let next := fun (s : State) (left : List Segment) =>
    match s.host.waiting, left with
    | some r, _ => { s.host with transmitter := .sendingReply r, waiting := none }
    | none, x :: _ => { s.host with transmitter := .sendingReport (report s x) }
    | none, [] => { s.host with transmitter := .idle }
  ∀ s : State,
    (∀ frame, s.host.transmitter = .sendingReply frame →
      exec .hostFrameSent s = .next (s.setHost (next s s.scan.segments)))
    ∧ (∀ frame, s.host.transmitter = .sendingReport frame →
      exec .hostFrameSent s
        = .next ((s.setScan { s.scan with segments := s.scan.segments.tail }).setHost
            (next s s.scan.segments.tail)))

/-- GET_EVENT (R177, R178). On a queue that is not empty it removes and returns the entry `e` that is of the
highest class present and earliest in creation order, with the number of entries left and OVERRUN as it
stood; OVERRUN becomes CLEAR when the queue empties, and FLAGS carry ATTN after the removal. On an empty queue
it returns an entry count of 0, OVERRUN, and an entry of kind 0 whose other 22 bytes the manual leaves open
(free values, log 14). -/
def Obligations.GetEventTakesTheEarliestOfTheHighestClass : Prop :=
  (∀ (f : Frame) (rest : List Frame) (s : State) (before : List Event) (e : Event) (after : List Event),
     s.Admits .getEvent f rest → s.QueueKept → s.events.entries = before ++ e :: after →
     (∀ x ∈ before, x.kind.cls < e.kind.cls) → (∀ x ∈ after, x.kind.cls ≤ e.kind.cls) →
     let left := before ++ after
     let overrun := s.events.overrun && !left.isEmpty
     let entry := beBytes 1 e.kind.code ++ beBytes 1 e.kind.cls ++ beBytes 2 e.subject
       ++ beBytes 8 e.value.toNat ++ timeBytes e.first ++ timeBytes e.last ++ beBytes 1 e.count
     exec .getEvent s
       = .next ((s.taken.setEvents
           { entries := left, overrun := overrun,
             attn := overrun || left.any fun x => decide (s.cfgN .attnLevel ≤ x.kind.cls) }).answer
           f (s.engineer f) ⟨.ok, beBytes 1 left.length ++ flagByte s.events.overrun ++ entry⟩))
  ∧ (∀ (f : Frame) (rest : List Frame) (s : State), s.Admits .getEvent f rest → s.events.entries = [] →
       ∃ (others : List Byte) (used : Nat), others.length = 22
         ∧ exec .getEvent s
           = .next ((s.taken.setFree used).answer f (s.engineer f)
               ⟨.ok, [0#8] ++ flagByte s.events.overrun ++ [0#8] ++ others⟩))

/-- The requests that only read, without operands (R51, R118, R164, R179). IDENTIFY gives family code, part
number, revision, the link rate of the straps and the three capacities; GET_SCAN_TABLE the entries in index
order; GET_STACK the entries from the top with lifetimes in whole seconds rounded up, the term, the next id, the
utility level and the pot switching record. Each is answered OK and changes nothing else. That an absent down rate
is carried as four bytes of 0 is the model's choice (log 44). -/
def Obligations.IdentityScanTableAndStackAreReported : Prop :=
  (∀ (f : Frame) (rest : List Frame) (s : State) (rate : Nat), s.Admits .identify f rest →
     (s.host.baudCode, rate) ∈ [(0, 57600), (1, 115200), (2, 460800), (3, 921600)] →
     exec .identify s
       = .next (s.taken.answer f (s.engineer f)
           ⟨.ok, [0x5C#8] ++ beBytes 2 2140 ++ [1#8] ++ beBytes 4 rate ++ [4#8] ++ [64#8] ++ beBytes 2 1200⟩))
  ∧ (∀ (f : Frame) (rest : List Frame) (s : State),
       (s.Admits .getScanTable f rest →
         exec .getScanTable s
           = .next (s.taken.answer f (s.engineer f)
               ⟨.ok, beBytes 1 s.scan.table.length ++ s.scan.table.flatMap fun e =>
                 beBytes 1 e.module ++ beBytes 1 e.firstChan ++ beBytes 1 e.count ++ beBytes 2 e.firstPot⟩))
       ∧ (s.Admits .getStack f rest →
         let k := s.stack
         let w := k.switching
         let entry := fun e : StackEntry =>
           let seconds := match e.life with
             | some tenths => (tenths + 9) / 10
             | none => 0
           beBytes 1 e.id ++ beBytes 1 e.source.code ++ beBytes 4 e.ceiling ++ beBytes 4 (e.rate.getD 0)
             ++ beBytes 4 seconds ++ timeBytes e.pushed
         exec .getStack s
           = .next (s.taken.answer f (s.engineer f)
               ⟨.ok, beBytes 1 k.entries.length ++ k.entries.flatMap entry ++ optBytes 4 k.term
                 ++ beBytes 1 k.nextId ++ flagByte k.utility
                 ++ (beBytes 1 w.phase.code ++ beBytes 2 w.pot ++ beBytes 1 w.kind.code ++ beBytes 1 w.entry
                   ++ optTimeBytes w.accepted ++ beBytes 4 w.timer ++ beBytes 1 w.lastEnd.code)⟩)))

/-- GET_STATUS (R179, 11.1): a reply of 188 bytes after the result, with each field at the place that the
table of 11.1 gives it, as it stands when the request is taken; nothing else changes. That the bits which 11.1 does
not name in the first byte of the input levels are 0 is the model's choice (log 42). -/
def Obligations.StatusFieldsStandInTheirPlaces : Prop :=
  ∀ (f : Frame) (rest : List Frame) (s : State), s.Admits .getStatus f rest → s.ae.map.length = 12 →
    ∃ body, exec .getStatus s = .next (s.taken.answer f (s.engineer f) ⟨.ok, body⟩)
      ∧ body.length = 188
      ∧ field body 0 1 = s.sup.state.code ∧ field body 1 1 = s.sup.cause.code
      ∧ field body 2 1 = s.sup.lastRun.code ∧ field body 3 1 = s.sup.safeLevel.toNat
      ∧ field body 4 1 = s.front.line.state.code ∧ field body 5 1 = s.front.line.recovery % 2 ^ 8
      ∧ field body 6 4 = s.front.line.current % 2 ^ 32
      ∧ field body 10 4 = s.front.line.voltage % 2 ^ 32 ∧ field body 14 1 = s.front.line.held.toNat
      ∧ (body.drop 15).take 5 = timeBytes s.front.line.sampleTime
      ∧ (∀ n < 3, (body.drop (20 + 9 * n)).take 9 =
          beSigned 4 (s.chan n).value ++ [if (s.chan n).valid then 0#8 else 1#8]
            ++ beBytes 2 (s.chan n).invalidRun ++ beBytes 2 (s.chan n).rawMean)
      ∧ field body 47 4 = s.reg.applied % 2 ^ 32 ∧ field body 51 4 = s.reg.previous % 2 ^ 32
      ∧ field body 55 4 = s.reg.desired % 2 ^ 32 ∧ field body 59 1 = s.reg.governing.code
      ∧ field body 60 1 = s.reg.lastStep.code
      ∧ field body 61 1 = s.reg.limited.toNat ∧ field body 62 1 = s.reg.tracking.toNat
      ∧ field body 63 1 = s.reg.outside % 2 ^ 8 ∧ field body 64 1 = s.reg.inside % 2 ^ 8
      ∧ field body 65 4 = s.reg.capacityC % 2 ^ 32 ∧ field body 69 4 = s.reg.frozenZ % 2 ^ 32
      ∧ field body 73 4 = s.reg.amount % 2 ^ 32
      ∧ (∀ g : Group, field body (73 + 4 * g.num) 4 = ((s.reg.shares.get g).getD 0xFFFFFFFF) % 2 ^ 32)
      ∧ field body 101 1 = s.ae.hold.toNat
      ∧ field body 102 1 = s.energy.limiter.trim.isSome.toNat
      ∧ field body 103 4 = s.energy.limiter.trim.getD 0 % 2 ^ 32
      ∧ field body 107 2 = s.ae.count % 2 ^ 16
      ∧ (∀ k < 12, field body (109 + 4 * k) 4 = (s.ae.map.getD k 0#32).toNat)
      ∧ field body 157 4 = s.ae.closed % 2 ^ 32 ∧ field body 161 4 = s.scan.passNumber % 2 ^ 32
      ∧ field body 165 2 = s.scan.periodSkips % 2 ^ 16 ∧ field body 167 2 = s.scan.reportSkips % 2 ^ 16
      ∧ field body 169 1 = s.scan.segments.length % 2 ^ 8
      ∧ field body 170 1 = s.host.keyLevel.toNat + 2 * s.stack.utility.toNat + 4 * s.sup.safeLevel.toNat
      ∧ (∀ g : Group, (field body 171 1).testBit (g.num - 1) = (s.unit g).record.trip)
      ∧ field body 172 2 = s.host.badLen % 2 ^ 16 ∧ field body 174 2 = s.host.timeouts % 2 ^ 16
      ∧ field body 176 2 = s.host.crcErrors % 2 ^ 16 ∧ field body 178 2 = s.host.overruns % 2 ^ 16
      ∧ field body 180 1 = s.events.entries.length % 2 ^ 8 ∧ field body 181 1 = s.events.overrun.toNat
      ∧ (body.drop 182).take 5 = timeBytes s.energy.time ∧ field body 187 1 = s.energy.clockSet.toNat

/-- The reads of runs of records (R51, R68, R154, R161, R175): a count of 0 or above the bound of its kind, a
first pot or a last pot outside 1..384, is refused BAD_VALUE and an unknown item NO_SUCH with the index of the
first. Otherwise the reply is OK with the records asked for, those of a history from the newest toward the
oldest, those of the AE log from the record with the AE number asked for, when the log holds it; no records,
when the log is empty or the number is the next to be given; otherwise from the oldest record, with PARTIAL. Each
record is laid out as 11.1 gives it, a pot in 55 bytes (R36, R52, R67, R182); that the bits which 11.1 does not name
in a record's flags are 0 is the model's choice (log 42). None of them changes anything else. -/
def Obligations.RunsOfRecordsAreReported : Prop :=
  let yes := fun b : Bool => [if b then 1#8 else 0#8]
  let bits := fun flags : List Bool => [BitVec.ofNat 8 (flags.zipIdx.map fun x => x.1.toNat * 2 ^ x.2).sum]
  (∀ (f : Frame) (rest : List Frame) (s : State),
     let p := f.payload
     let pot := fun x : Pot =>
       yes (!x.fitted) ++ beBytes 1 x.entry ++ yes x.cutOut ++ beBytes 2 x.lastVoltage ++ beBytes 1 x.status.code
         ++ optTimeBytes x.lastFresh ++ yes x.seeded ++ beBytes 2 x.filtered ++ beBytes 4 x.resistance
         ++ beBytes 1 x.stale ++ yes x.staleNow
         ++ (beBytes 1 x.ae.state.code ++ yes x.ae.frozen ++ beBytes 4 x.ae.timer ++ timeBytes x.ae.pendingTime
           ++ timeBytes x.ae.startTime ++ beBytes 2 x.ae.vRef ++ beBytes 2 x.ae.peak ++ beBytes 8 x.ae.excess
           ++ beBytes 1 x.ae.recover ++ yes x.ae.quench ++ yes x.ae.long ++ beBytes 2 x.ae.lifetime
           ++ beBytes 2 x.ae.spikes)
     let demand := fun r : DemandRecord =>
       timeBytes r.stop ++ beBytes 4 r.length ++ beBytes 4 r.demand
         ++ bits [r.flags.shortened, r.flags.limited, r.flags.aeHeld, r.flags.estimated, r.flags.clockNotSet]
     let period := fun r : PeriodRecord =>
       timeBytes r.opened ++ timeBytes r.closed ++ r.kwh.flatMap (beBytes 4) ++ beBytes 4 r.total
         ++ beBytes 4 r.maximum ++ optTimeBytes r.maxTime ++ beBytes 4 r.aeKwh
         ++ bits [r.flags.saturated, r.flags.estimated, r.flags.clockNotSet, r.flags.shortenedSeen]
     let reply := fun (r : Result) (body : List Byte) => s.taken.answer f (s.engineer f) ⟨r, body⟩
     (s.Admits .getPots f rest →
       let first := field p 0 2
       let count := field p 2 1
       exec .getPots s
         = .next (if 1 ≤ count ∧ count ≤ 21 ∧ 1 ≤ first ∧ first + count - 1 ≤ 384 then
             reply .ok (beBytes 2 first ++ beBytes 1 count
               ++ (List.range count).flatMap fun k => pot (s.pot (first + k)))
           else reply .badValue []))
     ∧ (s.Admits .getItems f rest →
       let count := field p 0 1
       let id := fun k => field p (1 + 2 * k) 2
       (count = 0 ∨ 32 < count → exec .getItems s = .next (reply .badValue []))
       ∧ (1 ≤ count → count ≤ 32 → ∀ k < count, (∀ i : Item, i.id ≠ id k) → (∀ j < k, ∃ i : Item, i.id = id j) →
           exec .getItems s = .next (reply .noSuch (beBytes 1 k)))
       ∧ (1 ≤ count → count ≤ 32 → ∀ items : List Item, items.map (·.id) = (List.range count).map id →
           exec .getItems s = .next (reply .ok (items.flatMap fun i => beSigned 4 (s.cfg i)))))
     ∧ (s.Admits .getDemandLog f rest →
       let held := s.energy.demandLog
       let start := field p 0 1
       let count := field p 1 1
       let asked := (held.reverse.drop start).take count
       exec .getDemandLog s
         = .next (if 1 ≤ count ∧ count ≤ 32 then
             reply .ok (beBytes 1 held.length ++ beBytes 1 asked.length ++ asked.flatMap demand)
           else reply .badValue []))
     ∧ (s.Admits .getPeriods f rest →
       let held := s.energy.history
       let start := field p 0 1
       let count := field p 1 1
       let asked := (held.reverse.drop start).take count
       exec .getPeriods s
         = .next (if 1 ≤ count ∧ count ≤ 12 then
             reply .ok (beBytes 1 held.length ++ beBytes 1 asked.length ++ asked.flatMap period)
           else reply .badValue [])))
  ∧ (∀ (f : Frame) (rest : List Frame) (s : State), s.Admits .getAeLog f rest →
       let log := s.ae.log
       let first := field f.payload 0 4
       let count := field f.payload 4 1
       let next := if s.ae.closed < 4294967295 then s.ae.closed + 1 else 1
       let laid := fun r : AeRecord =>
         beBytes 4 r.number ++ beBytes 2 r.pot ++ timeBytes r.startTime ++ beBytes 4 r.duration ++ beBytes 2 r.peak
           ++ beBytes 8 r.excess ++ beBytes 1 r.cause.code ++ yes r.quench
       let reply := fun (r : Result) (oldest newest : Nat) (records : List AeRecord) =>
         s.taken.answer f (s.engineer f)
           ⟨r, beBytes 4 oldest ++ beBytes 4 newest ++ beBytes 1 records.length ++ records.flatMap laid⟩
       (count = 0 ∨ 32 < count → exec .getAeLog s = .next (s.taken.answer f (s.engineer f) ⟨.badValue, []⟩))
       ∧ (1 ≤ count → count ≤ 32 →
         (log = [] → exec .getAeLog s = .next (reply .ok 0 0 []))
         ∧ ∀ oldest newest : AeRecord, log.head? = some oldest → log.getLast? = some newest →
           (∀ (older : List AeRecord) (r : AeRecord) (newer : List AeRecord), log = older ++ r :: newer →
             r.number = first → (∀ x ∈ older, x.number ≠ first) →
             exec .getAeLog s = .next (reply .ok oldest.number newest.number ((r :: newer).take count)))
           ∧ ((∀ x ∈ log, x.number ≠ first) → first = next →
             exec .getAeLog s = .next (reply .ok oldest.number newest.number []))
           ∧ ((∀ x ∈ log, x.number ≠ first) → first ≠ next →
             exec .getAeLog s = .next (reply .part oldest.number newest.number (log.take count)))))

/-! ### The settings store -/

/-- Every SET_ITEMS refusal (R171, R173), by the first of the five checks that fails: the count, an unknown
item, a value outside the range of a refusing item, a SETUP_ONLY item outside SETUP that the authority used
may write, and a constraint that the pairs the authority may write would break. No pair is applied. The
constraint code of a refusal by the count is open in the manual (log 30). -/
def Obligations.SetItemsIsRefusedWhole : Prop :=
  ∀ (f : Frame) (rest : List Frame) (s : State), s.Admits .setItems f rest →
    let eng := s.engineer f
    let count := field f.payload 0 1
    let id := fun k => field f.payload (1 + 6 * k) 2
    let reply := fun (r : Result) (index code : Nat) =>
      s.taken.answer f eng ⟨r, beBytes 1 index ++ beBytes 1 code⟩
    (count = 0 ∨ 32 < count →
      ∃ (code : Byte) (used : Nat),
        exec .setItems s = .next ((s.taken.setFree used).answer f eng ⟨.badValue, [0xFF#8, code]⟩))
    ∧ (1 ≤ count → count ≤ 32 →
      (∀ k < count, (∀ i : Item, i.id ≠ id k) → (∀ j < k, ∃ i : Item, i.id = id j) →
        exec .setItems s = .next (reply .noSuch k 0))
      ∧ ∀ items : List (Item × Int),
        readPairs count (f.payload.drop 1) = items.map (fun p => (p.1.id, p.2)) →
        (∀ (good : List (Item × Int)) (bad : Item × Int) (more : List (Item × Int)),
          items = good ++ bad :: more → (∀ p ∈ good, p.1.accepts p.2 = true) → bad.1.accepts bad.2 = false →
          exec .setItems s = .next (reply .badValue good.length 0))
        ∧ ((∀ p ∈ items, p.1.accepts p.2 = true) →
          let locked := fun p : Item × Int =>
            p.1.row.setupOnly = true ∧ s.sup.state ≠ .setup ∧ (p.1.row.engineer = true → eng = true)
          (∀ (good : List (Item × Int)) (bad : Item × Int) (more : List (Item × Int)),
            items = good ++ bad :: more → (∀ p ∈ good, ¬ locked p) → locked bad →
            exec .setItems s = .next (reply .locked good.length 0))
          ∧ ((∀ p ∈ items, ¬ locked p) →
            let after := (items.filter fun p => !p.1.row.engineer || eng).foldl
              (fun st p => st.apply p.1 p.2) s.settings
            let rising := fun g : Group => ∀ k : Fin 7,
              derateTemp (after.get (.loop g (.derate k.castSucc)))
                < derateTemp (after.get (.loop g (.derate k.succ)))
            (after.get .lineMax < after.get .lineFloor → exec .setItems s = .next (reply .badValue 0xFF 1))
            ∧ (after.get .lineFloor ≤ after.get .lineMax → after.get .aeOn - 500 < after.get .aeOff →
                exec .setItems s = .next (reply .badValue 0xFF 2))
            ∧ (after.get .lineFloor ≤ after.get .lineMax → after.get .aeOff ≤ after.get .aeOn - 500 →
                ∀ g : Group, ¬ rising g → (∀ g' : Group, g'.num < g.num → rising g') →
                exec .setItems s = .next (reply .badValue 0xFF (2 + g.num))))))

/-- A SET_ITEMS request that passes the checks (R174): the pairs that the authority used may write are
applied in pair order, the others skipped; the masks tell which pairs were skipped and which were stored at
another value than the one carried; the result is PARTIAL, ADJUSTED or OK. What the owner of an item does at the
write itself is done with its pair, before the next (R172): a change of TEL_ENABLE (R49), of G_FITTED in SETUP
(R73, R100, R110) and of DEMAND_MINUTES (R155), a write of AE_HOLD_COUNT (R66), ATTN_LEVEL (R178),
UTILITY_CEILING (R120) and SWITCH_CEILING (R121). When no pair names such an item, the settings store is all that
changes. -/
def Obligations.SetItemsAppliesItsPairsInOrder : Prop :=
  ∀ (f : Frame) (rest : List Frame) (s : State) (items : List (Item × Int)), s.Admits .setItems f rest →
    let eng := s.engineer f
    let count := field f.payload 0 1
    readPairs count (f.payload.drop 1) = items.map (fun p => (p.1.id, p.2)) → 1 ≤ count → count ≤ 32 →
    s.refusePairs (items.map fun p => (p.1.id, p.2)) eng = none →
    let may := fun p : Item × Int => p.1.row.engineer = false ∨ eng = true
    let before := fun k : Nat =>
      ((items.take k).filter fun p => decide (may p)).foldl (fun st p => st.apply p.1 p.2) s.settings
    let indexed := items.zipIdx
    let skipped := (indexed.filter fun x => !decide (may x.1)).map (·.2)
    let adjusted :=
      (indexed.filter fun x => decide (may x.1) && x.1.1.stored (before x.2) x.1.2 != x.1.2).map (·.2)
    let mask := fun ks : List Nat => beBytes 4 ((ks.map (2 ^ ·)).sum) ++ beBytes 1 ks.length
    let result : Result := if skipped ≠ [] then .part else if adjusted ≠ [] then .adjusted else .ok
    let owned := fun i : Item => i = .telEnable ∨ (∃ g, i = .group g .fitted) ∨ i = .demandMinutes
      ∨ i = .aeHoldCount ∨ i = .attnLevel ∨ i = .utilityCeiling ∨ i = .switchCeiling
    ∃ t, exec .setItems s = .next (t.answer f eng ⟨result, mask skipped ++ mask adjusted⟩)
      ∧ t.settings = before items.length
      ∧ ((∀ p ∈ items, ¬ owned p.1) → t = s.taken.setSettings (before items.length))
      ∧ (s.settings.wf = true → ∃ at_ : Nat → State, at_ 0 = s.taken ∧ at_ items.length = t
          ∧ ∀ k p, items[k]? = some p →
              (may p → (at_ k).Written p.1 p.2 (at_ (k + 1))) ∧ (¬ may p → at_ (k + 1) = at_ k))

/-- What applying a pair to a store in its canonical form gives (R128, R174): the item holds the value
carried, brought into its range if it is a clamping item; every other item is as before, but that a write of
LINE_MAX or LINE_FLOOR brings BASE_SETPOINT into LINE_FLOOR..LINE_MAX. Between two pairs of one request LINE_FLOOR
may stand above LINE_MAX; what BASE_SETPOINT then holds is the model's (log 18) and is left unsaid. -/
def Obligations.AppliedPairReadsBackClamped : Prop :=
  ∀ (st : Settings) (i : Item) (v : Int), st.wf = true →
    let now := st.apply i v
    let within := fun lo hi x : Int => max lo (min hi x)
    (i.row.clamps = false → now.get i = v)
    ∧ (∀ lo hi, i.row.admits = .range lo hi → i.row.clamps = true → now.get i = within lo hi v)
    ∧ (i = .baseSetpoint → st.get .lineFloor ≤ st.get .lineMax →
        now.get i = within (st.get .lineFloor) (st.get .lineMax) v)
    ∧ (i = .utilityCeiling ∨ i = .switchCeiling → now.get i = within 0 (st.get .lineMax) v)
    ∧ (∀ j : Item, j ≠ i → (i = .lineMax ∨ i = .lineFloor → j ≠ .baseSetpoint) → now.get j = st.get j)
    ∧ (i = .lineMax ∨ i = .lineFloor → now.get .lineFloor ≤ now.get .lineMax →
        now.get .baseSetpoint = within (now.get .lineFloor) (now.get .lineMax) (st.get .baseSetpoint))
    ∧ now.wf = true

/-- No request handled at OPERATOR authority changes an ENGINEER item (R170, R173, R174), whatever its kind
and contents. -/
def Obligations.OperatorRequestsKeepEngineerItems : Prop :=
  ∀ (c : Instr) (k : RequestKind) (f : Frame) (rest : List Frame) (s t : State),
    c.requestKind? = some k → s.settings.wf = true → s.host.queue = f :: rest → s.engineer f = false →
    exec c s = .next t → ∀ i : Item, i.row.engineer = true → t.cfg i = s.cfg i

/-! ### The line supervisor -/

/-- A RUN request at ENGINEER authority that is not accepted (R4, R5): WRONG_STATE outside SETUP; in SETUP
NOT_READY with the reason of the first of the five conditions that fails, which becomes the last RUN outcome.
Nothing else changes. When every condition holds the last RUN outcome becomes ACCEPTED. -/
def Obligations.RunIsRefusedForTheFirstConditionThatFails : Prop :=
  ∀ (f : Frame) (rest : List Frame) (s : State), s.Admits .run f rest →
    let refused := fun (o : RunOutcome) (code : Byte) =>
      exec .run s = .next ((s.taken.setSup { s.sup with lastRun := o }).answer f true ⟨.notReady, [code]⟩)
    let fitted := fun g : Group => s.fitted g = true
    let adopted := ∀ g, fitted g → (s.unit g).record.state ≠ .unknown
    (s.sup.state ≠ .setup → exec .run s = .next (s.taken.answer f true ⟨.wrongState, []⟩))
    ∧ (s.sup.state = .setup →
      (s.energy.clockSet = false → refused .clockNotSet 2#8)
      ∧ (s.energy.clockSet = true →
        ((∀ g, ¬ fitted g) → refused .noGroup 3#8)
        ∧ ((∃ g, fitted g) →
          (s.scan.table = [] → refused .noScanTable 4#8)
          ∧ (s.scan.table ≠ [] →
            (¬ adopted → refused .adoptionIncomplete 5#8)
            ∧ (adopted → s.front.line.state = .fault → refused .lineFault 6#8)
            ∧ (adopted → s.front.line.state ≠ .fault →
                ∃ t, exec .run s = .next t ∧ t.sup.lastRun = .accepted)))))

/-- A RUN request that passes validation (R5, R7, R81, R133 to R138): the supervisor is in RUN by RUN_REQUEST
with outcome ACCEPTED, the join credits of allocatable groups are seeded from the measured currents and grown
once and the others cleared, the loss timer runs exactly if no group is allocatable or frozen, the cycle
timer runs, and the first applied target is at most one up step above the measured current, clamped to
LINE_MAX, from which the ramp starts. SUP_STATE is posted and the reply is OK. -/
def Obligations.AcceptedRunTakesOverTheLineWithoutAStep : Prop :=
  ∀ (f : Frame) (rest : List Frame) (s : State), s.Admits .run f rest → s.TargetKept →
    s.sup.state = .setup → s.energy.clockSet = true → (∃ g, s.fitted g = true) → s.scan.table ≠ [] →
    (∀ g, s.fitted g = true → (s.unit g).record.state ≠ .unknown) → s.front.line.state ≠ .fault →
    let start := min s.front.line.current s.lineMax
    let seed := fun g => min (s.coolOf g).cap.capacity (s.chan (gcChan g)).value.toNat
    ∃ u, exec .run s = .next (u.answer f true ⟨.ok, []⟩)
      ∧ Touches [.host, .cool, .sup, .energy, .events, .reg, .link] s u
      ∧ u.sup = { s.sup with state := .run, cause := .runRequest, lastRun := .accepted,
                             lossTimer := if s.anyCarrier then none else some s.ticks }
      ∧ (∀ g, (u.coolOf g).cap.credit =
          if s.allocatable g then min (s.coolOf g).cap.capacity (seed g + s.cfgN (.group g .joinRate) / 5) else 0)
      ∧ u.reg.cycleTimer = true
      ∧ (start < u.reg.desired → s.ae.hold = false →
          u.reg.applied = min (min u.reg.desired (start + max 1 (s.cfgN .rampUp / 5)))
            (u.reg.capacityC + u.reg.frozenZ))
      ∧ (start < u.reg.desired → s.ae.hold = true →
          u.reg.applied = min start (u.reg.capacityC + u.reg.frozenZ))
      ∧ (u.reg.desired ≤ start → u.reg.applied ≤ start)
      ∧ u.Tells .supState 0 [[1#8], [0#8], [2#8]]

/-- HOLD and RELEASE in every supervisor state (R8, R9): in RUN, HOLD enters HOLD; in HOLD it is accepted and
changes nothing; RELEASE enters RUN from HOLD unless the line measurement is in FAULT, when it is refused
NOT_READY with LINE_FAULT; everything else is WRONG_STATE. Nothing but the state, its cause and the posting of
SUP_STATE changes. -/
def Obligations.HoldAndReleaseMoveBetweenRunAndHold : Prop :=
  ∀ (f : Frame) (rest : List Frame) (s : State),
    let reply := fun (u : State) (r : Result) (body : List Byte) => u.answer f (s.engineer f) ⟨r, body⟩
    let enter := fun (st : SupState) (cause : EntryCause) =>
      s.taken.setSup { s.sup with state := st, cause := cause }
    (s.Admits .hold f rest →
      (s.sup.state = .run →
        exec .hold s
          = .next (reply ((enter .hold .holdRequest).post .supState 0 [[2#8], [1#8], [3#8]]) .ok []))
      ∧ (s.sup.state = .hold → exec .hold s = .next (reply s.taken .ok []))
      ∧ (s.sup.state = .setup ∨ s.sup.state = .safe →
        exec .hold s = .next (reply s.taken .wrongState [])))
    ∧ (s.Admits .release f rest →
      (s.sup.state = .hold → s.front.line.state ≠ .fault →
        exec .release s
          = .next (reply ((enter .run .releaseRequest).post .supState 0 [[1#8], [2#8], [4#8]]) .ok []))
      ∧ (s.sup.state = .hold → s.front.line.state = .fault →
        exec .release s = .next (reply s.taken .notReady [6#8]))
      ∧ (s.sup.state ≠ .hold → exec .release s = .next (reply s.taken .wrongState [])))

/-- Entry to SAFE (R3, R11 to R13, R107, R142): a SAFE input registered ASSERTED outside SAFE, once its pin has read
so at two boundaries in a row, and a group loss timer that has run 5.0 s in RUN or HOLD, measured as 50 boundaries
(log 7), enter SAFE with their cause. The loss timer stops, the targets,
shares and tracking counts are cleared and the cycle timer stops, a START not in flight is withdrawn, which resolves
what waits behind it (R98, R106), and SUP_STATE and SAFE are posted; no other block changes. A level registered DEASSERTED changes the registered
level alone, a level registered ASSERTED in SAFE likewise; a level not read twice is not registered, and a loss
timer that is stopped, or has not run so long, does not expire. -/
def Obligations.EntryToSafeGivesUpControl : Prop :=
  (∀ (s : State) (cause : EntryCause) (c : Instr),
     (c = .safeInputEvent true ∧ cause = .safeInput ∧ s.sup.safeLevel = false ∧ 2 ≤ s.sup.safeRun
         ∧ s.sup.state ≠ .safe
       ∨ c = .groupLossTimeout ∧ cause = .noGroup ∧ (∃ start, s.sup.lossTimer = some start ∧ start + 50 ≤ s.ticks)
         ∧ (s.sup.state = .run ∨ s.sup.state = .hold)) →
     ∃ t, exec c s = .next t
       ∧ Touches [.sup, .events, .link, .reg] s t
       ∧ t.sup.state = .safe ∧ t.sup.cause = cause ∧ t.sup.lossTimer = none ∧ t.sup.lastRun = s.sup.lastRun
       ∧ (t.sup.safeLevel = true ↔ s.sup.safeLevel = true ∨ cause = .safeInput)
       ∧ t.reg = { s.reg with applied := 0, previous := 0, desired := 0, governing := .none, lastStep := .none,
                              limited := false, tracking := false, outside := 0, inside := 0,
                              shares := Six.const none, cycleTimer := false }
       ∧ t.link.bus = s.link.bus
       ∧ (∀ g, match (s.unit g).command with
         | none => t.unit g = s.unit g
         | some x =>
           if x.kind = .start ∧ x.state ≠ .sent then
             t.unit g = (s.unit g).resolved (s.coolOf g).cap.unloading
               ∧ t.Tells .orderFailed g.num
                   [beBytes 1 x.origin.code, beBytes 1 x.origin.tag, [2#8], beBytes 1 x.seq, [5#8], [0#8]]
           else t.unit g = s.unit g)
       ∧ t.Tells .supState 0 [[3#8], beBytes 1 s.sup.state.code, beBytes 1 cause.code]
       ∧ t.Tells .safe 0 [beBytes 1 cause.code])
  ∧ (∀ s : State,
       (s.sup.safeLevel = true → 2 ≤ s.sup.safeRun →
         exec (.safeInputEvent false) s = .next (s.setSup { s.sup with safeLevel := false, safeRun := 0 }))
       ∧ (s.sup.safeLevel = false → 2 ≤ s.sup.safeRun → s.sup.state = .safe →
         exec (.safeInputEvent true) s = .next (s.setSup { s.sup with safeLevel := true, safeRun := 0 }))
       ∧ (∀ level, level = s.sup.safeLevel ∨ s.sup.safeRun < 2 → exec (.safeInputEvent level) s = .next s)
       ∧ (s.sup.lossTimer = none → exec .groupLossTimeout s = .next s)
       ∧ (∀ start, s.sup.lossTimer = some start → s.ticks < start + 50 → exec .groupLossTimeout s = .next s)
       ∧ (s.sup.state = .setup ∨ s.sup.state = .safe → exec .groupLossTimeout s = .next s))

/-- LINE_RESET (R15, R36, R40, R49, R70, R86, R109, R125, R127, R157, R162, R180): SETUP, or SAFE at once when the
SAFE input is registered ASSERTED; queue and counters of the host link, the regulator and the limiter are
cleared; every AE is closed in ascending pot number, numbered and logged, the pots keeping all else; the pass is
abandoned and the reports not yet begun are discarded; every dwell starts anew and every unloading ends, a join
credit of a group that was allocatable becoming 0; slots, captures and adoption are cleared, an order in flight is
discarded, and the stages are written anew; the stack is emptied but for a UTILITY entry pushed anew. What these
rules keep stands, and the other blocks stand whole. RESET_DONE with value 2 is the first entry of the event
queue, and the reply carries the supervisor state. The t of the limiter's projection (log 39) is left unsaid. -/
def Obligations.LineResetReturnsTheLineToSetup : Prop :=
  ∀ (f : Frame) (rest : List Frame) (s : State), s.Admits .lineReset f rest → s.MapKept → s.SettingsKept →
    ∃ u, exec .lineReset s
        = .next (u.answer f true ⟨.ok, [if s.sup.safeLevel then 3#8 else 0#8]⟩)
      ∧ Touches [.host, .events, .sup, .reg, .pots, .ae, .scan, .cool, .link, .energy, .stack] s u
      ∧ u.sup = { s.sup with state := if s.sup.safeLevel then .safe else .setup,
                             cause := if s.sup.safeLevel then .safeInput else .lineReset,
                             lastRun := .none, lossTimer := none }
      ∧ u.host = { s.host with queue := [], badLen := 0, timeouts := 0, crcErrors := 0, overruns := 0 }
      ∧ (∃ e more, u.events.entries = e :: more ∧ e.kind = .resetDone ∧ e.subject = 0
          ∧ e.value = eventValue [[2#8]] ∧ e.count = 1)
      ∧ u.reg = Regulator.initial
      ∧ u.energy = { s.energy with limiter := { active := false, trim := none, projection := 0,
                                                projectionT := u.energy.limiter.projectionT, voltage := 0 } }
      ∧ (let closing := potNumbers.filter fun p => (s.pot p).ae.state.inAe
         let record := fun (x : Nat × Nat) =>
           let a := (s.pot x.1).ae
           { number := (s.ae.closed + x.2) % 4294967295 + 1, pot := x.1, startTime := a.startTime,
             duration := a.timer, peak := a.peak, excess := a.excess, cause := .lineReset,
             quench := a.quench : AeRecord }
         let log := s.ae.log ++ closing.zipIdx.map record
         (∀ p ∈ potNumbers, u.pot p =
           let x := s.pot p
           if x.ae.state.inAe then { x with ae := { x.ae with state := .normal, frozen := false } } else x)
         ∧ (∀ p ∈ potNumbers, u.ae.flag p = false)
         ∧ u.ae.count = 0 ∧ u.ae.hold = false ∧ u.ae.lamp = false ∧ u.ae.excess = s.ae.excess
         ∧ (s.ae.log.length ≤ 128 → s.ae.closed ≤ 4294967295 → u.ae.log = log.drop (log.length - 128))
         ∧ (closing = [] → u.ae.closed = s.ae.closed ∧ u.ae.log = s.ae.log)
         ∧ (closing ≠ [] → s.ae.closed ≤ 4294967295 →
             u.ae.closed = (s.ae.closed + (closing.length - 1)) % 4294967295 + 1))
      ∧ (let left := match s.host.transmitter with
           | .sendingReport _ => s.scan.segments.take 1
           | .sendingReply _ | .idle => []
         u.scan = { s.scan with
           pass := none, segments := left,
           reportSkips := if left.length < s.scan.segments.length then
               if s.scan.reportSkips < 65535 then s.scan.reportSkips + 1 else 65535
             else s.scan.reportSkips })
      ∧ (∀ g,
          let c := (s.coolOf g).cap
          (u.coolOf g).loop =
              { (s.coolOf g).loop with dwell := (s.coolOf g).loop.dwell.map fun _ => 0, begun := false }
          ∧ (u.coolOf g).cap =
              { c with unloading := false, lastEnd := if c.unloading then .lineReset else c.lastEnd,
                       credit := if s.allocatable g then 0 else c.credit })
      ∧ (∀ g,
          let r := (s.unit g).record
          u.unit g =
            { record := { r with state := .unknown, capture := none, senseDue := true },
              command := none, resetFlag := none, coolPending := false,
              share := ⟨r.ackShare, false, .absent⟩,
              stage := ⟨if s.fitted g then (s.coolOf g).loop.stage else r.ackStage, false, .absent⟩,
              senseTimer := (s.unit g).senseTimer })
      ∧ u.link.bus = (match s.link.bus with
          | .awaiting _ | .draining => .draining
          | .idle => .idle)
      ∧ u.link.lastServed = s.link.lastServed
      ∧ (let k := s.stack
         u.stack.utility = k.utility ∧ u.stack.assertCount = k.assertCount
         ∧ u.stack.releaseCount = k.releaseCount
         ∧ u.stack.switching = (if k.switching.phase = .none then k.switching
             else { k.switching with phase := .none, lastEnd := .lineReset })
         ∧ (k.utility = false → u.stack.entries = [] ∧ u.stack.nextId = k.nextId)
         ∧ (k.utility = true →
             u.stack.entries = [{ id := k.nextId, source := .utility,
                                  ceiling := min (s.cfgN .utilityCeiling) s.lineMax, rate := none, life := none,
                                  pushed := s.energy.time }]
             ∧ u.stack.nextId = if k.nextId < 255 then k.nextId + 1 else 1))

/-! ### The line regulator -/

/-- A periodic cycle (R81, R131 to R138): the join credits of allocatable groups grow; the desired target is
the least of BASE_SETPOINT, LINE_MAX, the stack term and, in RUN, the trim; the target rises at RAMP_UP and
falls at the rate of the governing term in RUN, except where AE hold withholds the step, and stands in HOLD;
a down step governed by the trim that is withheld marks the open interval AE_HELD (R158), and nothing else of the
energy unit changes; the target is then brought down to the allocation capacity and frozen current, and stored, and
CAPACITY_LIMIT is posted when CAPACITY_LIMITED becomes SET, with D* less the new target. With the cycle timer
stopped, or outside RUN and HOLD, nothing happens. -/
def Obligations.PeriodicCycleRampsAndClampsTheTarget : Prop :=
  ∀ (s : State) (apart : Bool),
    (s.reg.cycleTimer = false → exec (.periodicCycle apart) s = .next s)
    ∧ (s.sup.state = .setup ∨ s.sup.state = .safe → exec (.periodicCycle apart) s = .next s)
    ∧ (s.reg.cycleTimer = true → s.sup.state = .run ∨ s.sup.state = .hold →
      ∃ t, exec (.periodicCycle apart) s = .next t
        ∧ Touches [.cool, .energy, .events, .reg, .link] s t
        ∧ (∀ g, (t.coolOf g).loop = (s.coolOf g).loop
            ∧ (t.coolOf g).cap =
              if s.allocatable g then
                { (s.coolOf g).cap with
                  credit := min (s.coolOf g).cap.capacity
                    ((s.coolOf g).cap.credit + s.cfgN (.group g .joinRate) / 5) }
              else (s.coolOf g).cap)
        ∧ (let trim := if s.sup.state = .run then s.energy.limiter.trim else none
           let ceiling := fun src => (s.stack.entries.find? fun e => e.source == src).map (·.ceiling)
           let top := s.stack.entries.head?
           let base := s.cfgN .baseSetpoint
           let d := (s.stack.term.toList ++ trim.toList).foldl min (min base s.lineMax)
           let gov : Governing :=
             if ceiling .utility = some d then .utility
             else if ceiling .switching = some d then .switching
             else if top.map (·.ceiling) = some d then .top
             else if trim = some d then .trim
             else .base
           let rate := match gov with
             | .utility => s.cfgN .rampUtility
             | .top => (top.bind (·.rate)).getD (s.cfgN .rampDown)
             | .switching | .trim | .base | .none => s.cfgN .rampDown
           let prev := s.reg.previous
           let new : Nat × LastStep :=
             if s.sup.state = .hold then (prev, .heldState)
             else if prev < d ∧ s.ae.hold = true then (prev, .heldAe)
             else if prev < d then (min d (prev + max 1 (s.cfgN .rampUp / 5)), .up)
             else if prev = d then (prev, .none)
             else if s.ae.hold = true ∧ gov ≠ .utility then (prev, .heldAe)
             else (max d (prev - max 1 (rate / 5)), .down)
           let c := (Group.all.map fun g =>
             if s.allocatable g ∧ s.holdsStop g = false ∧ (s.coolOf g).cap.unloading = false then
               (t.coolOf g).cap.credit
             else 0).sum
           let z := (Group.all.map fun g =>
             if s.frozen g then
               if (s.chan (gcChan g)).valid then (s.chan (gcChan g)).value.toNat
               else (s.unit g).record.ackShare
             else 0).sum
           let withheld := s.sup.state = .run ∧ d < prev ∧ s.ae.hold = true ∧ gov = .trim
           let i := s.energy.interval
           let told := fun u : State => u.events.entries.filter fun e => e.kind == .capacityLimit
           t.reg.desired = d ∧ t.reg.governing = gov ∧ t.reg.lastStep = new.2
           ∧ t.reg.capacityC = c ∧ t.reg.frozenZ = z
           ∧ t.reg.applied = min new.1 (c + z) ∧ t.reg.previous = t.reg.applied
           ∧ t.reg.limited = decide (c + z < new.1)
           ∧ t.energy = (if withheld then
               { s.energy with interval := { i with flags := { i.flags with aeHeld := true } } } else s.energy)
           ∧ (c + z < new.1 → s.reg.limited = false →
               t.Tells .capacityLimit 0 [beSigned 4 ((d : Int) - (t.reg.applied : Int))])
           ∧ (new.1 ≤ c + z ∨ s.reg.limited = true → told t = told s)))

/-- The allocation of a cycle (R139, R140), periodic or out of turn: every allocatable group is given the
quotient of its allocation capacity, which is its effective capacity or, while its slot holds a STOP, 0 (R137),
and the remainder is given out 1 A at a time in ascending group number. The shares sum exactly to the
allocation amount, none exceeds the effective capacity of its group, groups that are not allocatable are given
NONE, and the share slots hold the shares as their desired values. -/
def Obligations.SharesSumToTheAllocationAmount : Prop :=
  ∀ (s : State) (periodic apart : Bool), s.sup.state = .run ∨ s.sup.state = .hold →
    let t := s.cycle periodic apart
    let share := fun g => (t.reg.shares.get g).getD 0
    let amount := t.reg.amount
    let capacity := fun g => if s.allocatable g ∧ s.holdsStop g = false then t.effective g else 0
    let total := (Group.all.map capacity).sum
    let quotient := fun g => amount * capacity g / total
    let remainder := amount - (Group.all.map quotient).sum
    let short := fun g => quotient g < capacity g
    let before := fun g : Group => (Group.all.filter fun x => x.num < g.num ∧ short x).length
    amount = t.reg.applied - t.reg.frozenZ
    ∧ t.reg.applied ≤ total + t.reg.frozenZ
    ∧ (∀ g, share g = quotient g + if short g ∧ before g < remainder then 1 else 0)
    ∧ (Group.all.map share).sum = amount
    ∧ ∀ g, (s.allocatable g = true →
              (t.reg.shares.get g).isSome = true ∧ share g ≤ t.effective g
              ∧ (t.unit g).share.desired = share g)
          ∧ (s.allocatable g = false → t.reg.shares.get g = none ∧ t.unit g = s.unit g)
          ∧ (t.unit g).record = (s.unit g).record ∧ (t.unit g).command = (s.unit g).command

/-- Tracking supervision (R141): a periodic cycle counts outside or inside TRACK_TOL, each count saturating
at 10 and clearing the other; a count that has reached 10 against the flag changes it, and TRACKING is posted
with the flag, the line current and the applied target, and not otherwise. A cycle taken apart leaves that change to
the command TRACKING, which is the change alone: this split is the model's choice (log 2). -/
def Obligations.TrackingFollowsTenCyclesInARow : Prop :=
  (∀ (s : State) (apart : Bool), s.reg.cycleTimer = true → s.sup.state = .run ∨ s.sup.state = .hold →
    ∃ t, exec (.periodicCycle apart) s = .next t
      ∧ (let off := (s.front.line.current : Int) - t.reg.applied
         let outside := (s.cfgN .trackTol : Int) < off ∨ off < -(s.cfgN .trackTol : Int)
         let up := fun n : Nat => if n < 10 then n + 1 else 10
         (outside → t.reg.outside = up s.reg.outside ∧ t.reg.inside = 0)
         ∧ (¬ outside → t.reg.inside = up s.reg.inside ∧ t.reg.outside = 0)
         ∧ (apart = true → t.reg.tracking = s.reg.tracking)
         ∧ (apart = false → t.reg.tracking =
              if s.reg.tracking then decide (t.reg.inside < 10) else decide (10 ≤ t.reg.outside))
         ∧ (t.reg.tracking ≠ s.reg.tracking → t.Tells .tracking 0
              [[if t.reg.tracking then 1#8 else 0#8], beBytes 3 s.front.line.current, beBytes 3 t.reg.applied])
         ∧ (let told := fun u : State => u.events.entries.filter fun e => e.kind == .tracking
            t.reg.tracking = s.reg.tracking → told t = told s)))
  ∧ ∀ s : State,
      let r := s.reg
      let due := if r.tracking then 10 ≤ r.inside else 10 ≤ r.outside
      (due → exec .tracking s
        = .next ((s.setReg { r with tracking := !r.tracking }).post .tracking 0
            [[if r.tracking then 0#8 else 1#8], beBytes 3 s.front.line.current, beBytes 3 r.applied]))
      ∧ (¬ due → exec .tracking s = .next s)

/-! ### Cooling and capacity -/

/-- The evaluation of the loops at a 100 ms boundary, in the steps of R73 (R74 to R79, R81, R83, R84, R95, R97): for
every fitted group the sensor fault field, the factors and the loop factor as their least, the capacity from the
rated current, a join credit at most the capacity, the cooling state with its hysteresis of 20 at CRITICAL, the
dwell and the cooling stop it brings, the stage, which is written into the stage slot when it changes, and the
unloading with its timer and its end by LEVEL or TIME, which releases a STOP that waits on it. A change of the sensor
fault field, a change of the cooling state, with the loop factor, and a cooling stop are posted; the bits of the
channels byte which R186 does not name are 0 (log 42). Loop and stage slot of a group that is not fitted stand. In a sample taken apart the evaluation of a loop halts before a change of the
sensor fault field and before a cooling stop, and leaves an end by TIME: this split is the model's choice
(log 2). That an unloading begun by a cooling stop has its timer advanced and its end tested in the same sample is
read from the order of R73 by inference (log 26). -/
def Obligations.BoundaryEvaluatesEveryFittedLoop : Prop :=
  ∀ (b : Boundary) (s : State), ∃ t, exec (.lineSample b) s = .next t ∧ ∀ g,
    let was := (s.coolOf g).loop
    let c := (s.coolOf g).cap
    let l := (t.coolOf g).loop
    let now := (t.coolOf g).cap
    let slot := (t.unit g).stage
    let st := (s.unit g).record.state
    let temp := (t.chan (toChan g)).value
    let failed := decide (100 ≤ (t.chan (toChan g)).invalidRun ∨ 100 ≤ (t.chan (flChan g)).invalidRun)
    (s.fitted g = false → t.coolOf g = s.coolOf g ∧ slot = (s.unit g).stage)
    ∧ (s.fitted g = true →
      (b.apart = true → failed ≠ was.fault →
        t.coolOf g = { s.coolOf g with left := .sensor } ∧ slot = (s.unit g).stage)
      ∧ (b.apart = false ∨ failed = was.fault →
        let begun := if was.state = .critical ∧ l.state ≠ .critical then false else was.begun
        let stops := s.StopFallsDue g l.dwell begun
        let held := { c with capacity := now.capacity, credit := min c.credit now.capacity }
        l.fault = failed
        ∧ s.LoopFormed g was l temp (t.chan (flChan g)).value
        ∧ now.capacity = s.cfgN (.group g .rated) * l.factor / 1000
        ∧ (s.SettingsKept → now.capacity ≤ s.cfgN (.group g .rated))
        ∧ now.credit ≤ now.capacity
        ∧ s.CoolStateTold t g was l
        ∧ (failed ≠ was.fault → t.Tells .coolingSensor g.num
            [[if failed then 1#8 else 0#8], beBytes 1 ((decide (100 ≤ (t.chan (toChan g)).invalidRun)).toNat
              + 2 * (decide (100 ≤ (t.chan (flChan g)).invalidRun)).toNat)])
        ∧ (b.apart = false → stops → t.Tells .coolingStop g.num
            [beSigned 2 temp, if st = .starting ∨ st = .running ∨ st = .unknown then [1#8] else [0#8]])
        ∧ (b.apart = true → stops →
            (t.coolOf g).left = .stop ∧ l.begun = begun ∧ l.stage = was.stage ∧ now = held
            ∧ slot = (s.unit g).stage)
        ∧ (b.apart = false ∨ ¬ stops →
          let reached := if stops then s.unloadingBegun g held else held
          (t.coolOf g).left = .none
          ∧ l.begun = (begun || decide stops)
          ∧ l.stage = s.stageAfter g failed was.stage temp
          ∧ slot = (if l.stage = was.stage then (s.unit g).stage else (s.unit g).stage.written l.stage)
          ∧ now = s.unloadingAfter g (t.chan (gcChan g)) b.apart reached
          ∧ (reached.unloading = true → now.unloading = false →
              ∀ x, (s.unit g).command = some x → x.kind = .stop →
                (t.unit g).command = some { x with sendable := true }))))

/-- The derate curve of a loop (R74): its eight points are those of the settings; below the first point the factor
is the first point's, at and above the last the last point's, and between two points the floor of the straight
line, so that at a point it is that point's own, for every list of points whose temperatures rise. The factor
never leaves the span of the points' factors. The default curve has the eight points of R74; at 470 its factor is
992 by the rule, where a worked row of the chapter has 1,000 (log 23). -/
def Obligations.DerateCurveInterpolatesDownward : Prop :=
  (∀ (g : Group) (s : State),
    (s.curve g).length = 8
    ∧ (∀ k : Fin 8, (s.curve g)[k.val]? =
        some (derateTemp (s.cfg (.loop g (.derate k))), derateFactor (s.cfg (.loop g (.derate k)))))
    ∧ (s.settings = [] →
        s.curve g = [(450, 1000), (500, 980), (550, 950), (600, 900), (620, 850), (640, 800), (660, 700),
                     (700, 500)]
        ∧ curveAt (s.curve g) 470 = 992))
  ∧ ∀ (pts : List (Int × Int)) (t : Int), List.Pairwise (fun a b => a.1 < b.1) pts →
      (∀ first rest, pts = first :: rest → t < first.1 → curveAt pts t = first.2)
      ∧ (∀ before last, pts = before ++ [last] → last.1 ≤ t → curveAt pts t = last.2)
      ∧ (∀ before a b after, pts = before ++ a :: b :: after → a.1 ≤ t → t < b.1 →
          curveAt pts t = a.2 + (b.2 - a.2) * (t - a.1) / (b.1 - a.1))
      ∧ ∀ lo hi : Int, pts ≠ [] → (∀ q ∈ pts, lo ≤ q.2 ∧ q.2 ≤ hi) → lo ≤ curveAt pts t ∧ curveAt pts t ≤ hi

/-- COOLING_SENSOR, a change of the sensor fault field (R75), and the evaluation of the loop that it goes on with
from step 1 (R73, R74, R76 to R79, R81, R84), for a fitted group whose evaluation a sample taken apart has left
there (log 2): the field follows the condition, and COOLING_SENSOR is posted with the field and the channels at
fault; factors, loop factor, capacity, cooling state and dwell are formed, and a change of the cooling state posts
COOLING_STATE with the loop factor; unless a cooling stop falls due, the
stage follows, which is 3 while the field is YES and is found from the thresholds once the fault has ended, and an
unloading has its timer advanced and its level tested. That the bits of the channels byte which R186 does not name
are 0 is the model's choice (log 42). Otherwise nothing happens. -/
def Obligations.SensorFaultFollowsTheInvalidRuns : Prop :=
  ∀ (g : Group) (s : State),
    let was := (s.coolOf g).loop
    let c := (s.coolOf g).cap
    let temp := (s.chan (toChan g)).value
    let outlet := decide (100 ≤ (s.chan (toChan g)).invalidRun)
    let flow := decide (100 ≤ (s.chan (flChan g)).invalidRun)
    let fault := outlet || flow
    let due := s.fitted g = true ∧ (s.coolOf g).left = .sensor ∧ fault ≠ was.fault
    (¬ due → exec (.coolingSensor g) s = .next s)
    ∧ (due →
      ∃ t, exec (.coolingSensor g) s = .next t
        ∧ Touches [.cool, .energy, .events, .reg, .link] s t
        ∧ (let l := (t.coolOf g).loop
           let now := (t.coolOf g).cap
           let begun := if was.state = .critical ∧ l.state ≠ .critical then false else was.begun
           let stops := s.StopFallsDue g l.dwell begun
           let held := { c with capacity := now.capacity, credit := min c.credit now.capacity }
           l.fault = fault
           ∧ s.LoopFormed g was l temp (s.chan (flChan g)).value
           ∧ s.CoolStateTold t g was l
           ∧ l.begun = begun
           ∧ now.capacity = s.cfgN (.group g .rated) * l.factor / 1000
           ∧ (stops → (t.coolOf g).left = .stop ∧ l.stage = was.stage ∧ now = held
               ∧ (t.unit g).stage = (s.unit g).stage)
           ∧ (¬ stops → (t.coolOf g).left = .none ∧ l.stage = s.stageAfter g fault was.stage temp
               ∧ now = s.unloadingAfter g (s.chan (gcChan g)) true held
               ∧ (t.unit g).stage =
                   (if l.stage = was.stage then (s.unit g).stage else (s.unit g).stage.written l.stage)
               ∧ (c.unloading = true → now.unloading = false →
                   ∀ x, (s.unit g).command = some x → x.kind = .stop →
                     (t.unit g).command = some { x with sendable := true })))
        ∧ t.Tells .coolingSensor g.num
            [[if fault then 1#8 else 0#8], beBytes 1 (outlet.toNat + 2 * flow.toNat)]
        ∧ ∀ g', g' ≠ g → t.coolOf g' = s.coolOf g' ∧ (t.unit g').command = (s.unit g').command
            ∧ (t.unit g').stage = (s.unit g').stage)

/-- COOLING_STOP, a cooling stop (R78, R83, R98), and the steps 6 and 7 that follow it (R73, R79, R84), for a fitted
group whose evaluation a sample taken apart has left there (log 2), its dwell having reached CRIT_DWELL and none
being begun in the episode: stop begun is YES; an allocatable group begins to unload, or goes on unloading; a
STOP of origin COOLING is handed over unless the group is STOPPED, STOPPING or TRIPPED, and enters an empty slot
waiting for the unloading; COOLING_STOP is posted. Then the stage is found, and the unloading has its timer
advanced and its level tested, which for an unloading begun here is an inference (log 26), an end releasing the STOP.
That a STOP not SENT is kept whatever the reset flag says, that another command not SENT stands, with the cooling stop
pending, while the flag is set, and that a cooling stop pending mark stands when a STOP takes the place of a command,
is the model's choice (log 9). Otherwise nothing happens. -/
def Obligations.CoolingStopUnloadsAndHandsOverAStop : Prop :=
  ∀ (g : Group) (s : State),
    let l := (s.coolOf g).loop
    let temp := (s.chan (toChan g)).value
    let due := s.fitted g = true ∧ (s.coolOf g).left = .stop ∧ s.StopFallsDue g l.dwell l.begun
    (¬ due → exec (.coolingStop g) s = .next s)
    ∧ (due →
      let st := (s.unit g).record.state
      let handed := st = .starting ∨ st = .running ∨ st = .unknown
      let unloads := s.unloadingBegun g (s.coolOf g).cap
      let stage := s.stageAfter g l.fault l.stage temp
      let ended := unloads.unloading = true ∧ s.LevelReached g (s.chan (gcChan g))
      ∃ t, exec (.coolingStop g) s = .next t
        ∧ Touches [.cool, .energy, .events, .reg, .link] s t
        ∧ t.coolOf g = { loop := { l with begun := true, stage := stage },
                         cap := s.unloadingAfter g (s.chan (gcChan g)) true unloads, left := .none }
        ∧ (∀ g', g' ≠ g → t.coolOf g' = s.coolOf g')
        ∧ (t.unit g).stage = (if stage = l.stage then (s.unit g).stage else (s.unit g).stage.written stage)
        ∧ (¬ handed → (t.unit g).command = ((s.unit g).command.map fun x => x.released ended)
            ∧ (t.unit g).coolPending = (s.unit g).coolPending)
        ∧ (handed → (s.unit g).command = none → (s.unit g).resetFlag = none →
            (t.unit g).command = some { kind := .stop, origin := .cooling, state := .waiting, seq := 0,
                                        firstSent := none, sendable := !(t.coolOf g).cap.unloading }
            ∧ (t.unit g).coolPending = (s.unit g).coolPending)
        ∧ (handed → (s.unit g).command = none → (s.unit g).resetFlag ≠ none →
            (t.unit g).command = none ∧ (t.unit g).coolPending = true)
        ∧ (handed → ∀ x, (s.unit g).command = some x → x.kind = .stop → x.state ≠ .sent →
            (t.unit g).command = some (x.released ended)
            ∧ (t.unit g).coolPending = (s.unit g).coolPending)
        ∧ (handed → (s.unit g).resetFlag = none → ∀ x, (s.unit g).command = some x → x.state ≠ .sent →
            x.kind = .start ∨ x.kind = .resetTrip ∨ x.kind = .capture →
            (∃ y, (t.unit g).command = some y ∧ y.kind = .stop ∧ y.origin = .cooling ∧ y.state = .waiting
              ∧ y.sendable = !(t.coolOf g).cap.unloading)
            ∧ (t.unit g).coolPending = (s.unit g).coolPending
            ∧ t.Tells .orderFailed g.num
                [beBytes 1 x.origin.code, beBytes 1 x.origin.tag, beBytes 1 x.kind.orderCode, beBytes 1 x.seq,
                 [4#8], [0#8]])
        ∧ (handed → ∀ x, (s.unit g).command = some x →
            x.state = .sent ∨ x.kind = .groupReset ∨ (x.kind ≠ .stop ∧ (s.unit g).resetFlag ≠ none) →
            (t.unit g).command = some (x.released ended) ∧ (t.unit g).coolPending = true)
        ∧ (t.unit g).resetFlag = (s.unit g).resetFlag
        ∧ t.Tells .coolingStop g.num [beSigned 2 temp, if handed then [1#8] else [0#8]])

/-- An unloading ended by TIME (R82, R84, R97): it falls due for a fitted group when the unload timer has
reached G_UNLOAD_TIME and the level test fails. The phase becomes NONE with cause TIME, and the STOP that waits
on it becomes SENDABLE. Otherwise nothing happens. -/
def Obligations.UnloadingEndsByTime : Prop :=
  ∀ (g : Group) (s : State),
    let c := (s.coolOf g).cap
    let gc := s.chan (gcChan g)
    let level := gc.valid = true ∧ gc.value ≤ s.cfg (.group g .unloadLevel)
    let due := s.fitted g = true ∧ c.unloading = true ∧ ¬ level ∧ s.cfgN (.group g .unloadTime) * 10 ≤ c.timer
    (¬ due → exec (.unloadTimeEnd g) s = .next s)
    ∧ (due →
      ∃ t, exec (.unloadTimeEnd g) s = .next t
        ∧ Touches [.cool, .energy, .events, .reg, .link] s t
        ∧ (t.coolOf g).cap = { c with unloading := false, lastEnd := .time }
        ∧ (t.coolOf g).loop = (s.coolOf g).loop
        ∧ (∀ g', g' ≠ g → t.coolOf g' = s.coolOf g')
        ∧ (t.unit g).command = ((s.unit g).command.map fun x =>
            if x.kind = .stop then { x with sendable := true } else x)
        ∧ (t.unit g).record = (s.unit g).record
        ∧ (s.regulating = false → t.reg = s.reg ∧ t.energy = s.energy)
        ∧ (s.allocatable g = true → t.effective g = min c.capacity c.credit))

/-! ### The rectifier group link -/

/-- START, RESET_TRIP, CAPTURE and GROUP_RESET taken from the line computer (R96). The first three enter the
empty slot of a fitted group as WAITING with the request's TAG, and the reply is QUEUED with group and kind;
CAPTURE needs no ENGINEER authority, and START is not taken in SAFE. GROUP_RESET enters an empty slot likewise,
takes the place of a command that is not SENT, which completes SUPERSEDED, and waits behind a SENT command in
the reset flag, a GROUP_RESET that stood there completing SUPERSEDED first. That both the command not SENT and the
GROUP_RESET in a set flag complete, in this order, and that a cooling stop pending mark stands as it is when a
GROUP_RESET takes the place of a command, is the model's choice (log 8). -/
def Obligations.GroupOrderEntersTheSlot : Prop :=
  (∀ (f : Frame) (rest : List Frame) (s : State) (g : Group) (num : Byte), s.Admits .groupOrder f rest →
     num.toNat = g.num → s.fitted g = true → (s.unit g).command = none →
     let fresh := fun kind : CmdKind =>
       { kind := kind, origin := .linkRequest f.tag, state := .waiting, seq := 0, firstSent := none,
         sendable := true : Command }
     let entered := fun kind : CmdKind => s.taken.setUnit g { s.unit g with command := some (fresh kind) }
     (f.payload = [num, 1#8] → s.engineer f = true → s.sup.state ≠ .safe →
       exec .groupOrderStart s = .next ((entered .start).answer f true ⟨.queued, [num, 1#8]⟩))
     ∧ (f.payload = [num, 3#8] → s.engineer f = true →
       exec .groupOrderResetTrip s = .next ((entered .resetTrip).answer f true ⟨.queued, [num, 3#8]⟩))
     ∧ (f.payload = [num, 4#8] →
       exec .groupOrderCapture s = .next ((entered .capture).answer f (s.engineer f) ⟨.queued, [num, 4#8]⟩)))
  ∧ (∀ (f : Frame) (rest : List Frame) (s : State) (g : Group) (num : Byte), s.Admits .groupOrder f rest →
       num.toNat = g.num → f.payload = [num, 5#8] → s.engineer f = true → s.fitted g = true →
       let reset := some { kind := .groupReset, origin := .linkRequest f.tag, state := .waiting, seq := 0,
                           firstSent := none, sendable := true : Command }
       let reply := fun u : State => exec .groupOrderGroupReset s = .next (u.answer f true ⟨.queued, [num, 5#8]⟩)
       let superseded := fun (u : State) (origin : Origin) (kind : CmdKind) (seq : Nat) =>
         u.post .orderFailed g.num
           [beBytes 1 origin.code, beBytes 1 origin.tag, beBytes 1 kind.orderCode, beBytes 1 seq, [4#8], [0#8]]
       let dropped := fun u : State => match (s.unit g).resetFlag with
         | none => u
         | some o => superseded u o .groupReset 0
       ((s.unit g).command = none → reply (s.taken.setUnit g { s.unit g with command := reset }))
       ∧ ∀ x, (s.unit g).command = some x →
         (x.state = .sent →
             reply ((dropped s.taken).setUnit g { s.unit g with resetFlag := some (.linkRequest f.tag) }))
         ∧ (x.state ≠ .sent →
             reply ((dropped (superseded s.taken x.origin x.kind x.seq)).setUnit g
               { s.unit g with command := reset, resetFlag := none })))

/-- STOP taken from the line computer (R83, R96, R97): for a group that is not allocatable it enters the slot
SENDABLE and nothing else changes; for an allocatable group it enters in WAITING_UNLOAD and the group begins
to unload with origin LINK_REQUEST, or goes on unloading. -/
def Obligations.StopOrderUnloadsAnAllocatableGroup : Prop :=
  ∀ (f : Frame) (rest : List Frame) (s : State) (g : Group) (num : Byte), s.Admits .groupOrder f rest →
    num.toNat = g.num → f.payload = [num, 2#8] → s.engineer f = true → s.fitted g = true →
    s.sup.state ≠ .safe → (s.unit g).command = none →
    let stop := fun sendable : Bool =>
      some { kind := .stop, origin := .linkRequest f.tag, state := .waiting, seq := 0, firstSent := none,
             sendable := sendable : Command }
    (s.allocatable g = false →
      exec .groupOrderStop s
        = .next ((s.taken.setUnit g { s.unit g with command := stop true }).answer f true
            ⟨.queued, [num, 2#8]⟩))
    ∧ (s.allocatable g = true →
      ∃ u, exec .groupOrderStop s = .next (u.answer f true ⟨.queued, [num, 2#8]⟩)
        ∧ Touches [.host, .cool, .energy, .events, .reg, .link] s u
        ∧ (u.unit g).command = stop false
        ∧ u.effective g = 0
        ∧ (let c := (s.coolOf g).cap
           (u.coolOf g).cap =
             if c.unloading then c else { c with unloading := true, origin := .linkRequest, timer := 0 })
        ∧ (s.regulating = true → (s.coolOf g).cap.unloading = false → u.reg.shares.get g = some 0))

/-- The refusals of GROUP_ORDER, in their order (R96): an unknown kind code BAD_VALUE, a group outside 1..6 or
not fitted NO_SUCH, OPERATOR authority for any kind but CAPTURE NOT_PERMITTED, START and STOP in SAFE
WRONG_STATE, an occupied slot for any kind but GROUP_RESET BUSY. A refused order changes nothing. -/
def Obligations.GroupOrdersAreRefusedInOrder : Prop :=
  ∀ (c : Instr) (kind : CmdKind) (f : Frame) (rest : List Frame) (s : State), c.orderKind? = some kind →
    s.Admits .groupOrder f rest →
    let num := field f.payload 0 1
    let code := field f.payload 1 1
    let refused := fun r : Result => exec c s = .next (s.taken.answer f (s.engineer f) ⟨r, []⟩)
    (code = 0 ∨ 5 < code → refused .badValue)
    ∧ (code = kind.code →
      ((∀ g : Group, g.num = num → s.fitted g = false) → refused .noSuch)
      ∧ ∀ g : Group, g.num = num → s.fitted g = true →
        (kind ≠ .capture → s.engineer f = false → refused .notPermitted)
        ∧ ((kind ≠ .capture → s.engineer f = true) →
          ((kind = .start ∨ kind = .stop) → s.sup.state = .safe → refused .wrongState)
          ∧ (((kind = .start ∨ kind = .stop) → s.sup.state ≠ .safe) → kind ≠ .groupReset →
              (s.unit g).command.isSome = true → refused .busy)))

/-- What a group offers the arbiter (R93 to R95, R99), in order of preference: its command when that may be sent,
its share, its stage, a SENSE; and nothing when it is not fitted. ORDER_SEND (R99, R184): on an idle link the
first group counted upward, cyclically, from the one after the last served that has an urgent offer, a
GROUP_RESET or a STOP that may be sent, or any offer when none is urgent, is served under its next SEQ: the frame is sent, the link awaits the reply, and a command becomes SENT with its
time of first sending. With no offer, or on a link that is not idle, nothing happens. -/
def Obligations.ArbiterServesTheNextOffer : Prop :=
  (∀ (g : Group) (s : State),
     let u := s.unit g
     let r := u.record
     let mayCommand := fun c : Command =>
       (c.state = .waiting ∨ c.state = .backoff true) ∧ (c.kind = .stop → c.sendable = true)
         ∧ (c.kind = .start → s.sup.state ≠ .safe)
     let mayShare := u.share.desired ≠ r.ackShare ∧ (s.sup.state = .run ∨ s.sup.state = .hold)
       ∧ s.allocatable g = true ∧ u.share.rejected = false ∧ u.share.deadline ≠ .running
     let mayStage := u.stage.desired ≠ r.ackStage ∧ r.reachable = true ∧ u.stage.rejected = false
       ∧ u.stage.deadline ≠ .running
     let noCommand := ∀ c, u.command = some c → ¬ mayCommand c
     (s.fitted g = false → s.offer g = none)
     ∧ (s.fitted g = true →
       (∀ c, u.command = some c → mayCommand c → s.offer g = some (.command c.kind))
       ∧ (noCommand → mayShare → s.offer g = some (.setShare u.share.desired))
       ∧ (noCommand → ¬ mayShare → mayStage → s.offer g = some (.setStage u.stage.desired))
       ∧ (noCommand → ¬ mayShare → ¬ mayStage → r.senseDue = true →
           (∀ c, u.command = some c → c.state ≠ .sent) → s.offer g = some .sense)
       ∧ (noCommand → ¬ mayShare → ¬ mayStage →
           (r.senseDue = false ∨ ∃ c, u.command = some c ∧ c.state = .sent) → s.offer g = none)))
  ∧ (∀ s : State,
       (s.link.bus ≠ .idle ∨ (∀ g, s.offer g = none) → exec .orderSend s = .next s)
       ∧ (s.link.bus = .idle → ∀ (g : Group) (o : Order), s.offer g = some o →
         let urgent := fun p : Order => p = .command .groupReset ∨ p = .command .stop
         let turn := fun x : Group => (x.num + 5 - s.link.lastServed.num) % 6
         let earlier := fun x : Group => turn x < turn g
         (urgent o ∧ (∀ x p, earlier x → s.offer x = some p → ¬ urgent p)
           ∨ (∀ x, earlier x → s.offer x = none) ∧ (∀ x p, s.offer x = some p → ¬ urgent p)) →
         let seq := ((s.unit g).record.seq + 1) % 256
         let checked := [BitVec.ofNat 8 g.num, BitVec.ofNat 8 o.code, BitVec.ofNat 8 seq,
           BitVec.ofNat 8 o.parameter.length] ++ o.parameter
         let isCommand := match o with
           | .command _ => true
           | .sense | .setShare _ | .setStage _ => false
         let sent := fun c : Command =>
           { c with state := .sent, seq := seq,
                    firstSent := if c.state = .waiting then some ⟨s.energy.time, s.ticks⟩ else c.firstSent }
         ∃ t, exec .orderSend s = .next t
           ∧ Touches [.link] s t
           ∧ t.link.bus = .awaiting
               { group := g, order := o, seq := seq,
                 origin := if isCommand then (s.unit g).command.map (·.origin) else none }
           ∧ t.link.lastServed = g
           ∧ t.link.lastOrder = 0x96#8 :: checked ++ beBytes 2 (crc checked).toNat
           ∧ t.unit g = { s.unit g with
               record := { (s.unit g).record with seq := seq },
               command := if isCommand then (s.unit g).command.map sent else (s.unit g).command }
           ∧ ∀ g', g' ≠ g → t.unit g' = s.unit g'))

/-- A valid reply, of whatever condition (R89, R100 to R102, R108, R184): the group record takes the state, the
current, the LOCAL bit and reachability; the acknowledged share and stage are those accepted, the share 0 in a
state that holds none; a capture is recorded; each change is posted; and the link is idle with the sense
timer restarted. A change of allocatability or frozenness, and the cancelling of an unloading, are told as R91 and
R130 lay down (R13, R80, R85). No other group's record or command changes. Values outside the ranges of R88, R102
and R184 are recorded as carried, which is read from R101 by inference (log 29). -/
def Obligations.ValidReplyUpdatesTheGroupRecord : Prop :=
  ∀ (s : State) (o : InFlight) (condition status state : Byte) (st : GroupState) (current : Nat)
    (capture : List Byte), s.link.bus = .awaiting o → o.Answers condition state st current capture →
    let g := o.group
    let r := (s.unit g).record
    let accepted := condition = 0#8
    let isLocal := status.getLsbD 3
    ∃ t, exec (.groupReply (o.reply condition status state current capture)) s = .next t
      ∧ Touches [.cool, .sup, .energy, .events, .reg, .link] s t
      ∧ t.link.bus = .idle ∧ (t.unit g).senseTimer = true
      ∧ (t.unit g).record =
          { state := st, reachable := true, isLocal := isLocal, current := current, trip := r.trip,
            ackShare :=
              if st = .stopped ∨ st = .stopping ∨ st = .tripped then 0
              else match o.order with
                | .setShare v => if accepted then v else r.ackShare
                | .command .start => if accepted then 0 else r.ackShare
                | .command _ | .sense | .setStage _ => r.ackShare,
            ackStage := match o.order with
              | .setStage v => if accepted then v else r.ackStage
              | .command _ | .sense | .setShare _ => r.ackStage,
            senseDue := false, seq := r.seq,
            capture :=
              if o.order = .command .capture ∧ accepted then
                some { angle := field capture 0 2, tap := field capture 2 1, voltage := field capture 3 4,
                       alarms := field capture 7 2, time := s.energy.time, seq := o.seq }
              else r.capture }
      ∧ (st ≠ r.state → t.Tells .groupState g.num [beBytes 1 st.code, beBytes 1 r.state.code])
      ∧ (st = .tripped → r.state ≠ .tripped → t.Tells .groupTrip g.num [[2#8], [if r.trip then 1#8 else 0#8]])
      ∧ (isLocal ≠ r.isLocal → t.Tells .groupLocal g.num [[if isLocal then 1#8 else 0#8]])
      ∧ (r.reachable = false → t.Tells .groupUnreachable g.num [[1#8]])
      ∧ (r.state = .running → st ≠ .running → (s.coolOf g).cap.unloading = true →
          (t.coolOf g).cap.unloading = false ∧ (t.coolOf g).cap.lastEnd = .notRunning)
      ∧ s.CarriageTold t
          (decide (r.state = .running ∧ st ≠ .running ∧ (s.coolOf g).cap.unloading = true))
      ∧ ∀ g', g' ≠ g → (t.unit g').record = (s.unit g').record ∧ (t.unit g').command = (s.unit g').command

/-- A valid reply and the item it answers (R98, R102 to R104, R106, R107). For a command, ACCEPTED and REJECTED
complete it, with its event; BUSY defers it, or completes it BUSY_TIMEOUT, or WITHDRAWN for a START in SAFE. A
completion resolves what waits behind the command, with the state that the reply carries: a set reset flag places its
GROUP_RESET in the slot and clears, and otherwise a cooling stop pending becomes a STOP or is dropped. For SET_SHARE and SET_STAGE, in a reply that leaves the group as it was,
REJECTED sets the slot's mark while its desired value is still the one sent, and posts ORDER_FAILED with the
value; BUSY sets the slot's backoff deadline; the command slot and the other slot do not change. That the 2 s
since the first sending are 20 boundaries is the model's (log 7), and that BUSY_TIMEOUT comes before WITHDRAWN
(log 10). -/
def Obligations.ReplySettlesTheItemSent : Prop :=
  (∀ (s : State) (o : InFlight) (status state : Byte) (st : GroupState) (current : Nat) (capture : List Byte)
     (x : Command), s.link.bus = .awaiting o → o.order = .command x.kind →
     (s.unit o.group).command = some x → x.state = .sent →
     let g := o.group
     let completed := fun t : State => (s.unit g).Settled (t.unit g) st (t.coolOf g).cap.unloading
     let value := fun (outcome bits : Byte) =>
       [beBytes 1 x.origin.code, beBytes 1 x.origin.tag, beBytes 1 x.kind.orderCode, beBytes 1 x.seq, [outcome],
        [bits]]
     let reply := fun condition : Byte => exec (.groupReply (o.reply condition status state current capture)) s
     (o.Answers 0#8 state st current capture →
       ∃ t, reply 0#8 = .next t ∧ completed t
         ∧ (x.origin ≠ .cooling → t.Tells .orderDone g.num (value 0#8 0#8)))
     ∧ (o.Answers 1#8 state st current capture →
       ∃ t, reply 1#8 = .next t ∧ completed t ∧ t.Tells .orderFailed g.num (value 1#8 status))
     ∧ (o.Answers 2#8 state st current capture →
       let late := ∃ first, x.firstSent = some first ∧ first.tick + 20 ≤ s.ticks
       let withdrawn := x.kind = .start ∧ s.sup.state = .safe
       ∃ t, reply 2#8 = .next t
         ∧ (late → completed t ∧ t.Tells .orderFailed g.num (value 2#8 0#8))
         ∧ (¬ late → withdrawn → completed t ∧ t.Tells .orderFailed g.num (value 5#8 0#8))
         ∧ (¬ late → ¬ withdrawn → ∃ y, (t.unit g).command = some y ∧ y.state = .backoff false
             ∧ y.kind = x.kind ∧ y.origin = x.origin ∧ y.seq = x.seq ∧ y.firstSent = x.firstSent
             ∧ (t.unit g).resetFlag = (s.unit g).resetFlag ∧ (t.unit g).coolPending = (s.unit g).coolPending)))
  ∧ (∀ (s : State) (o : InFlight) (status state : Byte) (st : GroupState) (current v : Nat),
       s.link.bus = .awaiting o →
       (s.unit o.group).record.state = st → (s.unit o.group).record.isLocal = status.getLsbD 3 →
       (s.unit o.group).record.reachable = true →
       let g := o.group
       let u := s.unit g
       let reply := fun condition : Byte => exec (.groupReply (o.reply condition status state current [])) s
       let mark := fun slot : ValueSlot => { slot with rejected := slot.rejected || decide (slot.desired = v) }
       (o.order = .setShare v →
         (o.Answers 1#8 state st current [] → ∃ t, reply 1#8 = .next t
           ∧ (t.unit g).share = mark u.share ∧ (t.unit g).stage = u.stage ∧ (t.unit g).command = u.command
           ∧ t.Tells .orderFailed g.num [[2#8], beBytes 1 o.seq, [status], beBytes 4 v])
         ∧ (o.Answers 2#8 state st current [] → ∃ t, reply 2#8 = .next t
           ∧ (t.unit g).share = { u.share with deadline := .running } ∧ (t.unit g).stage = u.stage
           ∧ (t.unit g).command = u.command))
       ∧ (o.order = .setStage v →
         (o.Answers 1#8 state st current [] → ∃ t, reply 1#8 = .next t
           ∧ (t.unit g).stage = mark u.stage ∧ (t.unit g).share = u.share ∧ (t.unit g).command = u.command
           ∧ t.Tells .orderFailed g.num [[3#8], beBytes 1 o.seq, [status], beBytes 4 v])
         ∧ (o.Answers 2#8 state st current [] → ∃ t, reply 2#8 = .next t
           ∧ (t.unit g).stage = { u.stage with deadline := .running } ∧ (t.unit g).share = u.share
           ∧ (t.unit g).command = u.command)))

/-- A frame on the group link that is no valid reply is discarded and changes nothing (R101, R184): one
received while no order is in flight, or whose SYNC, address, KIND, SEQ, condition, state, length or CRC is not
that of a reply to the order in flight. At the end of a reply window (R100, R105, R106, R109) with an order in
flight the group becomes unreachable, told when it was reachable, its command in flight completes LOST, which
resolves what waits behind it (R98), and the link is idle with the sense timer restarted; the state, the current and the acknowledged values last
reported stand; a change of allocatability and frozenness is told (R13, R80, R91, R130). The window of a discarded
order only frees the link. -/
def Obligations.WindowWithoutAValidReplyMakesTheGroupUnreachable : Prop :=
  (∀ (s : State) (bytes : List Byte),
     ((∀ o, s.link.bus ≠ .awaiting o) → exec (.groupReply bytes) s = .next s)
     ∧ ∀ o, s.link.bus = .awaiting o →
       (bytes.getD 0 0#8 ≠ 0x96#8 ∨ field bytes 1 1 ≠ o.group.num + 0x80 ∨ field bytes 2 1 ≠ o.order.code
         ∨ field bytes 3 1 ≠ o.seq ∨ 2 < field bytes 4 1 ∨ field bytes 6 1 = 0 ∨ 5 < field bytes 6 1
         ∨ bytes.length ≠ (if o.order = .command .capture ∧ field bytes 4 1 = 0 then 22 else 13)
         ∨ crcGood (bytes.drop 1) = false) →
       exec (.groupReply bytes) s = .next s)
  ∧ (∀ s : State,
       (s.link.bus = .idle → exec .replyWindowExpiry s = .next s)
       ∧ (s.link.bus = .draining →
         exec .replyWindowExpiry s = .next (s.setLink { s.link with bus := .idle }))
       ∧ ∀ o, s.link.bus = .awaiting o →
         let g := o.group
         let u := s.unit g
         ∃ t, exec .replyWindowExpiry s = .next t
           ∧ Touches [.cool, .sup, .energy, .events, .reg, .link] s t
           ∧ t.link.bus = .idle ∧ (t.unit g).senseTimer = true
           ∧ (t.unit g).record = { u.record with reachable := false, senseDue := false }
           ∧ (u.record.reachable = true → t.Tells .groupUnreachable g.num [[0#8]])
           ∧ (∀ x, o.order = .command x.kind → u.command = some x →
               u.Settled (t.unit g) u.record.state (t.coolOf g).cap.unloading
               ∧ t.Tells .orderFailed g.num
                   [beBytes 1 x.origin.code, beBytes 1 x.origin.tag, beBytes 1 x.kind.orderCode, beBytes 1 x.seq,
                    [3#8], [0#8]])
           ∧ ((∀ k, o.order ≠ .command k) → (t.unit g).command = u.command
               ∧ (t.unit g).resetFlag = u.resetFlag ∧ (t.unit g).coolPending = u.coolPending)
           ∧ (s.allocatable g = true → t.frozen g = true ∧ (t.coolOf g).cap.credit = 0)
           ∧ s.CarriageTold t false
           ∧ ∀ g', g' ≠ g → (t.unit g').record = (s.unit g').record ∧ (t.unit g').command = (s.unit g').command)

/-- The backoff deadlines and the sense timer (R100, R104): a deadline that passes makes the command in backoff,
or the slot, offerable again; a running sense timer of a fitted group that expires makes sense due and
stops. Nothing else changes. -/
def Obligations.LinkTimersMakeOffersDue : Prop :=
  ∀ (g : Group) (s : State),
    let u := s.unit g
    (∀ x passed, u.command = some x → x.state = .backoff passed →
      exec (.backoffDeadline g .command) s
        = .next (s.setUnit g { u with command := some { x with state := .backoff true } }))
    ∧ (u.share.deadline = .running →
      exec (.backoffDeadline g .share) s
        = .next (s.setUnit g { u with share := { u.share with deadline := .passed } }))
    ∧ (u.stage.deadline = .running →
      exec (.backoffDeadline g .stage) s
        = .next (s.setUnit g { u with stage := { u.stage with deadline := .passed } }))
    ∧ (s.fitted g = true → u.senseTimer = true →
      exec (.senseTimerExpiry g) s
        = .next (s.setUnit g { u with record := { u.record with senseDue := true }, senseTimer := false }))
    ∧ (s.fitted g = false ∨ u.senseTimer = false → exec (.senseTimerExpiry g) s = .next s)

/-- A trip input event (R13, R80, R85, R90, R91, R97, R108, R130): the registered level changes, and for a fitted group GROUP_TRIP is
posted, an asserted input cancels an unloading in progress with cause TRIP and releases the STOP waiting on
it, the group is no longer allocatable or frozen, what changes is told, and one out-of-turn cycle is run whether or
not anything does. For a group that is not fitted, and for a level already registered, nothing else happens. -/
def Obligations.TripInputCancelsTheUnloading : Prop :=
  ∀ (g : Group) (level : Bool) (s : State),
    let u := s.unit g
    let c := (s.coolOf g).cap
    (level = u.record.trip → exec (.tripInputEvent g level) s = .next s)
    ∧ (level ≠ u.record.trip → ∃ t, exec (.tripInputEvent g level) s = .next t
      ∧ Touches [.cool, .sup, .energy, .events, .reg, .link, .pins] s t
      ∧ t.pins = { s.pins with trip := s.pins.trip.set g level }
      ∧ (t.unit g).record = { u.record with trip := level }
      ∧ (∀ g', g' ≠ g → (t.unit g').record = (s.unit g').record ∧ (t.unit g').command = (s.unit g').command)
      ∧ (s.fitted g = false → t.unit g = { u with record := { u.record with trip := level } }
          ∧ t.cool = s.cool ∧ t.events = s.events ∧ t.reg = s.reg ∧ t.sup = s.sup ∧ t.energy = s.energy)
      ∧ (s.fitted g = true →
        t.Tells .groupTrip g.num [[1#8], [if level then 1#8 else 0#8]]
        ∧ (level = true → t.allocatable g = false ∧ t.frozen g = false ∧ (t.coolOf g).cap.unloading = false
            ∧ (c.unloading = true → (t.coolOf g).cap.lastEnd = .trip
                ∧ ∀ x, u.command = some x → x.kind = .stop →
                    (t.unit g).command = some { x with sendable := true }))
        ∧ (s.allocatable g = true → (t.coolOf g).cap.credit = 0))
      ∧ s.CarriageTold t (s.fitted g))

/-! ### Pot scanning and the anode effect monitor -/

/-- SET_SCAN_TABLE (R33 to R35, R53): outside SETUP it is refused LOCKED; a count of 0 or above 32, an entry whose
own fields are wrong, or a pair of entries in conflict is refused BAD_VALUE with the index of R34; a refused
table changes nothing. Otherwise the table is installed, a pass running is abandoned, and every pot record is
brought into line with it; that the covering entry of a pot left out goes back to 0 is the model's (log 19). -/
def Obligations.ScanTableIsInstalledOrRefused : Prop :=
  ∀ (f : Frame) (rest : List Frame) (s : State), s.Admits .setScanTable f rest → s.MapKept →
    let n := field f.payload 0 1
    let table := readScanEntries n (f.payload.drop 1)
    let entry := fun i => table.getD i ⟨0, 0, 0, 0⟩
    let right := fun e : ScanEntry =>
      1 ≤ e.module ∧ e.module ≤ 31 ∧ e.firstChan ≤ 15 ∧ 1 ≤ e.count ∧ e.count ≤ 16
        ∧ e.firstChan + e.count ≤ 16 ∧ 1 ≤ e.firstPot ∧ e.firstPot + e.count - 1 ≤ 384
    let covers := fun (e : ScanEntry) (p : Nat) => e.firstPot ≤ p ∧ p < e.firstPot + e.count
    let uses := fun (e : ScanEntry) (c : Nat) => e.firstChan ≤ c ∧ c < e.firstChan + e.count
    let conflict := fun i j : Nat =>
      (∃ p, covers (entry i) p ∧ covers (entry j) p)
        ∨ (entry i).module = (entry j).module ∧ ∃ c, uses (entry i) c ∧ uses (entry j) c
    let reply := fun (u : State) (r : Result) (body : List Byte) => u.answer f true ⟨r, body⟩
    let bad := fun i : Nat => exec .setScanTable s = .next (reply s.taken .badValue (beBytes 1 i))
    (s.sup.state ≠ .setup → exec .setScanTable s = .next (reply s.taken .locked []))
    ∧ (s.sup.state = .setup →
      (n = 0 ∨ 32 < n → bad 0xFF)
      ∧ (1 ≤ n → n ≤ 32 →
        table.length = n
        ∧ (∀ i < n, ¬ right (entry i) → (∀ j < i, right (entry j)) → bad i)
        ∧ ((∀ i < n, right (entry i)) →
          (∀ i j, i < j → j < n → conflict i j →
            (∀ i' j', i' < j' → j' < n → i' < i ∨ i' = i ∧ j' < j → ¬ conflict i' j') → bad j)
          ∧ ((∀ i j, i < j → j < n → ¬ conflict i j) →
            ∃ u, exec .setScanTable s = .next (reply u .ok [])
              ∧ Touches [.host, .scan, .pots, .ae, .events] s u
              ∧ u.scan = { s.scan with pass := none, table := table }
              ∧ ∀ p, 1 ≤ p → p ≤ 384 →
                let x := s.pot p
                let y := u.pot p
                (∀ i < n, covers (entry i) p →
                  y = if x.fitted then { x with entry := i }
                      else { Pot.initial with fitted := true, entry := i,
                                              ae := { PotAe.initial with state := .unmonitored } })
                ∧ ((∀ i < n, ¬ covers (entry i) p) →
                  (x.fitted = false → y = x)
                  ∧ (x.fitted = true →
                    y = { Pot.initial with ae := { x.ae with
                            state := .out, frozen := if x.ae.state.inAe then false else x.ae.frozen } }
                    ∧ (x.ae.state.inAe = true → u.ae.flag p = false)))))))

/-- Scan passes (R37 to R41, R45 to R48, R185). The scan period timer counts the boundaries; at its end it starts
anew, an expiry being left to its own command by a sample taken apart (log 2). An expiry, taken whenever it is given
(log 32), starts a pass at entry 0 or, with SCAN_ROTATE, at the rotation register modulo the number of entries, and
sends the first poll; a running pass counts a skip; an empty table starts none. When the outcome of a poll has been
taken the next entry is polled, or the pass ends and, with TEL_ENABLE = 1 and an empty report buffer, its reports are
built: one pot entry for each pot in polling order, in segments of at most 128, with the data bits of TEL_DATA and the
tag bits of the four slots, PARITY making the ones even. With no pass running an outcome is discarded; a reply that
comes while one runs is taken as its poll's outcome (log 33); a pass that ends while a segment is left is not
reported, after TEL_ENABLE 0 and 1 too (log 34). A good reply gives its pots fresh readings in channel
order. -/
def Obligations.PassesPollEveryEntryInTurn : Prop :=
  ∀ s : State,
    let c := s.scan
    let count := c.table.length
    let entry := fun i => c.table.getD i ⟨0, 0, 0, 0⟩
    let poll := fun e : ScanEntry =>
      let checked := beBytes 1 e.module ++ beBytes 1 e.firstChan ++ beBytes 1 e.count
      0x69#8 :: checked ++ beBytes 2 (crc checked).toNat
    let up := fun n : Nat => if n < 65535 then n + 1 else 65535
    let total := (c.table.map (·.count)).sum
    let polled := fun p : Pass => (List.range count).flatMap fun i =>
      let e := entry ((p.start + i) % count)
      (List.range e.count).map fun k => (e.firstPot + k, k)
    let data := fun (u : State) (j pot : Nat) =>
      match u.cfgN .telData with
      | 0 => BitVec.ofNat 16 (u.pot pot).lastVoltage
      | 1 => BitVec.ofNat 16 j
      | 2 => u.scan.upPass
      | 3 => 0x0F0F#16
      | 4 => 0xF0F0#16
      | 5 => 0x0000#16
      | _ => 0xFFFF#16
    let source := fun (u : State) (j : Nat) (x : Nat × Nat) (slot : Fin 4) =>
      let y := u.pot x.1
      [false, j == 0, x.2 == 0, u.ae.flag x.1, y.ae.state == .pending || y.ae.state == .suspect, y.cutOut,
       y.staleNow, y.status == .overrange && !y.staleNow, y.ae.state.inAe && y.ae.quench, false,
       y.ae.state == .recovering, y.ae.frozen].getD (u.cfgN (.telSlot slot)) false
    let filled := fun (u : State) (j : Nat) (x : Nat × Nat) (e : PotEntry) =>
      let ones := ((List.range 16).filter fun k => e.data.getLsbD k).length
        + ((List.finRange 4).filter fun slot => source u j x slot).length
      e.data = data u j x.1
      ∧ ∀ slot : Fin 4, e.tags.getLsbD slot.val =
          if u.cfgN (.telSlot slot) = 9 then decide (ones % 2 = 1) else source u j x slot
    let goesOn := fun (u t : State) (p : Pass) =>
      (p.done + 1 < count →
        t = u.setScan { u.scan with pass := some { p with done := p.done + 1 },
                                    lastPoll := poll (entry ((p.start + (p.done + 1)) % count)) })
      ∧ (count ≤ p.done + 1 → t.scan.pass = none ∧ Touches [.scan, .host] u t
        ∧ (s.cfg .telEnable ≠ 1 → t = u.setScan { u.scan with pass := none })
        ∧ (s.cfg .telEnable = 1 → u.scan.segments ≠ [] → t.scan.segments = u.scan.segments
            ∧ t.scan.reportSkips = up u.scan.reportSkips)
        ∧ (s.cfg .telEnable = 1 → u.scan.segments = [] → total ≤ 384 →
            t.scan.reportSkips = 0
            ∧ (t.scan.segments.map (·.entries.length)).sum = total
            ∧ t.scan.segments.length = (total + 127) / 128
            ∧ t.scan.upPot = 0xFFFF#16 + BitVec.ofNat 16 total
            ∧ (∀ (k : Nat) (x : Segment), t.scan.segments[k]? = some x → x.index = k)
            ∧ (∀ x ∈ t.scan.segments, x.entries.length ≤ 128 ∧ x.passNumber = c.passNumber
                ∧ x.count = t.scan.segments.length ∧ x.firstEntry = p.start ∧ x.skips = u.scan.reportSkips
                ∧ x.startTime = p.startTime)
            ∧ (p.start < count → ∀ (j : Nat) (x : Nat × Nat), (polled p)[j]? = some x →
                ∃ e, (t.scan.segments.flatMap (·.entries))[j]? = some e ∧ filled u j x e)))
    let expired := fun (time : Time) (c d : Scan) =>
      (∀ p, c.pass = some p → d = { c with periodSkips := up c.periodSkips })
      ∧ (c.pass = none → c.table = [] → d = c)
      ∧ (c.pass = none → c.table ≠ [] → ∃ rotation : BitVec 15,
          (if s.cfg .scanRotate = 1 then
            rotation.getLsbD 0 = (c.rotation.getLsbD 14 ^^ c.rotation.getLsbD 13)
              ∧ ∀ k < 14, rotation.getLsbD (k + 1) = c.rotation.getLsbD k
          else rotation = c.rotation)
          ∧ (let start := if s.cfg .scanRotate = 1 then c.rotation.toNat % count else 0
             d = { c with pass := some ⟨start, 0, time⟩, passNumber := (c.passNumber + 1) % 2 ^ 32,
                          upPass := c.upPass + 1#16, rotation := rotation,
                          lastPoll := poll (entry (start % count)) }))
    (∀ b : Boundary, ∃ t, exec (.lineSample b) s = .next t
      ∧ (2 ≤ c.periodLeft → t.scan = { c with periodLeft := c.periodLeft - 1 })
      ∧ (let anew := { c with periodLeft := s.cfgN .scanPeriod }
         (c.periodLeft ≤ 1 → b.apart = true → t.scan = anew)
         ∧ (c.periodLeft ≤ 1 → b.apart = false → expired t.energy.time anew t.scan)))
    ∧ (∃ d, exec .scanPeriodExpiry s = .next (s.setScan d) ∧ expired s.energy.time c d)
    ∧ (c.pass = none → exec .pollWindowExpiry s = .next s ∧ ∀ bytes, exec (.moduleReply bytes) s = .next s)
    ∧ ∀ p, c.pass = some p →
      let e := entry ((p.start + p.done) % count)
      (∃ u t, exec .pollWindowExpiry s = .next t ∧ Touches [.pots, .ae, .events] s u ∧ goesOn u t p)
      ∧ (∀ bytes, ∃ u t, exec (.moduleReply bytes) s = .next t
          ∧ Touches [.pots, .ae, .events, .energy] s u ∧ goesOn u t p)
      ∧ ∀ readings : List (Word16 × Byte), readings.length = e.count → e.count < 256 → e.module < 128 →
        (∀ x ∈ readings, x.2 = 0#8 ∨ x.2 = 2#8) →
        let checked := [BitVec.ofNat 8 (e.module + 0x80), BitVec.ofNat 8 e.count]
          ++ readings.flatMap fun x => beBytes 2 x.1.toNat ++ [x.2]
        let u := readings.zipIdx.foldl (fun u x =>
          if x.1.2 = 2#8 then u.freshReading (e.firstPot + x.2) 65535 .overrange
          else u.freshReading (e.firstPot + x.2) x.1.1.toNat .ok) s
        ∃ t, exec (.moduleReply (0x69#8 :: checked ++ beBytes 2 (crc checked).toNat)) s = .next t ∧ goesOn u t p

/-- A poll outcome without readings (R41, R42, R62): a window that expires, a reply that is not whole and right,
and one that reports a channel OPEN make every pot of the entry stale, whose other voltage fields are held, and
post SCAN_FAULT; that the lowest channel of cause OPEN is a channel of the module is deduced (log 20). A CONNECTED pot that has been stale three times or more becomes UNMONITORED, its AE closed. Every
other pot is as before. -/
def Obligations.PollWithoutReadingsMakesItsPotsStale : Prop :=
  ∀ (s : State) (p : Pass), s.scan.pass = some p → s.MapKept →
    let i := (p.start + p.done) % s.scan.table.length
    let e := s.scan.table.getD i ⟨0, 0, 0, 0⟩
    1 ≤ e.firstPot → e.firstPot + e.count ≤ 385 → e.count < 256 → e.module < 128 →
    let stale := fun (t : State) (cause : Byte) (lowest : Nat) =>
      t.Tells .scanFault i [[cause], beBytes 1 lowest]
      ∧ ∀ q, 1 ≤ q → q ≤ 384 →
        let x := s.pot q
        let y := t.pot q
        let n := if x.stale < 255 then x.stale + 1 else 255
        let lost := 3 ≤ n ∧ x.cutOut = false ∧ x.ae.state ≠ .unmonitored ∧ x.ae.state ≠ .out
        (¬ (e.firstPot ≤ q ∧ q < e.firstPot + e.count) → y = x)
        ∧ (e.firstPot ≤ q → q < e.firstPot + e.count →
          y = { x with stale := n, staleNow := true, ae := y.ae }
          ∧ (¬ lost → y.ae = x.ae)
          ∧ (lost → y.ae.state = .unmonitored ∧ y.ae.spikes = x.ae.spikes
              ∧ (x.ae.state.inAe = true ∨ x.ae.state = .pending → y.ae.frozen = false)
              ∧ (x.ae.state.inAe = true → t.ae.flag q = false
                  ∧ (t.events.overrun = true ∨ ∃ ev ∈ t.events.entries, ev.kind = .aeEnd ∧ ev.subject = q))))
    (∃ t, exec .pollWindowExpiry s = .next t ∧ stale t 1#8 0)
    ∧ (∀ bytes : List Byte,
        bytes.length ≠ 3 * e.count + 5 ∨ bytes.getD 0 0#8 ≠ 0x69#8 ∨ field bytes 1 1 ≠ e.module + 0x80
          ∨ field bytes 2 1 ≠ e.count ∨ crcGood (bytes.drop 1) = false
          ∨ (∃ k < e.count, 2 < field bytes (5 + 3 * k) 1) →
        ∃ t, exec (.moduleReply bytes) s = .next t ∧ stale t 2#8 0)
    ∧ ∀ (readings : List (Word16 × Byte)) (k : Nat), readings.length = e.count → k < e.count →
        (∀ x ∈ readings, x.2.toNat ≤ 2) → (readings.getD k (0#16, 0#8)).2 = 1#8 →
        (∀ j < k, (readings.getD j (0#16, 0#8)).2 ≠ 1#8) →
        let checked := [BitVec.ofNat 8 (e.module + 0x80), BitVec.ofNat 8 e.count]
          ++ readings.flatMap fun x => beBytes 2 x.1.toNat ++ [x.2]
        ∃ t, exec (.moduleReply (0x69#8 :: checked ++ beBytes 2 (crc checked).toNat)) s = .next t
          ∧ stale t 3#8 (e.firstChan + k)

/-- A fresh reading of a fitted pot (R43, R44, R54 to R59, R64 to R66, R69): the voltage fields, the filter step
and the pseudo-resistance, and the whole anode effect machine of a CONNECTED pot, with what it charges, posts and
closes. The AE count follows a pot that enters or leaves an AE, lamp and hold flag follow the count, and a change of
the hold flag posts AE_HOLD with flag and count. Every other pot is as before. -/
def Obligations.FreshReadingDrivesTheAnodeEffectMachine : Prop :=
  ∀ (s : State) (q v : Nat) (st : ReadStatus), s.MapKept → 1 ≤ q → q ≤ 384 → (s.pot q).fitted = true →
    let t := s.freshReading q v st
    let x := s.pot q
    let y := t.pot q
    let a := x.ae
    let b := y.ae
    let current := s.front.line.current
    let full := 2 ^ 64 - 1
    let up := fun n : Nat => if n < 65535 then n + 1 else 65535
    let taken := { x with lastVoltage := v, status := st, lastFresh := some s.energy.time, stale := 0,
                          staleNow := false }
    let stepped := if x.seeded = false then v else if a.frozen then x.filtered
      else ((x.filtered : Int) + ((v : Int) - x.filtered) / (2 ^ s.cfgN .filterShift : Nat)).toNat
    let resistance := if 10000 ≤ current then (stepped - s.cfgN .backEmf) * 1000000 / current else x.resistance
    let before := if x.seeded then x.filtered else v
    let read := fun filtered : Nat => { taken with seeded := true, filtered := filtered, resistance := resistance }
    let high := s.cfgN .aeOn ≤ v
    let low := v < s.cfgN .aeOff
    let suspect := s.cfgN .suspectRes
    let charged := fun (a : PotAe) =>
      let n := (v - a.vRef) * current * s.cfgN .scanPeriod
      { a with excess := min full (a.excess + n), peak := max a.peak v }
    let charges := fun (vRef : Nat) =>
      let n := (v - vRef) * current * s.cfgN .scanPeriod
      t.ae.excess = if s.ae.excess.saturated then s.ae.excess
        else if full < s.ae.excess.counts + n then ⟨full, true⟩
        else { s.ae.excess with counts := s.ae.excess.counts + n }
    let started := fun (vRef timer : Nat) (start : Time) =>
      b = charged { a with state := .active, vRef := vRef, frozen := true, startTime := start, timer := timer,
                           peak := 0, excess := 0, recover := 0, quench := false, long := false,
                           lifetime := up a.lifetime }
      ∧ charges vRef ∧ t.ae.flag q = true ∧ t.Tells .aeStart q [beBytes 2 v]
    let quiet := t.ae = s.ae
    let member := fun a : PotAe => if a.state.inAe then 1 else 0
    let told := fun u : State => u.events.entries.filter fun e => e.kind == .aeHold
    Touches [.pots, .ae, .events, .energy] s t
    ∧ (t.ae.count + member a = s.ae.count + member b ∧ t.ae.lamp = decide (0 < t.ae.count)
      ∧ t.ae.hold = decide (s.cfgN .aeHoldCount ≤ t.ae.count)
      ∧ (t.ae.hold ≠ s.ae.hold → t.Tells .aeHold 0 [[if t.ae.hold then 1#8 else 0#8], beBytes 2 t.ae.count])
      ∧ (t.ae.hold = s.ae.hold → told t = told s))
    ∧ (∀ r, 1 ≤ r → r ≤ 384 → r ≠ q → t.pot r = s.pot r)
    ∧ (x.cutOut = true → y = taken ∧ t.ae = s.ae ∧ t.events = s.events)
    ∧ (x.cutOut = false →
      (y = { read stepped with ae := b } ∨ y = { read before with ae := b })
      ∧ (a.state = .normal ∨ a.state = .unmonitored → quiet ∧
        (high → y = { read before with ae := { a with state := .pending, frozen := true,
                                                      pendingTime := s.energy.time, timer := 0 } })
        ∧ (¬ high → 0 < suspect → suspect ≤ resistance →
            y = { read stepped with ae := { a with state := .suspect } }
            ∧ t.Tells .potSuspect q [beBytes 4 resistance])
        ∧ (¬ high → suspect = 0 ∨ resistance < suspect →
            y = { read stepped with ae := { a with state := .normal } } ∧ t.events = s.events))
      ∧ (a.state = .suspect →
        (high → y.filtered = before ∧ started before 0 s.energy.time)
        ∧ (¬ high → quiet ∧ y = { read stepped with ae := { a with
              state := if suspect = 0 ∨ resistance + s.cfgN .suspectHyst < suspect then .normal
                       else .suspect } }))
      ∧ (a.state = .pending →
        (high → y.filtered = stepped ∧ started stepped a.timer a.pendingTime)
        ∧ (¬ high → quiet ∧ y = { read stepped with ae := { a with state := .normal, frozen := false,
                                                                   spikes := up a.spikes } }))
      ∧ (a.state = .active → y.filtered = stepped ∧ charges a.vRef
          ∧ b = { charged a with state := if low then .recovering else .active,
                                 recover := if low then 1 else a.recover })
      ∧ (a.state = .recovering → y.filtered = stepped ∧ charges a.vRef
        ∧ (¬ low → b = { charged a with state := .active, recover := 0 })
        ∧ (low → a.recover + 1 < s.cfgN .recoverScans → b = { charged a with recover := a.recover + 1 })
        ∧ (low → s.cfgN .recoverScans ≤ a.recover + 1 →
            b = { charged a with state := .normal, frozen := false, recover := a.recover + 1 }
            ∧ s.AeClosed t q (charged a) .normalEnd)))

/-- The AE timers, QUENCH_REQUEST and AE_LONG (R60, R61). A boundary advances the AE timer of every pot in PENDING,
AE_ACTIVE or RECOVERING by 1, up to the end of its range, where what it does is the model's (log 35) and is left
unsaid. A pot in an AE whose flag is CLEAR and whose AE timer has reached QUENCH_DELAY, or AE_LONG, then has the flag
set and the event posted with the timer as value; a boundary taken apart leaves that to the two commands (log 2),
which do it, and nothing for any other pot. -/
def Obligations.QuenchAndLongAreReportedOncePerAe : Prop :=
  ∀ (s : State) (q : Nat),
    let x := s.pot q
    let inAe := 1 ≤ q ∧ q ≤ 384 ∧ (x.ae.state = .active ∨ x.ae.state = .recovering)
    let quench := inAe ∧ x.ae.quench = false ∧ s.cfgN .quenchDelay * 10 ≤ x.ae.timer
    let long := inAe ∧ x.ae.long = false ∧ s.cfgN .aeLong * 10 ≤ x.ae.timer
    (quench → exec (.quenchRequest q) s
      = .next ((s.setPot q { x with ae := { x.ae with quench := true } }).post .quenchRequest q
          [beBytes 4 x.ae.timer]))
    ∧ (¬ quench → exec (.quenchRequest q) s = .next s)
    ∧ (long → exec (.aeLong q) s
      = .next ((s.setPot q { x with ae := { x.ae with long := true } }).post .aeLong q [beBytes 4 x.ae.timer]))
    ∧ (¬ long → exec (.aeLong q) s = .next s)
    ∧ (1 ≤ q → q ≤ 384 → x.ae.timer < 4294967295 → ∀ b : Boundary, ∃ t, exec (.lineSample b) s = .next t ∧
      let active := x.ae.state = .active ∨ x.ae.state = .recovering
      let timer := if active ∨ x.ae.state = .pending then x.ae.timer + 1 else x.ae.timer
      let requests := active ∧ x.ae.quench = false ∧ s.cfgN .quenchDelay * 10 ≤ timer
      let reports := active ∧ x.ae.long = false ∧ s.cfgN .aeLong * 10 ≤ timer
      let ticked := { x.ae with timer := timer }
      (b.apart = true → t.pot q = { x with ae := ticked })
      ∧ (b.apart = false →
        t.pot q = { x with ae := { ticked with quench := x.ae.quench || decide requests,
                                               long := x.ae.long || decide reports } }
        ∧ (requests → t.Tells .quenchRequest q [beBytes 4 timer])
        ∧ (reports → t.Tells .aeLong q [beBytes 4 timer])))

/-! ### The measurement front end -/

/-- A line sample (R3, R10, R18 to R28, R30, R170): the samples of all channels, the selected current, the line
measurement state with its recovery, the line voltage, and the events they call for; the pins are read, and a
measurement in FAULT in RUN leads to HOLD, where the same boundary registers no SAFE level ASSERTED, which leads to
SAFE (R12). A sample taken apart registers no levels: this split is the model's choice (log 2). LINE_MEAS_RECOVERY is
the boundary that ends a recovery (log 31). -/
def Obligations.LineSampleFormsTheLineMeasurement : Prop :=
  ∀ (b : Boundary) (s : State), exec (.lineMeasRecovery b) s = exec (.lineSample b) s
    ∧ ∃ t, exec (.lineSample b) s = .next t ∧
    let conv := fun n : Fin 27 => b.conversions[n].toList.map (·.toNat)
    let range : Fin 27 → Int × Int := fun n =>
      if n.val = 2 then (0, 2000000) else if n.val < 9 then (0, 650000)
      else if n.val < 21 then (-200, 1500) else (0, 5000)
    let mean := fun n => (conv n).sum / 16
    let sample := fun n : Fin 27 =>
      max (range n).1 (min (range n).2 (s.cfg (.offset n) + (mean n : Int) * s.cfg (.span n) / 65535))
    let valid := fun n => ∀ x ∈ conv n, 16 ≤ x ∧ x ≤ 65534
    let was := s.front.line
    let now := t.front.line
    let a := (t.chan 0).value.toNat
    let d := (t.chan 1).value.toNat
    let va := (t.chan 0).valid
    let vd := (t.chan 1).valid
    let away := fun x y : Nat => (x - y) + (y - x)
    let agree := away a d * 1000 ≤ s.cfgN .lcurTol * max a d
    let fitted := Group.all.filter s.fitted
    let known := fitted ≠ [] ∧ ∀ g ∈ fitted, (t.chan (gcChan g)).valid = true
    let sum := (fitted.map fun g => (t.chan (gcChan g)).value.toNat).sum
    let chosen : Nat × LineState :=
      if va ∧ vd then
        if agree then ((a + d) / 2, .normal)
        else if known then (if away d sum < away a sum then d else a, .disagree)
        else (was.current, .fault)
      else if va then (a, .single) else if vd then (d, .single) else (was.current, .fault)
    let next : LineState × Nat :=
      if was.state = .fault ∧ chosen.2 ≠ .fault ∧ was.recovery < 9 then (.fault, was.recovery + 1)
      else if chosen.2 = .fault then (.fault, 0)
      else (chosen.2, if was.state = .fault then 0 else was.recovery)
    (∀ n : Fin 27,
      (valid n → t.chan n.val = ⟨sample n, true, 0, mean n⟩)
      ∧ (¬ valid n → t.chan n.val = ⟨(s.chan n.val).value, false,
          if (s.chan n.val).invalidRun < 65535 then (s.chan n.val).invalidRun + 1 else 65535, mean n⟩))
    ∧ now = { state := next.1, recovery := next.2, current := chosen.1, voltage := (t.chan 2).value.toNat,
              held := !(t.chan 2).valid, sampleTime := t.energy.time, selection := chosen.2 }
    ∧ (now.state ≠ was.state ∨ now.held ≠ was.held →
        t.Tells .lineMeas 0 [beBytes 1 now.state.code, beBytes 1 was.state.code,
          [if now.held then 1#8 else 0#8]])
    ∧ (now.state = .fault → was.state ≠ .fault →
        t.Tells .lineFault 0 [[if va ∨ vd then 2#8 else 1#8]])
    ∧ t.ticks = s.ticks + 1
    ∧ t.pins = { s.pins with safe := b.safe, utility := b.utility, engKey := b.engKey }
    ∧ (s.sup.state = .run → now.state = .fault →
        b.apart = true ∨ b.safe = false ∨ b.safe = s.sup.safeLevel ∨ s.sup.safeRun = 0 →
        t.sup.state = .hold ∧ t.sup.cause = .measurement ∧ t.Tells .supState 0 [[2#8], [1#8], [5#8]])
    ∧ (b.apart = false →
        (b.safe = !s.sup.safeLevel → 1 ≤ s.sup.safeRun → t.sup.safeLevel = b.safe)
        ∧ (b.safe = s.sup.safeLevel ∨ s.sup.safeRun = 0 → t.sup.safeLevel = s.sup.safeLevel)
        ∧ (b.engKey = !s.host.keyLevel → 1 ≤ s.host.keyRun → t.host.keyLevel = b.engKey)
        ∧ (b.engKey = s.host.keyLevel ∨ s.host.keyRun = 0 → t.host.keyLevel = s.host.keyLevel)
        ∧ (b.utility = true → s.stack.utility = false → 9 ≤ s.stack.assertCount → t.stack.utility = true)
        ∧ (b.utility = false → s.stack.utility = true → 1 ≤ s.stack.releaseCount → t.stack.utility = false)
        ∧ (s.sup.safeLevel = false → t.sup.safeLevel = true → t.sup.state = .safe))

/-! ### The ceiling stack and pot switching -/

/-- The entries of the line computer on the ceiling stack (R112 to R118). PUSH_CEILING: a lifetime above
86,400 s is refused BAD_VALUE and a full stack STACK_FULL; otherwise the entry stands on top under the next free
id, its ceiling and rate clamped, OK or ADJUSTED, and the reply carries the least of its ceiling and the binding
ceilings. POP_CEILING and REMOVE_CEILING take an entry out or are refused as R115 and R116 lay down, and an entry
whose lifetime has run out is removed from wherever it stands. Each change posts STACK_CHANGE; nothing else
changes. A boundary takes 1 from every lifetime, and removes the entries that have run out together, each with its
own event carrying the term of the stack without all of them (log 37), unless it is taken apart, which leaves them to
STACK_ENTRY_EXPIRED (log 2). -/
def Obligations.CeilingsArePushedPoppedRemovedAndExpired : Prop :=
  ∀ (f : Frame) (rest : List Frame) (s : State), s.StackKept →
    let k := s.stack
    let reply := fun (u : State) (r : Result) (body : List Byte) => u.answer f (s.engineer f) ⟨r, body⟩
    let without := fun (u : State) (code : Byte) (e : StackEntry) (left : List StackEntry) =>
      let after := { k with entries := left }
      (u.setStack after).post .stackChange e.id
        [[code], beBytes 1 e.source.code, beBytes 3 e.ceiling, beBytes 3 (after.term.getD 0)]
    let termOf := fun left : List StackEntry => optBytes 4 { k with entries := left : CeilingStack }.term
    (s.Admits .pushCeiling f rest →
      let asked := field f.payload 0 4
      let rate := field f.payload 4 4
      let life := field f.payload 8 4
      let ceiling := min asked s.lineMax
      let stored := if rate = 0 then 0 else max 10 (min 50000 rate)
      let source : Source := if s.engineer f then .engineer else .operator
      let term := ((k.entries.filter fun x => x.source == .utility || x.source == .switching).map
        (·.ceiling)).foldl min ceiling
      (86400 < life → exec .pushCeiling s = .next (reply s.taken .badValue []))
      ∧ (life ≤ 86400 → k.entries.length = 8 → exec .pushCeiling s = .next (reply s.taken .stackFull []))
      ∧ (life ≤ 86400 → k.entries.length < 8 → ∃ id, k.Issues id
          ∧ exec .pushCeiling s
            = .next (reply
                ((s.taken.setStack
                  { k with
                    entries := { id := id, source := source, ceiling := ceiling,
                                 rate := if rate = 0 then none else some stored,
                                 life := if life = 0 then none else some (life * 10),
                                 pushed := s.energy.time } :: k.entries,
                    nextId := id % 255 + 1 }).post .stackChange id
                  [[1#8], beBytes 1 source.code, beBytes 3 ceiling, beBytes 3 term])
                (if ceiling = asked ∧ stored = rate then .ok else .adjusted)
                (beBytes 1 id ++ beBytes 4 ceiling ++ beBytes 4 stored ++ [1#8] ++ beBytes 4 term))))
    ∧ (s.Admits .popCeiling f rest →
      (k.entries = [] → exec .popCeiling s = .next (reply s.taken .stackEmpty []))
      ∧ ∀ (top : StackEntry) (below : List StackEntry), k.entries = top :: below →
        let kept := top.source.binding = true ∨ top.source = .engineer ∧ s.engineer f = false
        (kept → exec .popCeiling s = .next (reply s.taken .notPermitted []))
        ∧ (¬ kept → exec .popCeiling s
            = .next (reply (without s.taken 2#8 top below) .ok
                (beBytes 1 top.id ++ beBytes 4 top.ceiling ++ termOf below))))
    ∧ (s.Admits .removeCeiling f rest →
      let id := field f.payload 0 1
      ((∀ e ∈ k.entries, e.id ≠ id) → exec .removeCeiling s = .next (reply s.taken .noSuch []))
      ∧ ∀ (above : List StackEntry) (e : StackEntry) (below : List StackEntry),
        k.entries = above ++ e :: below → e.id = id →
        (e.source.binding = true → exec .removeCeiling s = .next (reply s.taken .notPermitted []))
        ∧ (e.source.binding = false → exec .removeCeiling s
            = .next (reply (without s.taken 3#8 e (above ++ below)) .ok (termOf (above ++ below)))))
    ∧ (∀ id : Nat,
      ((∀ e ∈ k.entries, e.id = id → e.life ≠ some 0) → exec (.stackEntryExpired id) s = .next s)
      ∧ ∀ (above : List StackEntry) (e : StackEntry) (below : List StackEntry),
        k.entries = above ++ e :: below → e.id = id → e.life = some 0 →
        exec (.stackEntryExpired id) s = .next (without s 4#8 e (above ++ below)))
    ∧ ∀ b : Boundary, ∃ t, exec (.lineSample b) s = .next t ∧
      let ticked := k.entries.map fun e => { e with life := e.life.map (· - 1) }
      (b.apart = true → t.stack.entries = ticked)
      ∧ (b.apart = false → b.utility = k.utility → k.switching.phase = .none →
        t.stack.entries = ticked.filter (fun e => e.life ≠ some 0)
        ∧ ∀ e ∈ ticked, e.life = some 0 →
            t.Tells .stackChange e.id
              [[4#8], beBytes 1 e.source.code, beBytes 3 e.ceiling, beBytes 3 (t.stack.term.getD 0)])

/-- The key switch and the utility contact (R119, R120, R170). A boundary counts the readings of a pin that differ from
its registered level, and a reading of that level takes the count back to 0; the count that registers a level, which
is 2, or 10 for an ASSERTED contact, stands when the boundary is taken apart (log 2). A key level so counted is
registered and nothing else changes. A level of the contact so counted is registered with both counts 0,
UTILITY is posted, and the UTILITY entry is pushed, the oldest non-binding entry of a full stack being evicted
first, or is removed from wherever it stands. A level already registered, or not counted so far, is no change. -/
def Obligations.KeyAndUtilityChangesAreRegistered : Prop :=
  ∀ (level : Bool) (s : State),
    let k := s.stack
    let due := level ≠ k.utility ∧ if level = true then 10 ≤ k.assertCount else 2 ≤ k.releaseCount
    let up := fun last n : Nat => if n < last then n + 1 else last
    exec (.engKeyChange level) s
      = .next (if level ≠ s.host.keyLevel ∧ 2 ≤ s.host.keyRun then
                 s.setHost { s.host with keyLevel := level, keyRun := 0 }
               else s)
    ∧ (∀ b : Boundary, ∃ t, exec (.lineSample b) s = .next t ∧
      let run := if b.engKey = s.host.keyLevel then 0 else up 2 s.host.keyRun
      let asserts := if b.utility then up 10 k.assertCount else 0
      let releases := if b.utility then 0 else up 2 k.releaseCount
      (b.apart = true ∨ run < 2 → t.host = { s.host with keyRun := run })
      ∧ (k.utility = false → b.apart = true ∨ asserts < 10 →
          t.stack.utility = false ∧ t.stack.assertCount = asserts ∧ t.stack.releaseCount = k.releaseCount)
      ∧ (k.utility = true → b.apart = true ∨ releases < 2 →
          t.stack.utility = true ∧ t.stack.assertCount = k.assertCount ∧ t.stack.releaseCount = releases))
    ∧ (¬ due → exec (.utilityInputChange level) s = .next s)
    ∧ (due → s.StackKept → ∃ t, exec (.utilityInputChange level) s = .next t
      ∧ Touches [.stack, .events] s t
      ∧ t.stack.utility = level ∧ t.stack.assertCount = 0 ∧ t.stack.releaseCount = 0
      ∧ t.stack.switching = s.stack.switching
      ∧ t.Tells .utility 0 [[if level then 1#8 else 0#8]]
      ∧ (level = true → ∃ (kept : List StackEntry) (id : Nat),
          { s.stack with entries := kept : CeilingStack }.Issues id
          ∧ t.stack.nextId = id % 255 + 1
          ∧ t.stack.entries =
              { id := id, source := .utility, ceiling := min (s.cfgN .utilityCeiling) s.lineMax, rate := none,
                life := none, pushed := s.energy.time } :: kept
          ∧ t.Tells .stackChange id
              [[1#8], [2#8], beBytes 3 (min (s.cfgN .utilityCeiling) s.lineMax), beBytes 3 (t.stack.term.getD 0)]
          ∧ (s.stack.entries.length < 8 → kept = s.stack.entries)
          ∧ (s.stack.entries.length = 8 →
              ∃ (above : List StackEntry) (e : StackEntry) (below : List StackEntry),
                s.stack.entries = above ++ e :: below ∧ e.source.binding = false
                ∧ (∀ x ∈ below, x.source.binding = true) ∧ kept = above ++ below
                ∧ (e.id ≠ id → t.Tells .stackChange e.id
                    [[5#8], beBytes 1 e.source.code, beBytes 3 e.ceiling,
                     beBytes 3 ({ s.stack with entries := kept : CeilingStack }.term.getD 0)])))
      ∧ (level = false →
          t.stack.nextId = s.stack.nextId
          ∧ ∃ (above : List StackEntry) (e : StackEntry) (below : List StackEntry),
            s.stack.entries = above ++ e :: below ∧ e.source = .utility ∧ t.stack.entries = above ++ below
            ∧ t.Tells .stackChange e.id
                [[3#8], [2#8], beBytes 3 e.ceiling, beBytes 3 (t.stack.term.getD 0)]))

/-- POT_SWITCH (R121): a kind other than 1 and 2 is BAD_VALUE, a pot outside 1..384 or not fitted NO_SUCH, a
wrong supervisor or pot state WRONG_STATE, a procedure in progress BUSY, a full stack STACK_FULL. Otherwise the
procedure is LOWERING with timer 0, its SWITCHING entry stands on top, both are posted, and the reply is OK with
the entry's id. Nothing else changes. -/
def Obligations.PotSwitchIsAcceptedOrRefusedInOrder : Prop :=
  ∀ (f : Frame) (rest : List Frame) (s : State), s.Admits .potSwitch f rest → s.StackKept →
    let p := field f.payload 0 2
    let code := field f.payload 2 1
    let kind : SwitchKind := if code = 1 then .cutOut else .cutIn
    let k := s.stack
    let ceiling := min (s.cfgN .switchCeiling) s.lineMax
    let term := ((k.entries.filter fun x => x.source == .utility || x.source == .switching).map
      (·.ceiling)).foldl min ceiling
    let reply := fun (u : State) (r : Result) (body : List Byte) => u.answer f (s.engineer f) ⟨r, body⟩
    let refused := fun r : Result => exec .potSwitch s = .next (reply s.taken r [])
    let wrong := s.sup.state = .setup ∨ s.sup.state = .safe
      ∨ code = 1 ∧ ((s.pot p).cutOut = true ∨ s.ae.flag p = true)
      ∨ code = 2 ∧ (s.pot p).cutOut = false
    (code ≠ 1 ∧ code ≠ 2 → refused .badValue)
    ∧ (code = 1 ∨ code = 2 →
      (p = 0 ∨ 384 < p ∨ (s.pot p).fitted = false → refused .noSuch)
      ∧ (1 ≤ p → p ≤ 384 → (s.pot p).fitted = true →
        (wrong → refused .wrongState)
        ∧ (¬ wrong → k.switching.phase ≠ .none → refused .busy)
        ∧ (¬ wrong → k.switching.phase = .none → k.entries.length = 8 → refused .stackFull)
        ∧ (¬ wrong → k.switching.phase = .none → k.entries.length < 8 → ∃ id, k.Issues id
          ∧ exec .potSwitch s
            = .next (reply
                (((s.taken.setStack
                  { k with
                    entries := { id := id, source := .switching, ceiling := ceiling, rate := none, life := none,
                                 pushed := s.energy.time } :: k.entries,
                    nextId := id % 255 + 1,
                    switching := { k.switching with phase := .lowering, pot := p, kind := kind, entry := id,
                                                    accepted := some s.energy.time, timer := 0 } }).post
                  .stackChange id [[1#8], [3#8], beBytes 3 ceiling, beBytes 3 term]).post .switch p [[1#8]])
                .ok (beBytes 1 id)))))

/-- The ends of a pot switching procedure (R63, R122 to R124) and SET_POT_STATE (R126). DONE in READY switches the
pot; an abort, and a timer that has reached SWITCH_TIMEOUT, leave it as it was. Each removes the SWITCHING
entry, makes the phase NONE with its cause, and posts STACK_CHANGE and SWITCH. SET_POT_STATE switches a fitted
pot in SETUP, or finds it as asked. Everything else is refused and changes nothing. A line sample moves a procedure
between LOWERING and READY by its current and state, and advances the procedure timer, whose end it leaves to
SWITCH_TIMEOUT when it is taken apart (log 2); that readiness is tested before the timer is the model's (log 38). -/
def Obligations.PotSwitchEndsWithItsCause : Prop :=
  ∀ (f : Frame) (rest : List Frame) (s : State), s.StackKept → s.MapKept →
    let k := s.stack
    let w := k.switching
    let reply := fun (u : State) (r : Result) (body : List Byte) => u.answer f (s.engineer f) ⟨r, body⟩
    let ended := fun (u : State) (cause : SwitchEnd) (v : State) =>
      ∃ (above : List StackEntry) (e : StackEntry) (below : List StackEntry),
        k.entries = above ++ e :: below ∧ e.source = .switching
        ∧ (let after := { k with entries := above ++ below, switching := { w with phase := .none, lastEnd := cause } }
           v = ((u.setStack after).post .stackChange e.id
                [[6#8], [3#8], beBytes 3 e.ceiling, beBytes 3 (after.term.getD 0)]).post .switch w.pot
                [[3#8], beBytes 1 cause.code])
    (s.Admits .potSwitchDone f rest →
      (w.phase ≠ .ready → exec .potSwitchDone s = .next (reply s.taken .wrongState []))
      ∧ (w.phase = .ready → ∃ u v, exec .potSwitchDone s
            = .next (reply v .ok (beBytes 2 w.pot ++ beBytes 1 w.kind.code))
          ∧ Touches [.host, .pots, .ae, .events] s u ∧ s.PotSwitched u w.pot (w.kind == .cutOut)
          ∧ ended u .done v))
    ∧ (s.Admits .potSwitchAbort f rest →
      (w.phase = .none → exec .potSwitchAbort s = .next (reply s.taken .wrongState []))
      ∧ (w.phase ≠ .none → ∃ v, exec .potSwitchAbort s = .next (reply v .ok []) ∧ ended s.taken .aborted v))
    ∧ (let due := w.phase ≠ .none ∧ s.cfgN .switchTimeout * 10 ≤ w.timer
       (¬ due → exec .switchTimeout s = .next s)
       ∧ (due → ∃ v, exec .switchTimeout s = .next v ∧ ended s .timeout v))
    ∧ (∀ b : Boundary, ∃ t, exec (.lineSample b) s = .next t ∧
      let low := t.front.line.state ≠ .fault
        ∧ t.front.line.current ≤ s.cfgN .switchCeiling + s.cfgN .switchTol
      let phase : SwitchPhase := if low then .ready else .lowering
      let late := s.cfgN .switchTimeout * 10 ≤ w.timer + 1
      (w.phase = .none → t.stack.switching = w)
      ∧ (w.phase ≠ .none → b.apart = true ∨ ¬ late →
          t.stack.switching = { w with phase := phase, timer := w.timer + 1 }
          ∧ (phase ≠ w.phase → t.Tells .switch w.pot [if phase = .ready then [2#8] else [1#8]]))
      ∧ (w.phase ≠ .none → b.apart = false → late →
          t.stack.switching = { w with phase := .none, timer := w.timer + 1, lastEnd := .timeout }
          ∧ (∀ e ∈ t.stack.entries, e.source ≠ .switching)
          ∧ t.Tells .switch w.pot [[3#8], [3#8]]))
    ∧ (s.Admits .setPotState f rest →
      let p := field f.payload 0 2
      let code := field f.payload 2 1
      let answered := fun r : Result => exec .setPotState s = .next (reply s.taken r [])
      (1 < code → answered .badValue)
      ∧ (code ≤ 1 → p = 0 ∨ 384 < p ∨ (s.pot p).fitted = false → answered .noSuch)
      ∧ (code ≤ 1 → 1 ≤ p → p ≤ 384 → (s.pot p).fitted = true →
        (s.sup.state ≠ .setup → answered .wrongState)
        ∧ (s.sup.state = .setup →
          ((s.pot p).cutOut = decide (code = 1) → answered .ok)
          ∧ ((s.pot p).cutOut ≠ decide (code = 1) → ∃ u, exec .setPotState s = .next (reply u .ok [])
              ∧ Touches [.host, .pots, .ae, .events] s u ∧ s.PotSwitched u p (decide (code = 1))
              ∧ u.Tells .switch p [[4#8], beBytes 1 code]))))

/-! ### Energy, tariffs and demand -/

/-- What a line sample adds to the energy unit (R144, R149 to R151): the clock goes on by one tenth, the
power of the sample joins the tariff account of the bucket in force, the lifetime account and the power ring, an
account that would pass 2^64 - 1 stands there SATURATED and says so, and a held voltage and a clock not set
mark the period. Taken apart from the steps 6 to 8 of R150 (log 2), the open interval takes the power, the sample
and the marks, and nothing more. -/
def Obligations.LineSampleAccruesItsEnergy : Prop :=
  ∀ (b : Boundary) (s : State), ∃ t, exec (.lineSample b) s = .next t ∧
    let e := s.energy
    let r := t.front.line
    let p := r.voltage * r.current
    let full := 2 ^ 64 - 1
    let add := fun a : Account =>
      if a.saturated then a else if full < a.counts + p then ⟨full, true⟩ else { a with counts := a.counts + p }
    let old := e.accounts.getD e.bucket ⟨0, false⟩
    let ring := e.ring ++ [⟨p, r.voltage⟩]
    t.energy.time = e.time.addTenths 1
    ∧ t.energy.accounts = e.accounts.set e.bucket (add old)
    ∧ t.energy.lifetime = add e.lifetime
    ∧ t.energy.ring = ring.drop (ring.length - 100)
    ∧ t.energy.clockSet = e.clockSet
    ∧ (old.saturated = false → (add old).saturated = true → e.bucket < 4 →
        t.Tells .energySaturated e.bucket [beBytes 4 (full / 36000000000)])
    ∧ (e.lifetime.saturated = false → (add e.lifetime).saturated = true →
        t.Tells .energySaturated 4 [beBytes 4 (full / 36000000000)])
    ∧ t.energy.period.flags.estimated = (e.period.flags.estimated || r.held)
    ∧ t.energy.period.flags.clockNotSet = (e.period.flags.clockNotSet || !e.clockSet)
    ∧ (b.apart = true →
        t.energy.interval =
          { e.interval with
            energy := min full (e.interval.energy + p), t := e.interval.t + 1,
            flags := { e.interval.flags with
                       estimated := e.interval.flags.estimated || r.held,
                       clockNotSet := e.interval.flags.clockNotSet || !e.clockSet } }
        ∧ t.energy.limiter = e.limiter ∧ t.energy.demandLog = e.demandLog
        ∧ t.energy.dayType = e.dayType ∧ t.energy.bucket = e.bucket ∧ t.energy.tariff = e.tariff
        ∧ t.energy.period.maximum = e.period.maximum)

/-- A demand evaluation (R157, R158), due at every hundredth sample from the three hundredth to the last but one:
the projection is stored; CONTRACT_KW 0 and a projection low enough release the limiter, one above the
threshold engages it; while it is ACTIVE the interval is LIMITED and the trim is worked out, absent for want of
voltage, and never below LINE_FLOOR. Each change of the limiter is posted. When none is due nothing happens. -/
def Obligations.DemandEvaluationEngagesAndReleasesTheLimiter : Prop :=
  ∀ s : State,
    let e := s.energy
    let i := e.interval
    let l := e.limiter
    let due := i.t % 100 = 0 ∧ 300 ≤ i.t ∧ i.t < i.length
    (¬ due → exec .demandEvaluation s = .next s)
    ∧ (due → ∃ t, exec .demandEvaluation s = .next t ∧ Touches [.energy, .events] s t ∧
      let mean := fun values : List Nat => values.sum / e.ring.length
      let projection := (i.energy + mean (e.ring.map (·.power)) * (i.length - i.t)) / (i.length * 1000000)
      let threshold := s.cfgN .contractKw - s.cfgN .marginKw
      let v := mean (e.ring.map (·.voltage))
      let first := min 650000 ((threshold * 1000000 * i.length - i.energy) / (i.length - i.t) / v)
      let stored := { l with projection := projection, projectionT := i.t }
      let limited := { i with flags := { i.flags with limited := true } }
      let tells := fun (state cause : Byte) => t.Tells .demandLimit 0 [[state], [cause], beBytes 4 projection]
      let off := fun cause : Byte =>
        t.energy = { e with limiter := { stored with active := false, trim := none } }
        ∧ (l.active = true → tells 0#8 cause)
      let work :=
        (v = 0 ∨ v < s.cfgN .vValidMin →
          t.energy = { e with limiter := { stored with active := true, voltage := v, trim := none },
                              interval := limited }
          ∧ t.Tells .demandVoltage 0 [beBytes 4 v])
        ∧ (v ≠ 0 → s.cfgN .vValidMin ≤ v →
          t.energy =
            { e with limiter := { stored with active := true, voltage := v,
                                              trim := some (max first (s.cfgN .lineFloor)) },
                     interval := { limited with
                       unavoidable := i.unavoidable || decide (first < s.cfgN .lineFloor) } }
          ∧ (first < s.cfgN .lineFloor → i.unavoidable = false →
              t.Tells .demandUnavoidable 0 [beBytes 4 first]))
      (s.cfgN .contractKw = 0 → off 4#8)
      ∧ (s.cfgN .contractKw ≠ 0 →
        (l.active = false → projection ≤ threshold →
          t.energy = { e with limiter := stored } ∧ t.events = s.events)
        ∧ (l.active = false → threshold < projection → tells 1#8 1#8 ∧ work)
        ∧ (l.active = true → projection + s.cfgN .releaseKw ≤ threshold → off 2#8)
        ∧ (l.active = true → threshold < projection + s.cfgN .releaseKw → work)))

/-- The minute evaluation and the interval end (R147, R148, R152, R153, R154, R156, R159). At a minute boundary a
pending tariff set comes into force and day type and bucket are found anew. When the clock has reached the end
of the open interval its demand is recorded, the history keeping the latest 96, the period maximum follows a
greater demand, the limiter is released, and the next interval opens from the end just reached. At any other
time nothing happens. -/
def Obligations.MinuteAndIntervalEndsAreTaken : Prop :=
  ∀ s : State,
    let e := s.energy
    let i := e.interval
    let minute := e.time.second = 0 ∧ e.time.tenth = 0
    let closes := e.time = i.stop ∨ i.length ≤ i.t
    (¬ minute → exec .tariffMinuteEvaluation s = .next s)
    ∧ (minute → ∃ day bucket,
        let now := { e with tariff := e.tariffPending.getD e.tariff, tariffPending := none, dayType := day,
                            bucket := bucket }
        now.TariffFound ∧ exec .tariffMinuteEvaluation s = .next (s.setEnergy now))
    ∧ (¬ closes → exec .demandIntervalEnd s = .next s)
    ∧ (closes → ∃ t, exec .demandIntervalEnd s = .next t
      ∧ Touches [.energy, .events] s t ∧
      let demand := i.energy / (i.length * 1000000)
      let log := e.demandLog ++ [⟨i.stop, i.length, demand, i.flags⟩]
      let length := s.cfgN .demandMinutes * 600
      t.energy =
        { e with
          demandLog := log.drop (log.length - 96),
          limiter := { e.limiter with active := false, trim := none },
          interval := { start := i.stop, stop := i.stop.addTenths length, length := length, t := 0, energy := 0,
                        flags := ⟨false, false, false, false, false⟩, unavoidable := false },
          period := { e.period with
                      maximum := max e.period.maximum demand,
                      maxTime := if e.period.maximum < demand then some i.stop else e.period.maxTime,
                      flags := { e.period.flags with
                                 shortenedSeen := e.period.flags.shortenedSeen || i.flags.shortened } } }
      ∧ (e.limiter.active = true → t.Tells .demandLimit 0 [[0#8], [3#8], beBytes 4 e.limiter.projection]))

/-- The requests that set the energy unit. SET_TIME (R145, R155) takes a time of the calendar: the open interval
is closed short, the clock is set, a short interval is opened to the boundary after it, day type and bucket are
found, and CLOCK_SET is posted. SET_TARIFF (R146) takes a set whose tables and dates are in order as the pending
set. CLOSE_PERIOD (R160) records the period, leaves the remainder below one kilowatt-hour in each account, and
opens the next period; that the bits which 11.1 does not name in the record's flags are 0 is the model's choice
(log 42). A time or a set that is not right is refused BAD_VALUE and changes nothing. -/
def Obligations.TimeTariffAndPeriodAreSet : Prop :=
  ∀ (f : Frame) (rest : List Frame) (s : State),
    let e := s.energy
    let i := e.interval
    let reply := fun (u : State) (r : Result) (body : List Byte) => u.answer f true ⟨r, body⟩
    let points := fun table : List TariffPoint =>
      beBytes 1 table.length ++ table.flatMap fun p => beBytes 2 p.minute ++ beBytes 1 p.bucket
    let dates := fun days : List Date =>
      beBytes 1 days.length ++ days.flatMap fun d => beBytes 2 d.year ++ beBytes 1 d.month ++ beBytes 1 d.day
    (s.Admits .setTime f rest → ∀ x : Time,
      f.payload = beBytes 2 x.year ++ [BitVec.ofNat 8 x.month, BitVec.ofNat 8 x.day, BitVec.ofNat 8 x.hour,
        BitVec.ofNat 8 x.minute, BitVec.ofNat 8 x.second, BitVec.ofNat 8 x.tenth] →
      x.year < 65536 → x.month < 256 → x.day < 256 → x.hour < 256 → x.minute < 256 → x.second < 256 →
      x.tenth < 256 →
      let days := if x.month = 2 then (if x.year % 4 = 0 then 29 else 28)
        else if x.month = 4 ∨ x.month = 6 ∨ x.month = 9 ∨ x.month = 11 then 30 else 31
      let right := 2000 ≤ x.year ∧ x.year ≤ 2099 ∧ 1 ≤ x.month ∧ x.month ≤ 12 ∧ 1 ≤ x.day ∧ x.day ≤ days
        ∧ x.hour ≤ 23 ∧ x.minute ≤ 59 ∧ x.second ≤ 59 ∧ x.tenth ≤ 9
      (¬ right → exec .setTime s = .next (reply s.taken .badValue []))
      ∧ (right → ∃ u, exec .setTime s = .next (reply u .ok (timeBytes x))
        ∧ Touches [.host, .energy, .events] s u ∧
        let length := s.cfgN .demandMinutes * 600
        let first := length - x.dayTenths % length
        let long := if first < 600 then first + length else first
        let demand := i.energy / (i.t * 1000000)
        let log := e.demandLog ++ [⟨e.time, i.t, demand, { i.flags with shortened := true }⟩]
        u.energy.time = x ∧ u.energy.clockSet = true ∧ u.energy.TariffFound
        ∧ u.energy.tariff = e.tariff ∧ u.energy.tariffPending = e.tariffPending
        ∧ u.energy.interval = { start := x, stop := x.addTenths long, length := long, t := 0, energy := 0,
                                flags := ⟨true, false, false, false, false⟩, unavoidable := false }
        ∧ u.energy.limiter = { e.limiter with active := false, trim := none }
        ∧ u.energy.demandLog = (if i.t = 0 then e.demandLog else log.drop (log.length - 96))
        ∧ u.energy.period = (if i.t = 0 then e.period else
            { e.period with
              maximum := max e.period.maximum demand,
              maxTime := if e.period.maximum < demand then some e.time else e.period.maxTime,
              flags := { e.period.flags with shortenedSeen := true } })
        ∧ u.energy.accounts = e.accounts ∧ u.energy.lifetime = e.lifetime ∧ u.energy.ring = e.ring
        ∧ u.energy.history = e.history
        ∧ (e.limiter.active = true → u.Tells .demandLimit 0 [[0#8], [5#8], beBytes 4 e.limiter.projection])
        ∧ u.Tells .clockSet 0 [[if e.clockSet then 1#8 else 0#8]]))
    ∧ (s.Admits .setTariff f rest → ∀ w : Tariff,
      f.payload = points w.weekday ++ points w.weekend ++ points w.holiday ++ dates w.holidays →
      let tables := [w.weekday, w.weekend, w.holiday]
      (∀ table ∈ tables, table.length < 256 ∧ ∀ p ∈ table, p.minute < 65536 ∧ p.bucket < 256) →
      w.holidays.length < 256 → (∀ d ∈ w.holidays, d.year < 65536 ∧ d.month < 256 ∧ d.day < 256) →
      let before := fun x y : Date => x.year < y.year ∨ x.year = y.year ∧
        (x.month < y.month ∨ x.month = y.month ∧ x.day < y.day)
      let right :=
        (∀ table ∈ tables, 1 ≤ table.length ∧ table.length ≤ 12
          ∧ (∀ p ∈ table, p.minute ≤ 1439 ∧ p.bucket ≤ 3)
          ∧ table.Pairwise fun p q => p.minute < q.minute)
        ∧ w.holidays.length ≤ 16 ∧ (∀ d ∈ w.holidays, dateOk d.year d.month d.day = true)
        ∧ w.holidays.Pairwise before
      (right → exec .setTariff s
        = .next (reply (s.taken.setEnergy { e with tariffPending := some w }) .ok []))
      ∧ (¬ right → exec .setTariff s = .next (reply s.taken .badValue [])))
    ∧ (s.Admits .closePeriod f rest →
      let kwh := fun a : Account => a.counts / 36000000000
      let close := fun a : Account => (⟨a.counts % 36000000000, false⟩ : Account)
      let record : PeriodRecord :=
        { opened := e.period.opened, closed := e.time, kwh := e.accounts.map kwh,
          total := (e.accounts.map kwh).sum, maximum := e.period.maximum, maxTime := e.period.maxTime,
          aeKwh := kwh s.ae.excess,
          flags := { e.period.flags with clockNotSet := e.period.flags.clockNotSet || !e.clockSet } }
      let history := e.history ++ [record]
      let flags := record.flags.saturated.toNat + 2 * record.flags.estimated.toNat
        + 4 * record.flags.clockNotSet.toNat + 8 * record.flags.shortenedSeen.toNat
      exec .closePeriod s
        = .next (reply
            ((s.taken.setEnergy
              { e with history := history.drop (history.length - 12), accounts := e.accounts.map close,
                       period := { maximum := 0, maxTime := none, opened := e.time,
                                   flags := ⟨false, false, false, false⟩ } }).setAe
              { s.ae with excess := close s.ae.excess }) .ok
            (timeBytes record.opened ++ timeBytes record.closed ++ record.kwh.flatMap (beBytes 4)
              ++ beBytes 4 record.total ++ beBytes 4 record.maximum ++ optTimeBytes record.maxTime
              ++ beBytes 4 record.aeKwh ++ beBytes 1 flags)))

/-- The reads of the energy unit and of a group (R111, R163, 11.1). GET_ENERGY gives the fields of R163 in their
order. GET_GROUP gives the group record, the marks of the group, its slots and its capture, the records of the
cooling unit and the channel records; a number outside 1..6 is NO_SUCH, and the frozen current of a group that is
not frozen is open (free values, log 13). Places and forms of fields of GET_GROUP that the manual does not give (the
group's phase, the TAG of a command of origin COOLING, sub-state and SEQ) are log 11, the widths of T_eff and p10
log 12, and the tenths left of a backoff deadline log 15. Both change nothing else. -/
def Obligations.EnergyAndGroupAreReported : Prop :=
  ∀ (f : Frame) (rest : List Frame) (s : State),
    let reply := fun (u : State) (r : Result) (body : List Byte) => u.answer f (s.engineer f) ⟨r, body⟩
    let yes := fun b : Bool => [if b then 1#8 else 0#8]
    let opt := fun (n : Nat) (v : Option Nat) => yes v.isSome ++ beBytes n (v.getD 0)
    let points := fun table : List TariffPoint =>
      beBytes 1 table.length ++ table.flatMap fun p => beBytes 2 p.minute ++ beBytes 1 p.bucket
    let dates := fun days : List Date =>
      beBytes 1 days.length ++ days.flatMap fun d => beBytes 2 d.year ++ beBytes 1 d.month ++ beBytes 1 d.day
    (s.Admits .getEnergy f rest →
      let e := s.energy
      let i := e.interval
      let l := e.limiter
      let account := fun a : Account =>
        beBytes 8 a.counts ++ beBytes 4 (a.counts / 36000000000) ++ yes a.saturated
      let p10 := (e.ring.map (·.power)).sum / e.ring.length
      let flags := fun bits : List Bool => bits.flatMap yes
      let iFlags := flags [i.flags.shortened, i.flags.limited, i.flags.aeHeld, i.flags.estimated,
        i.flags.clockNotSet]
      let pFlags := flags [e.period.flags.saturated, e.period.flags.estimated, e.period.flags.clockNotSet,
        e.period.flags.shortenedSeen]
      exec .getEnergy s = .next (reply s.taken .ok
        ((timeBytes e.time ++ yes e.clockSet ++ beBytes 1 e.dayType.code ++ beBytes 1 e.bucket)
          ++ (points e.tariff.weekday ++ points e.tariff.weekend ++ points e.tariff.holiday
            ++ dates e.tariff.holidays ++ yes e.tariffPending.isSome)
          ++ (e.accounts.flatMap account ++ account e.lifetime ++ account s.ae.excess)
          ++ (timeBytes i.start ++ timeBytes i.stop ++ beBytes 4 i.length ++ beBytes 2 i.t ++ beBytes 8 i.energy
            ++ iFlags ++ yes i.unavoidable ++ beBytes 8 p10 ++ beBytes 1 e.ring.length)
          ++ (yes l.active ++ opt 4 l.trim ++ beBytes 4 l.projection ++ beBytes 2 l.projectionT
            ++ beBytes 4 l.voltage ++ beBytes 4 (s.cfgN .contractKw - s.cfgN .marginKw))
          ++ (beBytes 4 e.period.maximum ++ optTimeBytes e.period.maxTime ++ timeBytes e.period.opened ++ pFlags)
          ++ (beBytes 1 e.demandLog.length ++ beBytes 1 e.history.length))))
    ∧ (s.Admits .getGroup f rest →
      ((∀ g : Group, g.num ≠ field f.payload 0 1) → exec .getGroup s = .next (reply s.taken .noSuch []))
      ∧ ∀ g : Group, g.num = field f.payload 0 1 →
        let u := s.unit g
        let r := u.record
        let c := s.coolOf g
        let l := c.loop
        let k := c.cap
        let command := match u.command with
          | none => List.replicate 9 0#8 ++ List.replicate 5 0xFF#8
          | some x => [1#8] ++ beBytes 1 x.kind.code ++ beBytes 1 x.origin.code ++ beBytes 1 x.origin.tag
              ++ beBytes 1 x.state.code
              ++ (if x.kind = .stop then opt 1 (some x.sendable.toNat) else opt 1 none)
              ++ (if x.state = .sent then opt 1 (some x.seq) else opt 1 none)
              ++ optTimeBytes (x.firstSent.map (·.time))
        let reset := match u.resetFlag with
          | none => List.replicate 4 0#8
          | some o => [1#8] ++ [5#8] ++ beBytes 1 o.code ++ beBytes 1 o.tag
        let slot := fun (n : Nat) (x : ValueSlot) => beBytes n x.desired ++ yes x.rejected ++ match x.deadline with
          | .absent => opt 4 none
          | .running => opt 4 (some 1)
          | .passed => opt 4 (some 0)
        let capture := match r.capture with
          | none => List.replicate 10 0#8 ++ List.replicate 5 0xFF#8 ++ [0#8]
          | some x => [1#8] ++ beBytes 2 x.angle ++ beBytes 1 x.tap ++ beBytes 4 x.voltage ++ beBytes 2 x.alarms
              ++ timeBytes x.time ++ beBytes 1 x.seq
        let channel := fun x : Channel =>
          beSigned 4 x.value ++ yes (!x.valid) ++ beBytes 2 x.invalidRun ++ beBytes 2 x.rawMean
        ∃ (current : List Byte) (used : Nat),
          (s.frozen g = true → used = s.free ∧ current = beBytes 4 (
            if (s.chan (gcChan g)).valid then (s.chan (gcChan g)).value.toNat else r.ackShare))
          ∧ current.length = 4
          ∧ exec .getGroup s = .next (reply (s.taken.setFree used) .ok
              ((beBytes 1 r.state.code ++ yes r.reachable ++ yes r.isLocal ++ beBytes 4 r.current ++ yes r.trip
                ++ beBytes 4 r.ackShare ++ beBytes 1 r.ackStage ++ yes r.senseDue ++ beBytes 1 r.seq
                ++ yes c.cap.unloading ++ beSigned 4 (s.cfg (.group g .fitted)))
              ++ (yes (s.allocatable g) ++ yes (s.frozen g) ++ current)
              ++ (command ++ reset ++ yes u.coolPending) ++ (slot 4 u.share ++ slot 1 u.stage) ++ capture
              ++ (beBytes 1 l.state.code ++ beBytes 2 l.tempFactor ++ beBytes 2 l.flowFactor
                ++ beBytes 2 l.senseFactor ++ beBytes 2 l.factor ++ yes l.fault ++ opt 4 l.dwell ++ yes l.begun
                ++ beBytes 1 l.stage)
              ++ (beBytes 4 k.capacity ++ beBytes 4 k.credit ++ yes k.unloading ++ beBytes 1 k.origin.code
                ++ beBytes 4 k.timer ++ beBytes 1 k.lastEnd.code)
              ++ beBytes 4 (s.effective g)
              ++ [gcChan g, tiChan g, toChan g, flChan g].flatMap fun n => channel (s.chan n))))

/-! ### What every step keeps -/

/-- Every step keeps the settings store: its canonical form, every item within its range or list, and the
constraints between items (R128, R172 to R174). -/
def Obligations.EveryStepKeepsTheSettingsStore : Prop :=
  ∀ s t : State, s.SettingsKept → step s = .next t → t.SettingsKept

/-- Every step keeps the law of the event queue and the level of ATTN that the queue requires (R176, R178). -/
def Obligations.EveryStepKeepsTheEventQueue : Prop :=
  ∀ s t : State, s.QueueKept → step s = .next t → t.QueueKept

/-- Every step keeps the law of the ceiling stack (R112, R119 to R121). -/
def Obligations.EveryStepKeepsTheCeilingStack : Prop :=
  ∀ s t : State, s.StackKept → step s = .next t → t.StackKept

/-- Every step keeps the anode effect map in step with the pot table, and count, lamp and hold flag in step
with the map (R52, R65, R66), together with what this rests on: pots that are CUT_OUT or NOT_FITTED are OUT (R53,
R63), and a pot switching procedure has a kind and a fitted pot and runs outside SETUP (R121). -/
def Obligations.EveryStepKeepsTheAeMap : Prop :=
  ∀ s t : State, s.MapKept → step s = .next t → t.MapKept

/-- Every step keeps the targets within LINE_MAX, and at 0 outside RUN and HOLD; it keeps RUN apart from a
line measurement in FAULT and a registered SAFE input in SAFE (R2, R10, R12, R132, R142). -/
def Obligations.EveryStepKeepsTheTargets : Prop :=
  ∀ s t : State, s.TargetKept → step s = .next t → t.TargetKept

/-- Every step keeps at most one command SENT, which is the order in flight (R93, R99). -/
def Obligations.EveryStepKeepsOneOrderInFlight : Prop :=
  ∀ s t : State, s.FlightKept → step s = .next t → t.FlightKept

/-- The state after a device reset, whatever the pins and the state before it, meets every one of these laws; the
reset state of the model, whose pins are all deasserted (log 6), meets them too. -/
def Obligations.ResetMeetsEveryLaw : Prop :=
  let lawful := fun t : State =>
    t.SettingsKept ∧ t.QueueKept ∧ t.StackKept ∧ t.MapKept ∧ t.TargetKept ∧ t.FlightKept
  lawful State.reset ∧ ∀ (p : Pins) (s : State), ∃ t, exec (.deviceReset p) s = .next t ∧ lawful t
end

