-- ==== Sys2Proof/Laws/State.lean ====
section
/-! SUPPORT. What each named update of one block does to each field of the state. -/

namespace Sys2Proof.Machine

/-! ### State.setFree -/

section
variable (s : State) (v : Nat)
@[simp] theorem State.setFree_pending : (s.setFree v).pending = s.pending := rfl
@[simp] theorem State.setFree_free : (s.setFree v).free = v := rfl
@[simp] theorem State.setFree_ticks : (s.setFree v).ticks = s.ticks := rfl
@[simp] theorem State.setFree_pins : (s.setFree v).pins = s.pins := rfl
@[simp] theorem State.setFree_sup : (s.setFree v).sup = s.sup := rfl
@[simp] theorem State.setFree_front : (s.setFree v).front = s.front := rfl
@[simp] theorem State.setFree_scan : (s.setFree v).scan = s.scan := rfl
@[simp] theorem State.setFree_pots : (s.setFree v).pots = s.pots := rfl
@[simp] theorem State.setFree_ae : (s.setFree v).ae = s.ae := rfl
@[simp] theorem State.setFree_cool : (s.setFree v).cool = s.cool := rfl
@[simp] theorem State.setFree_link : (s.setFree v).link = s.link := rfl
@[simp] theorem State.setFree_stack : (s.setFree v).stack = s.stack := rfl
@[simp] theorem State.setFree_reg : (s.setFree v).reg = s.reg := rfl
@[simp] theorem State.setFree_energy : (s.setFree v).energy = s.energy := rfl
@[simp] theorem State.setFree_host : (s.setFree v).host = s.host := rfl
@[simp] theorem State.setFree_settings : (s.setFree v).settings = s.settings := rfl
@[simp] theorem State.setFree_events : (s.setFree v).events = s.events := rfl
end

/-! ### State.setTicks -/

section
variable (s : State) (v : Nat)
@[simp] theorem State.setTicks_pending : (s.setTicks v).pending = s.pending := rfl
@[simp] theorem State.setTicks_free : (s.setTicks v).free = s.free := rfl
@[simp] theorem State.setTicks_ticks : (s.setTicks v).ticks = v := rfl
@[simp] theorem State.setTicks_pins : (s.setTicks v).pins = s.pins := rfl
@[simp] theorem State.setTicks_sup : (s.setTicks v).sup = s.sup := rfl
@[simp] theorem State.setTicks_front : (s.setTicks v).front = s.front := rfl
@[simp] theorem State.setTicks_scan : (s.setTicks v).scan = s.scan := rfl
@[simp] theorem State.setTicks_pots : (s.setTicks v).pots = s.pots := rfl
@[simp] theorem State.setTicks_ae : (s.setTicks v).ae = s.ae := rfl
@[simp] theorem State.setTicks_cool : (s.setTicks v).cool = s.cool := rfl
@[simp] theorem State.setTicks_link : (s.setTicks v).link = s.link := rfl
@[simp] theorem State.setTicks_stack : (s.setTicks v).stack = s.stack := rfl
@[simp] theorem State.setTicks_reg : (s.setTicks v).reg = s.reg := rfl
@[simp] theorem State.setTicks_energy : (s.setTicks v).energy = s.energy := rfl
@[simp] theorem State.setTicks_host : (s.setTicks v).host = s.host := rfl
@[simp] theorem State.setTicks_settings : (s.setTicks v).settings = s.settings := rfl
@[simp] theorem State.setTicks_events : (s.setTicks v).events = s.events := rfl
end

/-! ### State.setPins -/

section
variable (s : State) (v : Pins)
@[simp] theorem State.setPins_pending : (s.setPins v).pending = s.pending := rfl
@[simp] theorem State.setPins_free : (s.setPins v).free = s.free := rfl
@[simp] theorem State.setPins_ticks : (s.setPins v).ticks = s.ticks := rfl
@[simp] theorem State.setPins_pins : (s.setPins v).pins = v := rfl
@[simp] theorem State.setPins_sup : (s.setPins v).sup = s.sup := rfl
@[simp] theorem State.setPins_front : (s.setPins v).front = s.front := rfl
@[simp] theorem State.setPins_scan : (s.setPins v).scan = s.scan := rfl
@[simp] theorem State.setPins_pots : (s.setPins v).pots = s.pots := rfl
@[simp] theorem State.setPins_ae : (s.setPins v).ae = s.ae := rfl
@[simp] theorem State.setPins_cool : (s.setPins v).cool = s.cool := rfl
@[simp] theorem State.setPins_link : (s.setPins v).link = s.link := rfl
@[simp] theorem State.setPins_stack : (s.setPins v).stack = s.stack := rfl
@[simp] theorem State.setPins_reg : (s.setPins v).reg = s.reg := rfl
@[simp] theorem State.setPins_energy : (s.setPins v).energy = s.energy := rfl
@[simp] theorem State.setPins_host : (s.setPins v).host = s.host := rfl
@[simp] theorem State.setPins_settings : (s.setPins v).settings = s.settings := rfl
@[simp] theorem State.setPins_events : (s.setPins v).events = s.events := rfl
end

/-! ### State.setSup -/

section
variable (s : State) (v : Supervisor)
@[simp] theorem State.setSup_pending : (s.setSup v).pending = s.pending := rfl
@[simp] theorem State.setSup_free : (s.setSup v).free = s.free := rfl
@[simp] theorem State.setSup_ticks : (s.setSup v).ticks = s.ticks := rfl
@[simp] theorem State.setSup_pins : (s.setSup v).pins = s.pins := rfl
@[simp] theorem State.setSup_sup : (s.setSup v).sup = v := rfl
@[simp] theorem State.setSup_front : (s.setSup v).front = s.front := rfl
@[simp] theorem State.setSup_scan : (s.setSup v).scan = s.scan := rfl
@[simp] theorem State.setSup_pots : (s.setSup v).pots = s.pots := rfl
@[simp] theorem State.setSup_ae : (s.setSup v).ae = s.ae := rfl
@[simp] theorem State.setSup_cool : (s.setSup v).cool = s.cool := rfl
@[simp] theorem State.setSup_link : (s.setSup v).link = s.link := rfl
@[simp] theorem State.setSup_stack : (s.setSup v).stack = s.stack := rfl
@[simp] theorem State.setSup_reg : (s.setSup v).reg = s.reg := rfl
@[simp] theorem State.setSup_energy : (s.setSup v).energy = s.energy := rfl
@[simp] theorem State.setSup_host : (s.setSup v).host = s.host := rfl
@[simp] theorem State.setSup_settings : (s.setSup v).settings = s.settings := rfl
@[simp] theorem State.setSup_events : (s.setSup v).events = s.events := rfl
end

/-! ### State.setFront -/

section
variable (s : State) (v : FrontEnd)
@[simp] theorem State.setFront_pending : (s.setFront v).pending = s.pending := rfl
@[simp] theorem State.setFront_free : (s.setFront v).free = s.free := rfl
@[simp] theorem State.setFront_ticks : (s.setFront v).ticks = s.ticks := rfl
@[simp] theorem State.setFront_pins : (s.setFront v).pins = s.pins := rfl
@[simp] theorem State.setFront_sup : (s.setFront v).sup = s.sup := rfl
@[simp] theorem State.setFront_front : (s.setFront v).front = v := rfl
@[simp] theorem State.setFront_scan : (s.setFront v).scan = s.scan := rfl
@[simp] theorem State.setFront_pots : (s.setFront v).pots = s.pots := rfl
@[simp] theorem State.setFront_ae : (s.setFront v).ae = s.ae := rfl
@[simp] theorem State.setFront_cool : (s.setFront v).cool = s.cool := rfl
@[simp] theorem State.setFront_link : (s.setFront v).link = s.link := rfl
@[simp] theorem State.setFront_stack : (s.setFront v).stack = s.stack := rfl
@[simp] theorem State.setFront_reg : (s.setFront v).reg = s.reg := rfl
@[simp] theorem State.setFront_energy : (s.setFront v).energy = s.energy := rfl
@[simp] theorem State.setFront_host : (s.setFront v).host = s.host := rfl
@[simp] theorem State.setFront_settings : (s.setFront v).settings = s.settings := rfl
@[simp] theorem State.setFront_events : (s.setFront v).events = s.events := rfl
end

/-! ### State.setScan -/

section
variable (s : State) (v : Scan)
@[simp] theorem State.setScan_pending : (s.setScan v).pending = s.pending := rfl
@[simp] theorem State.setScan_free : (s.setScan v).free = s.free := rfl
@[simp] theorem State.setScan_ticks : (s.setScan v).ticks = s.ticks := rfl
@[simp] theorem State.setScan_pins : (s.setScan v).pins = s.pins := rfl
@[simp] theorem State.setScan_sup : (s.setScan v).sup = s.sup := rfl
@[simp] theorem State.setScan_front : (s.setScan v).front = s.front := rfl
@[simp] theorem State.setScan_scan : (s.setScan v).scan = v := rfl
@[simp] theorem State.setScan_pots : (s.setScan v).pots = s.pots := rfl
@[simp] theorem State.setScan_ae : (s.setScan v).ae = s.ae := rfl
@[simp] theorem State.setScan_cool : (s.setScan v).cool = s.cool := rfl
@[simp] theorem State.setScan_link : (s.setScan v).link = s.link := rfl
@[simp] theorem State.setScan_stack : (s.setScan v).stack = s.stack := rfl
@[simp] theorem State.setScan_reg : (s.setScan v).reg = s.reg := rfl
@[simp] theorem State.setScan_energy : (s.setScan v).energy = s.energy := rfl
@[simp] theorem State.setScan_host : (s.setScan v).host = s.host := rfl
@[simp] theorem State.setScan_settings : (s.setScan v).settings = s.settings := rfl
@[simp] theorem State.setScan_events : (s.setScan v).events = s.events := rfl
end

/-! ### State.setPots -/

section
variable (s : State) (v : List Pot)
@[simp] theorem State.setPots_pending : (s.setPots v).pending = s.pending := rfl
@[simp] theorem State.setPots_free : (s.setPots v).free = s.free := rfl
@[simp] theorem State.setPots_ticks : (s.setPots v).ticks = s.ticks := rfl
@[simp] theorem State.setPots_pins : (s.setPots v).pins = s.pins := rfl
@[simp] theorem State.setPots_sup : (s.setPots v).sup = s.sup := rfl
@[simp] theorem State.setPots_front : (s.setPots v).front = s.front := rfl
@[simp] theorem State.setPots_scan : (s.setPots v).scan = s.scan := rfl
@[simp] theorem State.setPots_pots : (s.setPots v).pots = v := rfl
@[simp] theorem State.setPots_ae : (s.setPots v).ae = s.ae := rfl
@[simp] theorem State.setPots_cool : (s.setPots v).cool = s.cool := rfl
@[simp] theorem State.setPots_link : (s.setPots v).link = s.link := rfl
@[simp] theorem State.setPots_stack : (s.setPots v).stack = s.stack := rfl
@[simp] theorem State.setPots_reg : (s.setPots v).reg = s.reg := rfl
@[simp] theorem State.setPots_energy : (s.setPots v).energy = s.energy := rfl
@[simp] theorem State.setPots_host : (s.setPots v).host = s.host := rfl
@[simp] theorem State.setPots_settings : (s.setPots v).settings = s.settings := rfl
@[simp] theorem State.setPots_events : (s.setPots v).events = s.events := rfl
end

/-! ### State.setAe -/

section
variable (s : State) (v : AeMonitor)
@[simp] theorem State.setAe_pending : (s.setAe v).pending = s.pending := rfl
@[simp] theorem State.setAe_free : (s.setAe v).free = s.free := rfl
@[simp] theorem State.setAe_ticks : (s.setAe v).ticks = s.ticks := rfl
@[simp] theorem State.setAe_pins : (s.setAe v).pins = s.pins := rfl
@[simp] theorem State.setAe_sup : (s.setAe v).sup = s.sup := rfl
@[simp] theorem State.setAe_front : (s.setAe v).front = s.front := rfl
@[simp] theorem State.setAe_scan : (s.setAe v).scan = s.scan := rfl
@[simp] theorem State.setAe_pots : (s.setAe v).pots = s.pots := rfl
@[simp] theorem State.setAe_ae : (s.setAe v).ae = v := rfl
@[simp] theorem State.setAe_cool : (s.setAe v).cool = s.cool := rfl
@[simp] theorem State.setAe_link : (s.setAe v).link = s.link := rfl
@[simp] theorem State.setAe_stack : (s.setAe v).stack = s.stack := rfl
@[simp] theorem State.setAe_reg : (s.setAe v).reg = s.reg := rfl
@[simp] theorem State.setAe_energy : (s.setAe v).energy = s.energy := rfl
@[simp] theorem State.setAe_host : (s.setAe v).host = s.host := rfl
@[simp] theorem State.setAe_settings : (s.setAe v).settings = s.settings := rfl
@[simp] theorem State.setAe_events : (s.setAe v).events = s.events := rfl
end

/-! ### State.setCool -/

section
variable (s : State) (v : Six Cooling)
@[simp] theorem State.setCool_pending : (s.setCool v).pending = s.pending := rfl
@[simp] theorem State.setCool_free : (s.setCool v).free = s.free := rfl
@[simp] theorem State.setCool_ticks : (s.setCool v).ticks = s.ticks := rfl
@[simp] theorem State.setCool_pins : (s.setCool v).pins = s.pins := rfl
@[simp] theorem State.setCool_sup : (s.setCool v).sup = s.sup := rfl
@[simp] theorem State.setCool_front : (s.setCool v).front = s.front := rfl
@[simp] theorem State.setCool_scan : (s.setCool v).scan = s.scan := rfl
@[simp] theorem State.setCool_pots : (s.setCool v).pots = s.pots := rfl
@[simp] theorem State.setCool_ae : (s.setCool v).ae = s.ae := rfl
@[simp] theorem State.setCool_cool : (s.setCool v).cool = v := rfl
@[simp] theorem State.setCool_link : (s.setCool v).link = s.link := rfl
@[simp] theorem State.setCool_stack : (s.setCool v).stack = s.stack := rfl
@[simp] theorem State.setCool_reg : (s.setCool v).reg = s.reg := rfl
@[simp] theorem State.setCool_energy : (s.setCool v).energy = s.energy := rfl
@[simp] theorem State.setCool_host : (s.setCool v).host = s.host := rfl
@[simp] theorem State.setCool_settings : (s.setCool v).settings = s.settings := rfl
@[simp] theorem State.setCool_events : (s.setCool v).events = s.events := rfl
end

/-! ### State.setLink -/

section
variable (s : State) (v : GroupLink)
@[simp] theorem State.setLink_pending : (s.setLink v).pending = s.pending := rfl
@[simp] theorem State.setLink_free : (s.setLink v).free = s.free := rfl
@[simp] theorem State.setLink_ticks : (s.setLink v).ticks = s.ticks := rfl
@[simp] theorem State.setLink_pins : (s.setLink v).pins = s.pins := rfl
@[simp] theorem State.setLink_sup : (s.setLink v).sup = s.sup := rfl
@[simp] theorem State.setLink_front : (s.setLink v).front = s.front := rfl
@[simp] theorem State.setLink_scan : (s.setLink v).scan = s.scan := rfl
@[simp] theorem State.setLink_pots : (s.setLink v).pots = s.pots := rfl
@[simp] theorem State.setLink_ae : (s.setLink v).ae = s.ae := rfl
@[simp] theorem State.setLink_cool : (s.setLink v).cool = s.cool := rfl
@[simp] theorem State.setLink_link : (s.setLink v).link = v := rfl
@[simp] theorem State.setLink_stack : (s.setLink v).stack = s.stack := rfl
@[simp] theorem State.setLink_reg : (s.setLink v).reg = s.reg := rfl
@[simp] theorem State.setLink_energy : (s.setLink v).energy = s.energy := rfl
@[simp] theorem State.setLink_host : (s.setLink v).host = s.host := rfl
@[simp] theorem State.setLink_settings : (s.setLink v).settings = s.settings := rfl
@[simp] theorem State.setLink_events : (s.setLink v).events = s.events := rfl
end

/-! ### State.setStack -/

section
variable (s : State) (v : CeilingStack)
@[simp] theorem State.setStack_pending : (s.setStack v).pending = s.pending := rfl
@[simp] theorem State.setStack_free : (s.setStack v).free = s.free := rfl
@[simp] theorem State.setStack_ticks : (s.setStack v).ticks = s.ticks := rfl
@[simp] theorem State.setStack_pins : (s.setStack v).pins = s.pins := rfl
@[simp] theorem State.setStack_sup : (s.setStack v).sup = s.sup := rfl
@[simp] theorem State.setStack_front : (s.setStack v).front = s.front := rfl
@[simp] theorem State.setStack_scan : (s.setStack v).scan = s.scan := rfl
@[simp] theorem State.setStack_pots : (s.setStack v).pots = s.pots := rfl
@[simp] theorem State.setStack_ae : (s.setStack v).ae = s.ae := rfl
@[simp] theorem State.setStack_cool : (s.setStack v).cool = s.cool := rfl
@[simp] theorem State.setStack_link : (s.setStack v).link = s.link := rfl
@[simp] theorem State.setStack_stack : (s.setStack v).stack = v := rfl
@[simp] theorem State.setStack_reg : (s.setStack v).reg = s.reg := rfl
@[simp] theorem State.setStack_energy : (s.setStack v).energy = s.energy := rfl
@[simp] theorem State.setStack_host : (s.setStack v).host = s.host := rfl
@[simp] theorem State.setStack_settings : (s.setStack v).settings = s.settings := rfl
@[simp] theorem State.setStack_events : (s.setStack v).events = s.events := rfl
end

/-! ### State.setReg -/

section
variable (s : State) (v : Regulator)
@[simp] theorem State.setReg_pending : (s.setReg v).pending = s.pending := rfl
@[simp] theorem State.setReg_free : (s.setReg v).free = s.free := rfl
@[simp] theorem State.setReg_ticks : (s.setReg v).ticks = s.ticks := rfl
@[simp] theorem State.setReg_pins : (s.setReg v).pins = s.pins := rfl
@[simp] theorem State.setReg_sup : (s.setReg v).sup = s.sup := rfl
@[simp] theorem State.setReg_front : (s.setReg v).front = s.front := rfl
@[simp] theorem State.setReg_scan : (s.setReg v).scan = s.scan := rfl
@[simp] theorem State.setReg_pots : (s.setReg v).pots = s.pots := rfl
@[simp] theorem State.setReg_ae : (s.setReg v).ae = s.ae := rfl
@[simp] theorem State.setReg_cool : (s.setReg v).cool = s.cool := rfl
@[simp] theorem State.setReg_link : (s.setReg v).link = s.link := rfl
@[simp] theorem State.setReg_stack : (s.setReg v).stack = s.stack := rfl
@[simp] theorem State.setReg_reg : (s.setReg v).reg = v := rfl
@[simp] theorem State.setReg_energy : (s.setReg v).energy = s.energy := rfl
@[simp] theorem State.setReg_host : (s.setReg v).host = s.host := rfl
@[simp] theorem State.setReg_settings : (s.setReg v).settings = s.settings := rfl
@[simp] theorem State.setReg_events : (s.setReg v).events = s.events := rfl
end

/-! ### State.setEnergy -/

section
variable (s : State) (v : Energy)
@[simp] theorem State.setEnergy_pending : (s.setEnergy v).pending = s.pending := rfl
@[simp] theorem State.setEnergy_free : (s.setEnergy v).free = s.free := rfl
@[simp] theorem State.setEnergy_ticks : (s.setEnergy v).ticks = s.ticks := rfl
@[simp] theorem State.setEnergy_pins : (s.setEnergy v).pins = s.pins := rfl
@[simp] theorem State.setEnergy_sup : (s.setEnergy v).sup = s.sup := rfl
@[simp] theorem State.setEnergy_front : (s.setEnergy v).front = s.front := rfl
@[simp] theorem State.setEnergy_scan : (s.setEnergy v).scan = s.scan := rfl
@[simp] theorem State.setEnergy_pots : (s.setEnergy v).pots = s.pots := rfl
@[simp] theorem State.setEnergy_ae : (s.setEnergy v).ae = s.ae := rfl
@[simp] theorem State.setEnergy_cool : (s.setEnergy v).cool = s.cool := rfl
@[simp] theorem State.setEnergy_link : (s.setEnergy v).link = s.link := rfl
@[simp] theorem State.setEnergy_stack : (s.setEnergy v).stack = s.stack := rfl
@[simp] theorem State.setEnergy_reg : (s.setEnergy v).reg = s.reg := rfl
@[simp] theorem State.setEnergy_energy : (s.setEnergy v).energy = v := rfl
@[simp] theorem State.setEnergy_host : (s.setEnergy v).host = s.host := rfl
@[simp] theorem State.setEnergy_settings : (s.setEnergy v).settings = s.settings := rfl
@[simp] theorem State.setEnergy_events : (s.setEnergy v).events = s.events := rfl
end

/-! ### State.setHost -/

section
variable (s : State) (v : HostLink)
@[simp] theorem State.setHost_pending : (s.setHost v).pending = s.pending := rfl
@[simp] theorem State.setHost_free : (s.setHost v).free = s.free := rfl
@[simp] theorem State.setHost_ticks : (s.setHost v).ticks = s.ticks := rfl
@[simp] theorem State.setHost_pins : (s.setHost v).pins = s.pins := rfl
@[simp] theorem State.setHost_sup : (s.setHost v).sup = s.sup := rfl
@[simp] theorem State.setHost_front : (s.setHost v).front = s.front := rfl
@[simp] theorem State.setHost_scan : (s.setHost v).scan = s.scan := rfl
@[simp] theorem State.setHost_pots : (s.setHost v).pots = s.pots := rfl
@[simp] theorem State.setHost_ae : (s.setHost v).ae = s.ae := rfl
@[simp] theorem State.setHost_cool : (s.setHost v).cool = s.cool := rfl
@[simp] theorem State.setHost_link : (s.setHost v).link = s.link := rfl
@[simp] theorem State.setHost_stack : (s.setHost v).stack = s.stack := rfl
@[simp] theorem State.setHost_reg : (s.setHost v).reg = s.reg := rfl
@[simp] theorem State.setHost_energy : (s.setHost v).energy = s.energy := rfl
@[simp] theorem State.setHost_host : (s.setHost v).host = v := rfl
@[simp] theorem State.setHost_settings : (s.setHost v).settings = s.settings := rfl
@[simp] theorem State.setHost_events : (s.setHost v).events = s.events := rfl
end

/-! ### State.setSettings -/

section
variable (s : State) (v : Settings)
@[simp] theorem State.setSettings_pending : (s.setSettings v).pending = s.pending := rfl
@[simp] theorem State.setSettings_free : (s.setSettings v).free = s.free := rfl
@[simp] theorem State.setSettings_ticks : (s.setSettings v).ticks = s.ticks := rfl
@[simp] theorem State.setSettings_pins : (s.setSettings v).pins = s.pins := rfl
@[simp] theorem State.setSettings_sup : (s.setSettings v).sup = s.sup := rfl
@[simp] theorem State.setSettings_front : (s.setSettings v).front = s.front := rfl
@[simp] theorem State.setSettings_scan : (s.setSettings v).scan = s.scan := rfl
@[simp] theorem State.setSettings_pots : (s.setSettings v).pots = s.pots := rfl
@[simp] theorem State.setSettings_ae : (s.setSettings v).ae = s.ae := rfl
@[simp] theorem State.setSettings_cool : (s.setSettings v).cool = s.cool := rfl
@[simp] theorem State.setSettings_link : (s.setSettings v).link = s.link := rfl
@[simp] theorem State.setSettings_stack : (s.setSettings v).stack = s.stack := rfl
@[simp] theorem State.setSettings_reg : (s.setSettings v).reg = s.reg := rfl
@[simp] theorem State.setSettings_energy : (s.setSettings v).energy = s.energy := rfl
@[simp] theorem State.setSettings_host : (s.setSettings v).host = s.host := rfl
@[simp] theorem State.setSettings_settings : (s.setSettings v).settings = v := rfl
@[simp] theorem State.setSettings_events : (s.setSettings v).events = s.events := rfl
end

/-! ### State.setEvents -/

section
variable (s : State) (v : EventQueue)
@[simp] theorem State.setEvents_pending : (s.setEvents v).pending = s.pending := rfl
@[simp] theorem State.setEvents_free : (s.setEvents v).free = s.free := rfl
@[simp] theorem State.setEvents_ticks : (s.setEvents v).ticks = s.ticks := rfl
@[simp] theorem State.setEvents_pins : (s.setEvents v).pins = s.pins := rfl
@[simp] theorem State.setEvents_sup : (s.setEvents v).sup = s.sup := rfl
@[simp] theorem State.setEvents_front : (s.setEvents v).front = s.front := rfl
@[simp] theorem State.setEvents_scan : (s.setEvents v).scan = s.scan := rfl
@[simp] theorem State.setEvents_pots : (s.setEvents v).pots = s.pots := rfl
@[simp] theorem State.setEvents_ae : (s.setEvents v).ae = s.ae := rfl
@[simp] theorem State.setEvents_cool : (s.setEvents v).cool = s.cool := rfl
@[simp] theorem State.setEvents_link : (s.setEvents v).link = s.link := rfl
@[simp] theorem State.setEvents_stack : (s.setEvents v).stack = s.stack := rfl
@[simp] theorem State.setEvents_reg : (s.setEvents v).reg = s.reg := rfl
@[simp] theorem State.setEvents_energy : (s.setEvents v).energy = s.energy := rfl
@[simp] theorem State.setEvents_host : (s.setEvents v).host = s.host := rfl
@[simp] theorem State.setEvents_settings : (s.setEvents v).settings = s.settings := rfl
@[simp] theorem State.setEvents_events : (s.setEvents v).events = v := rfl
end

end Sys2Proof.Machine
end

