-- ==== Sys2Proof/Laws/Access.lean ====
section
/-! SUPPORT. One record of a block read after a write of one, and what a posting leaves in every field and in the
event queue. -/

namespace Sys2Proof

@[simp] theorem Six.get_set_self {α : Type} (v : Six α) (g : Group) (x : α) : (v.set g x).get g = x := by
  cases g <;> rfl

theorem Six.get_set_ne {α : Type} (v : Six α) {g h : Group} (x : α) (e : h ≠ g) : (v.set g x).get h = v.get h := by
  cases g <;> cases h <;> first | rfl | exact absurd rfl e

@[simp] theorem Six.get_ofFn {α : Type} (f : Group → α) (g : Group) : (Six.ofFn f).get g = f g := by
  cases g <;> rfl

@[simp] theorem Six.get_const {α : Type} (x : α) (g : Group) : (Six.const x).get g = x := by
  cases g <;> rfl

end Sys2Proof

namespace Sys2Proof.Machine

/-! ### One record of a block -/

section
variable (s : State) (g h : Group)

@[simp] theorem unit_setUnit_self (u : GroupUnit) : (s.setUnit g u).unit g = u := Six.get_set_self _ _ _

theorem unit_setUnit_ne {g h : Group} (u : GroupUnit) (e : h ≠ g) : (s.setUnit g u).unit h = s.unit h :=
  Six.get_set_ne _ _ e

@[simp] theorem bus_setUnit (u : GroupUnit) : (s.setUnit g u).link.bus = s.link.bus := rfl
@[simp] theorem lastServed_setUnit (u : GroupUnit) : (s.setUnit g u).link.lastServed = s.link.lastServed := rfl
@[simp] theorem lastOrder_setUnit (u : GroupUnit) : (s.setUnit g u).link.lastOrder = s.link.lastOrder := rfl

@[simp] theorem coolOf_setCoolOf_self (c : Cooling) : (s.setCoolOf g c).coolOf g = c := Six.get_set_self _ _ _

theorem coolOf_setCoolOf_ne {g h : Group} (c : Cooling) (e : h ≠ g) : (s.setCoolOf g c).coolOf h = s.coolOf h :=
  Six.get_set_ne _ _ e

@[simp] theorem coolOf_setLoop_self (l : LoopRecord) :
    (s.setLoop g l).coolOf g = { s.coolOf g with loop := l } := coolOf_setCoolOf_self _ _ _

@[simp] theorem coolOf_setCap_self (c : CapRecord) :
    (s.setCap g c).coolOf g = { s.coolOf g with cap := c } := coolOf_setCoolOf_self _ _ _

@[simp] theorem coolOf_setLeft_self (x : LoopLeft) :
    (s.setLeft g x).coolOf g = { s.coolOf g with left := x } := coolOf_setCoolOf_self _ _ _

theorem pot_setPot_self (p : Nat) (x : Pot) (h1 : 1 ≤ p) (h2 : p ≤ s.pots.length) : (s.setPot p x).pot p = x := by
  unfold State.pot State.setPot
  rw [State.setPots_pots, List.getD_eq_getElem?_getD, List.getElem?_set_self (by omega)]
  rfl

theorem pot_setPot_ne {p q : Nat} (x : Pot) (h1 : 1 ≤ p) (h2 : 1 ≤ q) (e : q ≠ p) :
    (s.setPot p x).pot q = s.pot q := by
  unfold State.pot State.setPot
  rw [State.setPots_pots, List.getD_eq_getElem?_getD, List.getElem?_set_ne (by omega), ← List.getD_eq_getElem?_getD]

@[simp] theorem pots_length_setPot (p : Nat) (x : Pot) : (s.setPot p x).pots.length = s.pots.length := by
  simp [State.setPot]

end

/-! ### When an event is due -/

theorem lossDue_iff {s : State} :
    s.lossDue = true ↔ ∃ start, s.sup.lossTimer = some start ∧ start + 50 ≤ s.ticks := by
  unfold State.lossDue
  cases s.sup.lossTimer <;> simp

theorem safeDue_iff {s : State} {level : Bool} :
    s.safeDue level = true ↔ level ≠ s.sup.safeLevel ∧ 2 ≤ s.sup.safeRun := by
  simp [State.safeDue]

theorem keyDue_iff {h : HostLink} {level : Bool} :
    h.keyDue level = true ↔ level ≠ h.keyLevel ∧ 2 ≤ h.keyRun := by
  simp [HostLink.keyDue]

theorem utilityDue_iff {k : CeilingStack} {level : Bool} :
    k.utilityDue level = true ↔
      level ≠ k.utility ∧ if level = true then 10 ≤ k.assertCount else 2 ≤ k.releaseCount := by
  cases level <;> simp [CeilingStack.utilityDue]

/-- An evaluation gone on with from step 1 answers the same state unless a sample has left it there. -/
theorem sensorChange_of_left_ne {s : State} {g : Group} (h : (s.coolOf g).left ≠ .sensor) :
    s.sensorChange g = s := by
  simp [State.sensorChange, h]

/-- An evaluation gone on with from step 5 answers the same state unless a sample has left it there. -/
theorem coolingStop_of_left_ne {s : State} {g : Group} (h : (s.coolOf g).left ≠ .stop) :
    s.coolingStop g = s := by
  simp [State.coolingStop, h]

/-! ### A posting -/

section
variable (s : State) (k : EventKind) (n : Nat) (fields : List (List Byte))

@[simp] theorem State.post_pending : (s.post k n fields).pending = s.pending := rfl
@[simp] theorem State.post_free : (s.post k n fields).free = s.free := rfl
@[simp] theorem State.post_ticks : (s.post k n fields).ticks = s.ticks := rfl
@[simp] theorem State.post_pins : (s.post k n fields).pins = s.pins := rfl
@[simp] theorem State.post_sup : (s.post k n fields).sup = s.sup := rfl
@[simp] theorem State.post_front : (s.post k n fields).front = s.front := rfl
@[simp] theorem State.post_scan : (s.post k n fields).scan = s.scan := rfl
@[simp] theorem State.post_pots : (s.post k n fields).pots = s.pots := rfl
@[simp] theorem State.post_ae : (s.post k n fields).ae = s.ae := rfl
@[simp] theorem State.post_cool : (s.post k n fields).cool = s.cool := rfl
@[simp] theorem State.post_link : (s.post k n fields).link = s.link := rfl
@[simp] theorem State.post_stack : (s.post k n fields).stack = s.stack := rfl
@[simp] theorem State.post_reg : (s.post k n fields).reg = s.reg := rfl
@[simp] theorem State.post_energy : (s.post k n fields).energy = s.energy := rfl
@[simp] theorem State.post_host : (s.post k n fields).host = s.host := rfl
@[simp] theorem State.post_settings : (s.post k n fields).settings = s.settings := rfl
end

theorem tells_congr {s t : State} {k : EventKind} {n : Nat} {fields : List (List Byte)} (e : t.events = s.events) :
    t.Tells k n fields ↔ s.Tells k n fields := by unfold State.Tells; rw [e]

/-- What has just been posted is told. -/
theorem tells_post_self {s : State} {k : EventKind} {n : Nat} {fields : List (List Byte)} :
    (s.post k n fields).Tells k n fields := by
  unfold State.Tells State.post EventQueue.post EventQueue.evalAttn
  simp only [State.setEvents]
  split
  · rename_i h
    simp only [List.any_eq_true, Event.about, Bool.and_eq_true, beq_iff_eq] at h
    obtain ⟨e, he, h1, h2⟩ := h
    refine .inr ⟨e.again (eventValue fields) s.energy.time, ?_, h1, h2, rfl⟩
    simp only [List.mem_map]
    exact ⟨e, he, by simp [Event.about, h1, h2]⟩
  · split
    · exact .inr ⟨⟨k, n, eventValue fields, s.energy.time, s.energy.time, 1⟩, by simp, rfl, rfl, rfl⟩
    · exact .inl rfl

/-- What is told stays told when something of another kind or subject is posted. -/
theorem tells_post {s : State} {k k' : EventKind} {n n' : Nat} {fields fields' : List (List Byte)}
    (h : s.Tells k n fields) (hne : k' ≠ k ∨ n' ≠ n) : (s.post k' n' fields').Tells k n fields := by
  unfold State.Tells State.post EventQueue.post EventQueue.evalAttn at *
  simp only [State.setEvents]
  split
  · rcases h with h | ⟨e, he, h1, h2, h3⟩
    · exact .inl h
    · refine .inr ⟨e, ?_, h1, h2, h3⟩
      simp only [List.mem_map]
      refine ⟨e, he, ?_⟩
      rw [if_neg]
      simp only [Event.about, h1, h2, Bool.and_eq_true, beq_iff_eq]
      rintro ⟨a, b⟩
      rcases hne with h | h
      · exact h a.symm
      · exact h b.symm
  · split
    · rcases h with h | ⟨e, he, h1, h2, h3⟩
      · exact .inl h
      · exact .inr ⟨e, by simp [he], h1, h2, h3⟩
    · exact .inl rfl

end Sys2Proof.Machine
end

