-- ==== Sys2Proof/Laws/AnodeEffect.lean ====
section
/-! SUPPORT. The anode effect monitor: the map flag after a write, the closing of an AE, and the change of a pot's
switching state, and the count of the map after a write of one flag. -/

namespace Sys2Proof.Machine

/-- A flag of the map read after a write of one (R65). -/
theorem map_flag_set (m : List Word32) (p q : Nat) (b : Bool)
    (hm : m.length = 12) (hp1 : 1 ≤ p) (hp : p ≤ 384) (hq1 : 1 ≤ q) :
   ((aeMapSet m p b).getD ((q - 1) / 32) 0#32).getLsbD ((q - 1) % 32)
      = if q = p then b else (m.getD ((q-1)/32) 0#32).getLsbD ((q-1)%32) := by
  unfold aeMapSet
  dsimp only
  by_cases hw : (q - 1) / 32 = (p - 1) / 32
  · rw [hw, List.getD_eq_getElem?_getD, List.getElem?_set_self (by omega), Option.getD_some]
    have hb : (1#32 <<< ((p - 1) % 32)).getLsbD ((q-1) % 32) = decide ((q-1)%32 = (p-1)%32) := by
      have h1 : (p - 1) % 32 < 32 := Nat.mod_lt _ (by decide)
      have h2 : (q - 1) % 32 < 32 := Nat.mod_lt _ (by decide)
      generalize (p-1)%32 = i at *; generalize (q-1)%32 = j at *
      rw [BitVec.getLsbD_shiftLeft]
      by_cases hij : j = i
      · subst hij; simp [h2]
      · by_cases hlt : j < i
        · simp [hlt]; omega
        · have : (1#32).getLsbD (j - i) = false := by
            rw [BitVec.getLsbD_one]; simp; omega
          simp [this]; omega
    by_cases he : q = p
    · subst he
      have : (q-1) % 32 < 32 := Nat.mod_lt _ (by decide)
      cases b
      · simp [this]
      · simp [hb]
    · have : (q-1)%32 ≠ (p-1)%32 := by omega
      have h32 : (q-1) % 32 < 32 := Nat.mod_lt _ (by decide)
      rw [if_neg he]
      cases b
      · simp only [Bool.false_eq_true, if_false, BitVec.getLsbD_and, BitVec.getLsbD_not, hb, this,
          decide_false, h32, decide_true]
        simp
      · simp only [if_true, BitVec.getLsbD_or, hb, this, decide_false, Bool.or_false]
  · rw [List.getD_eq_getElem?_getD, List.getElem?_set_ne (fun h => hw h.symm), ← List.getD_eq_getElem?_getD, if_neg]
    intro h; subst h; exact hw rfl

@[simp] theorem aeMapSet_length (m : List Word32) (p : Nat) (b : Bool) : (aeMapSet m p b).length = m.length := by
  simp [aeMapSet]

/-- The hold flag brought into line changes nothing else of the monitor, the pots or the energy unit (R66). -/
theorem evalHold_fields (s : State) : s.evalHold.ae.map = s.ae.map ∧ s.evalHold.ae.closed = s.ae.closed
    ∧ s.evalHold.ae.log = s.ae.log ∧ s.evalHold.pots = s.pots ∧ s.evalHold.ae.excess = s.ae.excess
    ∧ s.evalHold.energy = s.energy := by
  unfold State.evalHold; dsimp only; split <;> simp

theorem tells_evalHold {s : State} {k : EventKind} {n : Nat} {fs : List (List Byte)} (h : s.Tells k n fs)
    (hk : k ≠ .aeHold) : s.evalHold.Tells k n fs := by
  unfold State.evalHold; dsimp only; split
  · exact h
  · exact tells_post ((tells_congr rfl).mpr h) (.inl (fun e => hk e.symm))

/-- Everything that closing an AE does (R64). -/
theorem closeAe_spec (s : State) (p : Nat) (c : EndCause) (nx : AeState)
    (hm : s.ae.map.length = 12) (hl : s.pots.length = 384) (hp1 : 1 ≤ p) (hp : p ≤ 384) :
   let t := s.closeAe p c nx
   t.pot p = { s.pot p with ae := { (s.pot p).ae with frozen := false, state := nx } }
   ∧ (∀ q, 1 ≤ q → q ≠ p → t.pot q = s.pot q) ∧ t.pots.length = 384 ∧ t.ae.map.length = 12
   ∧ (∀ q, 1 ≤ q → q ≠ p → t.ae.flag q = s.ae.flag q)
   ∧ s.AeClosed t p (s.pot p).ae c ∧ t.ae.excess = s.ae.excess := by
  unfold State.closeAe
  extract_lets a number src0 s1 s2 s3 s4 src1 t src2
  have f2 := evalHold_fields (s1.setAeFlag p false)
  have hpot2 : ∀ q, s2.pot q = s.pot q := fun q => by unfold State.pot; rw [f2.2.2.2.1]; rfl
  have hl2 : s2.pots.length = 384 := by rw [f2.2.2.2.1]; exact hl
  have e3 : s3.pot p = { s.pot p with ae := { a with frozen := false } } := by
    show (s2.setPot p _).pot p = _
    rw [pot_setPot_self _ _ _ hp1 (by omega), hpot2]
  have e4 : s4.pot p = s3.pot p := rfl
  have hl4 : s4.pots.length = 384 := by show (s2.setPot p _).pots.length = _; simp [hl2]
  have et : t.pot p = { s.pot p with ae := { (s.pot p).ae with frozen := false, state := nx } } := by
    show (s4.setPot p { s4.pot p with ae := { (s4.pot p).ae with state := nx } }).pot p = _
    rw [pot_setPot_self _ _ _ hp1 (by omega), e4, e3]
  have hmap : t.ae.map = aeMapSet s.ae.map p false := by
    show s2.ae.map = _; rw [f2.1]; rfl
  have hs1 : s1.ae = { s.ae with
      closed := number, log := keepNewest Config.aeLogSize (s.ae.log ++ [a.logRecord number p c]) } := State.setAe_ae _ _
  have hfl : (s1.setAeFlag p false).ae.log = s1.ae.log := by unfold State.setAeFlag; simp only [State.setAe_ae]
  have hfc : (s1.setAeFlag p false).ae.closed = s1.ae.closed := by unfold State.setAeFlag; simp only [State.setAe_ae]
  have hta : t.ae = s2.ae := rfl
  have hc : t.ae.closed = number := by rw [hta, f2.2.1, hfc, hs1]
  have hlog : t.ae.log = keepNewest Config.aeLogSize (s.ae.log ++ [a.logRecord number p c]) := by
    rw [hta, f2.2.2.1, hfl, hs1]
  refine ⟨et, fun q h1 h2 => ?_, ?_, ?_, fun q h1 h2 => ?_, ⟨?_, ?_, ?_, ?_⟩, ?_⟩
  · show (s4.setPot p _).pot q = _
    rw [pot_setPot_ne _ _ hp1 h1 h2]
    show (s2.setPot p _).pot q = _
    rw [pot_setPot_ne _ _ hp1 h1 h2, hpot2]
  · show (s4.setPot p _).pots.length = _; simp [hl4]
  · rw [hmap, aeMapSet_length, hm]
  · unfold AeMonitor.flag; rw [hmap, map_flag_set _ _ _ _ hm hp1 hp h1, if_neg h2]
  · show s2.ae.closed = _; rw [f2.2.1]; show nextAeNumber s.ae.closed = _; unfold nextAeNumber; rfl
  · rw [hlog, hc]; simp only [keepNewest, PotAe.logRecord, Config.aeLogSize, a]
  · unfold AeMonitor.flag; rw [hmap, map_flag_set _ _ _ _ hm hp1 hp hp1, if_pos rfl]
  · rw [hc]
    exact (tells_congr (s := s4) rfl).mpr tells_post_self
  · show s2.ae.excess = _; rw [f2.2.2.2.2.1]; rfl

theorem mem_pots {p : Nat} : p ∈ potNumbers ↔ 1 ≤ p ∧ p ≤ 384 := by
  unfold potNumbers; simp only [List.mem_map, List.mem_range, Config.pots]
  exact ⟨fun ⟨a, h, e⟩ => by omega, fun ⟨h1, h2⟩ => ⟨p - 1, by omega, by omega⟩⟩

/-- Everything that a change of a pot's switching state does (R63). -/
theorem changePot_spec (s : State) (p : Nat) (cut : Bool)
    (hm : s.ae.map.length = 12) (hl : s.pots.length = 384) (hp1 : 1 ≤ p) (hp : p ≤ 384) :
   s.PotSwitched (s.changePot p cut) p cut := by
  unfold State.changePot
  cases cut with
  | false =>
    simp only [Bool.false_eq_true, if_false]
    have : (s.setPot p { s.pot p with
          cutOut := false, seeded := false,
          ae := { (s.pot p).ae with state := .normal, frozen := false } }).pot p = _ :=
      pot_setPot_self _ _ _ hp1 (by omega)
    refine ⟨by rw [this], by rw [this], by rw [this]; rfl, by rw [this]; rfl, by rw [this], by rw [this],
        by rw [this], by rw [this], by rw [this], by simp [State.setPot],
        fun q hq hne => pot_setPot_ne _ _ hp1 (mem_pots.mp hq).1 hne⟩
  | true =>
    simp only [if_true]
    by_cases ha : (s.pot p).ae.state.inAe = true
    · rw [if_pos ha]
      obtain ⟨c1, c2, c3, c4, c5, c6, c7⟩ := closeAe_spec s p .cutOut .out hm hl hp1 hp
      generalize s.closeAe p .cutOut .out = u at *
      have : (u.setPot p { u.pot p with
          cutOut := true,
          ae := { (u.pot p).ae with state := .out, frozen := false } }).pot p = _ :=
        pot_setPot_self _ _ _ hp1 (by omega)
      refine ⟨by rw [this], by rw [this], by rw [this]; rfl, by rw [this, c1]; rfl, by rw [this, c1],
        by rw [this, c1], by rw [this, c1], by rw [this, c1], by rw [this, c1], ?_, fun q hq hne => ?_⟩
      · rw [if_pos ⟨rfl, ha⟩]; exact c6
      · rw [pot_setPot_ne _ _ hp1 (mem_pots.mp hq).1 hne]; exact c2 q (mem_pots.mp hq).1 hne
    · rw [if_neg ha]
      have : (s.setPot p { s.pot p with
          cutOut := true,
          ae := { (s.pot p).ae with state := .out, frozen := false } }).pot p = _ :=
        pot_setPot_self _ _ _ hp1 (by omega)
      refine ⟨by rw [this], by rw [this], by rw [this]; rfl, by rw [this]; rfl, by rw [this], by rw [this],
        by rw [this], by rw [this], by rw [this], by simp [ha, State.setPot],
        fun q hq hne => pot_setPot_ne _ _ hp1 (mem_pots.mp hq).1 hne⟩

/-- The ones below `n` as a sum over the bits. -/
theorem onesBelow_eq (n : Nat) : ∀ v, onesBelow n v = ∑ i ∈ Finset.range n, (v.testBit i).toNat := by
  induction n with
  | zero => intro v; rfl
  | succ n ih =>
    intro v
    rw [Finset.sum_range_succ', onesBelow, ih, Nat.add_comm]
    congr 1
    · exact Finset.sum_congr rfl fun i _ => by rw [Nat.testBit_succ]
    · rw [Nat.testBit_zero]; rcases Nat.mod_two_eq_zero_or_one v with h | h <;> simp [h]

/-- The ones of a word with one bit replaced. -/
theorem onesBelow_replace (w : Word32) (k : Nat) (b : Bool) (hk : k < 32) :
    onesBelow 32 (if b then w ||| 1#32 <<< k else w &&& ~~~(1#32 <<< k)).toNat + (w.getLsbD k).toNat
      = onesBelow 32 w.toNat + b.toNat := by
  have bit : ∀ i, (1#32 <<< k).getLsbD i = (decide (i = k)) := by
    intro i
    rw [BitVec.getLsbD_shiftLeft, BitVec.getLsbD_one]
    by_cases e : i = k
    · subst e; simp [hk]
    · by_cases l : i < k
      · simp [e, l]
      · simp [e]; omega
  have read : ∀ i < 32, (if b then w ||| 1#32 <<< k else w &&& ~~~(1#32 <<< k)).getLsbD i
      = if i = k then b else w.getLsbD i := by
    intro i hi
    by_cases e : i = k
    · subst e; cases b <;> simp [hk]
    · rw [if_neg e]; cases b <;> simp only [if_true, Bool.false_eq_true, if_false, BitVec.getLsbD_or,
        BitVec.getLsbD_and, BitVec.getLsbD_not, bit, e, decide_false, hi, decide_true, Bool.or_false, Bool.not_false,
        Bool.and_true]
  generalize (if b then w ||| 1#32 <<< k else w &&& ~~~(1#32 <<< k)) = x at read
  have mem : k ∈ Finset.range 32 := Finset.mem_range.mpr hk
  rw [onesBelow_eq, onesBelow_eq, ← Finset.add_sum_erase _ _ mem, ← Finset.add_sum_erase _ _ mem]
  have rest : ∑ i ∈ (Finset.range 32).erase k, (x.toNat.testBit i).toNat
      = ∑ i ∈ (Finset.range 32).erase k, (w.toNat.testBit i).toNat :=
    Finset.sum_congr rfl fun i hi => by
      have h := Finset.mem_erase.mp hi
      have := read i (Finset.mem_range.mp h.2)
      rw [if_neg h.1] at this
      exact congrArg Bool.toNat this
  have one : x.toNat.testBit k = b := by have := read k hk; rwa [if_pos rfl] at this
  have was : w.getLsbD k = w.toNat.testBit k := rfl
  rw [rest, one, was]; omega

/-- A sum over a list with one element replaced. -/
theorem sum_map_set {α : Type} (f : α → Nat) (d x : α) : ∀ (xs : List α) (i : Nat), i < xs.length →
    ((xs.set i x).map f).sum + f (xs.getD i d) = (xs.map f).sum + f x := by
  intro xs
  induction xs with
  | nil => intro i h; simp at h
  | cons y ys ih =>
    intro i h
    cases i with
    | zero => simp; omega
    | succ i => have := ih i (by simpa using h); simp at this ⊢; omega

/-- The AE count after a write of one flag (R65): it follows the flag. -/
theorem aeMapCount_set (m : AeMonitor) (p : Nat) (b : Bool) (hm : m.map.length = 12) (hp : p ≤ 384) :
    aeMapCount (aeMapSet m.map p b) + (m.flag p).toNat = aeMapCount m.map + b.toNat := by
  have h1 := sum_map_set (fun w : Word32 => onesBelow 32 w.toNat) 0#32
    (if b then m.map.getD ((p - 1) / 32) 0#32 ||| 1#32 <<< ((p - 1) % 32)
      else m.map.getD ((p - 1) / 32) 0#32 &&& ~~~(1#32 <<< ((p - 1) % 32))) m.map ((p - 1) / 32) (by omega)
  have h2 := onesBelow_replace (m.map.getD ((p - 1) / 32) 0#32) ((p - 1) % 32) b (by omega)
  unfold aeMapCount aeMapSet AeMonitor.flag
  dsimp only at h1 ⊢
  omega

end Sys2Proof.Machine
end

