-- ==== Sys2Proof/Laws/Bytes.lean ====
section
/-! SUPPORT. Bytes of fields: their number, and that a field reads back what it was made from (R182). -/

namespace Sys2Proof.Machine

@[simp] theorem beBytes_length (n v : Nat) : (beBytes n v).length = n := by
  induction n generalizing v with
  | zero => rfl
  | succ n ih => simp [beBytes, ih]

theorem beNat_append_singleton (xs : List Byte) (b : Byte) : beNat (xs ++ [b]) = 256 * beNat xs + b.toNat := by
  simp [beNat]

@[simp] theorem beNat_beBytes (n v : Nat) : beNat (beBytes n v) = v % 256 ^ n := by
  induction n generalizing v with
  | zero => simp [beBytes, beNat, Nat.mod_one]
  | succ n ih =>
    have h : v % (256 * 256 ^ n) = v % 256 + 256 * (v / 256 % 256 ^ n) := Nat.mod_mul
    have e : 256 ^ (n + 1) = 256 * 256 ^ n := by rw [Nat.pow_succ, Nat.mul_comm]
    rw [beBytes, beNat_append_singleton, ih, BitVec.toNat_ofNat, e, h]
    omega

@[simp] theorem beBytes_one (v : Nat) : beBytes 1 v = [BitVec.ofNat 8 v] := rfl

@[simp] theorem flagByte_length (b : Bool) : (flagByte b).length = 1 := rfl

@[simp] theorem IntervalFlags.bytes_length (f : IntervalFlags) : f.bytes.length = 5 := rfl

@[simp] theorem PeriodFlags.bytes_length (f : PeriodFlags) : f.bytes.length = 4 := rfl

@[simp] theorem beNat_flagByte (b : Bool) : beNat (flagByte b) = b.toNat := by cases b <;> rfl

@[simp] theorem optBytes_length (n : Nat) (x : Option Nat) : (optBytes n x).length = n + 1 := by
  cases x <;> simp [optBytes]

@[simp] theorem beSigned_length (n : Nat) (v : Int) : (beSigned n v).length = n := by simp [beSigned]

@[simp] theorem timeBytes_length (x : Time) : (timeBytes x).length = 5 := by simp [timeBytes]

@[simp] theorem optTimeBytes_length (x : Option Time) : (optTimeBytes x).length = 5 := by
  cases x <;> simp [optTimeBytes]

@[simp] theorem withCrc_length (bytes : List Byte) : (withCrc bytes).length = bytes.length + 2 := by
  simp [withCrc]

/-- The field that stands after `xs`. -/
theorem field_append {xs : List Byte} {at_ n : Nat} (ys zs : List Byte) (h : xs.length = at_)
    (hn : ys.length = n) : field (xs ++ (ys ++ zs)) at_ n = beNat ys := by
  subst h hn
  simp [field]

/-- A run of bytes followed by its CRC passes the check (R165). -/
@[simp] theorem crcGood_withCrc (bytes : List Byte) : crcGood (withCrc bytes) = true := by
  have h : (crc bytes).toNat % 65536 = (crc bytes).toNat := Nat.mod_eq_of_lt (crc bytes).isLt
  simp [crcGood, withCrc, h]

/-- A run of bytes followed by two bytes that are not its CRC fails the check (R165). -/
theorem crcGood_wrong (bytes : List Byte) (w : Word16) (h : w ≠ crc bytes) :
    crcGood (bytes ++ beBytes 2 w.toNat) = false := by
  have e : w.toNat % 65536 = w.toNat := Nat.mod_eq_of_lt w.isLt
  have : w.toNat ≠ (crc bytes).toNat := fun e => h (BitVec.eq_of_toNat_eq e)
  simp [crcGood, e, this]

end Sys2Proof.Machine
end

