-- ==== Sys2Proof/Laws/Touches.lean ====
section
/-! SUPPORT. Frames: `Touches l s t` says that `t` differs from `s` in the blocks listed in `l` only. Each
operation has one lemma that names the blocks it can change, in a form that `simp` uses to strip the
operation from a goal. -/

namespace Sys2Proof.Machine

theorem Block.Same.refl (b : Block) (s : State) : b.Same s s := by cases b <;> rfl

theorem Block.Same.trans {b : Block} {s t u : State} (h : b.Same s t) (k : b.Same t u) : b.Same s u := by
  cases b <;> simp_all [Block.Same]

theorem Block.Same.symm {b : Block} {s t : State} (h : b.Same s t) : b.Same t s := by
  cases b <;> simp_all [Block.Same]

@[simp] theorem Touches.refl (l : List Block) (s : State) : Touches l s s := fun b _ => Block.Same.refl b s

theorem Touches.trans {l : List Block} {s t u : State} (h : Touches l s t) (k : Touches l t u) :
    Touches l s u := fun b hb => (h b hb).trans (k b hb)

theorem Touches.mono {k l : List Block} {s t : State} (h : Touches k s t) (hk : k ⊆ l) : Touches l s t :=
  fun b hb => h b fun hm => hb (hk hm)

/-- An operation that touches only blocks of `l` can be stripped. -/
theorem Touches.strip {k l : List Block} {s t u : State} (h : Touches k t u) (hk : k ⊆ l) :
    Touches l s u ↔ Touches l s t :=
  ⟨fun a b hb => (a b hb).trans (h.mono hk b hb).symm, fun a => a.trans (h.mono hk)⟩

/-! ### What an untouched block gives -/

theorem Touches.pending {l : List Block} {s t : State} (h : Touches l s t) (hb : .pending ∉ l) : t.pending = s.pending :=
  h .pending hb
theorem Touches.free {l : List Block} {s t : State} (h : Touches l s t) (hb : .free ∉ l) : t.free = s.free :=
  h .free hb
theorem Touches.ticks {l : List Block} {s t : State} (h : Touches l s t) (hb : .ticks ∉ l) : t.ticks = s.ticks :=
  h .ticks hb
theorem Touches.pins {l : List Block} {s t : State} (h : Touches l s t) (hb : .pins ∉ l) : t.pins = s.pins :=
  h .pins hb
theorem Touches.sup {l : List Block} {s t : State} (h : Touches l s t) (hb : .sup ∉ l) : t.sup = s.sup :=
  h .sup hb
theorem Touches.front {l : List Block} {s t : State} (h : Touches l s t) (hb : .front ∉ l) : t.front = s.front :=
  h .front hb
theorem Touches.scan {l : List Block} {s t : State} (h : Touches l s t) (hb : .scan ∉ l) : t.scan = s.scan :=
  h .scan hb
theorem Touches.pots {l : List Block} {s t : State} (h : Touches l s t) (hb : .pots ∉ l) : t.pots = s.pots :=
  h .pots hb
theorem Touches.ae {l : List Block} {s t : State} (h : Touches l s t) (hb : .ae ∉ l) : t.ae = s.ae :=
  h .ae hb
theorem Touches.cool {l : List Block} {s t : State} (h : Touches l s t) (hb : .cool ∉ l) : t.cool = s.cool :=
  h .cool hb
theorem Touches.link {l : List Block} {s t : State} (h : Touches l s t) (hb : .link ∉ l) : t.link = s.link :=
  h .link hb
theorem Touches.stack {l : List Block} {s t : State} (h : Touches l s t) (hb : .stack ∉ l) : t.stack = s.stack :=
  h .stack hb
theorem Touches.reg {l : List Block} {s t : State} (h : Touches l s t) (hb : .reg ∉ l) : t.reg = s.reg :=
  h .reg hb
theorem Touches.energy {l : List Block} {s t : State} (h : Touches l s t) (hb : .energy ∉ l) : t.energy = s.energy :=
  h .energy hb
theorem Touches.host {l : List Block} {s t : State} (h : Touches l s t) (hb : .host ∉ l) : t.host = s.host :=
  h .host hb
theorem Touches.settings {l : List Block} {s t : State} (h : Touches l s t) (hb : .settings ∉ l) : t.settings = s.settings :=
  h .settings hb
theorem Touches.events {l : List Block} {s t : State} (h : Touches l s t) (hb : .events ∉ l) : t.events = s.events :=
  h .events hb

/-! ### The named updates -/

section
variable {l : List Block} {s t : State}

@[simp] theorem touches_setFree {v : Nat} (h : .free ∈ l) :
    Touches l s (t.setFree v) ↔ Touches l s t :=
  Touches.strip (k := [.free]) (fun b hb => by cases b <;> simp_all [Block.Same]) (by simpa using h)

@[simp] theorem touches_setTicks {v : Nat} (h : .ticks ∈ l) :
    Touches l s (t.setTicks v) ↔ Touches l s t :=
  Touches.strip (k := [.ticks]) (fun b hb => by cases b <;> simp_all [Block.Same]) (by simpa using h)

@[simp] theorem touches_setPins {v : Pins} (h : .pins ∈ l) :
    Touches l s (t.setPins v) ↔ Touches l s t :=
  Touches.strip (k := [.pins]) (fun b hb => by cases b <;> simp_all [Block.Same]) (by simpa using h)

@[simp] theorem touches_setSup {v : Supervisor} (h : .sup ∈ l) :
    Touches l s (t.setSup v) ↔ Touches l s t :=
  Touches.strip (k := [.sup]) (fun b hb => by cases b <;> simp_all [Block.Same]) (by simpa using h)

@[simp] theorem touches_setFront {v : FrontEnd} (h : .front ∈ l) :
    Touches l s (t.setFront v) ↔ Touches l s t :=
  Touches.strip (k := [.front]) (fun b hb => by cases b <;> simp_all [Block.Same]) (by simpa using h)

@[simp] theorem touches_setScan {v : Scan} (h : .scan ∈ l) :
    Touches l s (t.setScan v) ↔ Touches l s t :=
  Touches.strip (k := [.scan]) (fun b hb => by cases b <;> simp_all [Block.Same]) (by simpa using h)

@[simp] theorem touches_setPots {v : List Pot} (h : .pots ∈ l) :
    Touches l s (t.setPots v) ↔ Touches l s t :=
  Touches.strip (k := [.pots]) (fun b hb => by cases b <;> simp_all [Block.Same]) (by simpa using h)

@[simp] theorem touches_setAe {v : AeMonitor} (h : .ae ∈ l) :
    Touches l s (t.setAe v) ↔ Touches l s t :=
  Touches.strip (k := [.ae]) (fun b hb => by cases b <;> simp_all [Block.Same]) (by simpa using h)

@[simp] theorem touches_setCool {v : Six Cooling} (h : .cool ∈ l) :
    Touches l s (t.setCool v) ↔ Touches l s t :=
  Touches.strip (k := [.cool]) (fun b hb => by cases b <;> simp_all [Block.Same]) (by simpa using h)

@[simp] theorem touches_setLink {v : GroupLink} (h : .link ∈ l) :
    Touches l s (t.setLink v) ↔ Touches l s t :=
  Touches.strip (k := [.link]) (fun b hb => by cases b <;> simp_all [Block.Same]) (by simpa using h)

@[simp] theorem touches_setStack {v : CeilingStack} (h : .stack ∈ l) :
    Touches l s (t.setStack v) ↔ Touches l s t :=
  Touches.strip (k := [.stack]) (fun b hb => by cases b <;> simp_all [Block.Same]) (by simpa using h)

@[simp] theorem touches_setReg {v : Regulator} (h : .reg ∈ l) :
    Touches l s (t.setReg v) ↔ Touches l s t :=
  Touches.strip (k := [.reg]) (fun b hb => by cases b <;> simp_all [Block.Same]) (by simpa using h)

@[simp] theorem touches_setEnergy {v : Energy} (h : .energy ∈ l) :
    Touches l s (t.setEnergy v) ↔ Touches l s t :=
  Touches.strip (k := [.energy]) (fun b hb => by cases b <;> simp_all [Block.Same]) (by simpa using h)

@[simp] theorem touches_setHost {v : HostLink} (h : .host ∈ l) :
    Touches l s (t.setHost v) ↔ Touches l s t :=
  Touches.strip (k := [.host]) (fun b hb => by cases b <;> simp_all [Block.Same]) (by simpa using h)

@[simp] theorem touches_setSettings {v : Settings} (h : .settings ∈ l) :
    Touches l s (t.setSettings v) ↔ Touches l s t :=
  Touches.strip (k := [.settings]) (fun b hb => by cases b <;> simp_all [Block.Same]) (by simpa using h)

@[simp] theorem touches_setEvents {v : EventQueue} (h : .events ∈ l) :
    Touches l s (t.setEvents v) ↔ Touches l s t :=
  Touches.strip (k := [.events]) (fun b hb => by cases b <;> simp_all [Block.Same]) (by simpa using h)

/-! ### Composition -/

@[simp] theorem touches_ite {c : Prop} [Decidable c] {a b : State} :
    Touches l s (if c then a else b) ↔ (c → Touches l s a) ∧ (¬c → Touches l s b) := by
  split <;> simp_all

@[simp] theorem snd_ite {c : Prop} [Decidable c] {a b : Reply × State} :
    (if c then a else b).2 = if c then a.2 else b.2 := apply_ite Prod.snd c a b

@[simp] theorem touches_when {c : Bool} {f : State → State} (h : ∀ t, Touches l t (f t)) :
    Touches l s (t.when c f) ↔ Touches l s t := by
  cases c
  · exact Iff.rfl
  · exact Touches.strip (h t) (List.Subset.refl l)

@[simp] theorem touches_foldl {α : Type} {xs : List α} {f : State → α → State}
    (h : ∀ t x, Touches l t (f t x)) : Touches l s (xs.foldl f t) ↔ Touches l s t := by
  induction xs generalizing t with
  | nil => exact Iff.rfl
  | cons x xs ih => rw [List.foldl_cons, ih]; exact Touches.strip (h t x) (List.Subset.refl l)

@[simp] theorem touches_eachGroup {f : State → Group → State} (h : ∀ t g, Touches l t (f t g)) :
    Touches l s (t.eachGroup f) ↔ Touches l s t := touches_foldl h

end

end Sys2Proof.Machine
end

