-- ==== Sys2Proof/Laws/Frames.lean ====
section
/-! SUPPORT. The blocks that each operation can change: one lemma for each operation, in the form that strips
it from a goal `Touches l s _`. -/

namespace Sys2Proof.Machine

variable {l : List Block} {s t : State} {g : Group} {p n v : Nat} {c c2 : Bool}

/-! ### Ops -/

@[simp] theorem touches_setCoolOf {c : Cooling} (h : [.cool] ⊆ l) :
    Touches l s (t.setCoolOf g c) ↔ Touches l s t :=
  Touches.strip (k := [.cool]) (by
    unfold State.setCoolOf; try dsimp only
    all_goals simp (maxDischargeDepth := 9)) h

@[simp] theorem touches_setLoop {c : LoopRecord} (h : [.cool] ⊆ l) :
    Touches l s (t.setLoop g c) ↔ Touches l s t :=
  Touches.strip (k := [.cool]) (by
    unfold State.setLoop; try dsimp only
    all_goals simp (maxDischargeDepth := 9)) h

@[simp] theorem touches_setCap {c : CapRecord} (h : [.cool] ⊆ l) :
    Touches l s (t.setCap g c) ↔ Touches l s t :=
  Touches.strip (k := [.cool]) (by
    unfold State.setCap; try dsimp only
    all_goals simp (maxDischargeDepth := 9)) h

@[simp] theorem touches_setUnit {u : GroupUnit} (h : [.link] ⊆ l) :
    Touches l s (t.setUnit g u) ↔ Touches l s t :=
  Touches.strip (k := [.link]) (by
    unfold State.setUnit; try dsimp only
    all_goals simp (maxDischargeDepth := 9)) h

@[simp] theorem touches_setPot {x : Pot} (h : [.pots] ⊆ l) :
    Touches l s (t.setPot p x) ↔ Touches l s t :=
  Touches.strip (k := [.pots]) (by
    unfold State.setPot; try dsimp only
    all_goals simp (maxDischargeDepth := 9)) h

@[simp] theorem touches_setPotAe {x : PotAe} (h : [.pots] ⊆ l) :
    Touches l s (t.setPotAe p x) ↔ Touches l s t :=
  Touches.strip (k := [.pots]) (by
    unfold State.setPotAe; try dsimp only
    all_goals simp (maxDischargeDepth := 9)) h

@[simp] theorem touches_openBytes (h : [.free] ⊆ l) :
    Touches l s (t.openBytes n).2 ↔ Touches l s t :=
  Touches.strip (k := [.free]) (by
    unfold State.openBytes; try dsimp only
    all_goals simp (maxDischargeDepth := 9)) h

@[simp] theorem touches_evalAttn (h : [.events] ⊆ l) :
    Touches l s (t.evalAttn) ↔ Touches l s t :=
  Touches.strip (k := [.events]) (by
    unfold State.evalAttn; try dsimp only
    all_goals simp (maxDischargeDepth := 9)) h

@[simp] theorem touches_post {k : EventKind} {fs : List (List Byte)} (h : [.events] ⊆ l) :
    Touches l s (t.post k n fs) ↔ Touches l s t :=
  Touches.strip (k := [.events]) (by
    unfold State.post; try dsimp only
    all_goals simp (maxDischargeDepth := 9)) h

/-! ### Regulator -/

@[simp] theorem touches_writeShare (h : [.link] ⊆ l) :
    Touches l s (t.writeShare g v) ↔ Touches l s t :=
  Touches.strip (k := [.link]) (by
    unfold State.writeShare; try dsimp only
    all_goals simp (maxDischargeDepth := 9)) h

@[simp] theorem touches_writeStage (h : [.link] ⊆ l) :
    Touches l s (t.writeStage g v) ↔ Touches l s t :=
  Touches.strip (k := [.link]) (by
    unfold State.writeStage; try dsimp only
    all_goals simp (maxDischargeDepth := 9)) h

@[simp] theorem touches_growCredit (h : [.cool] ⊆ l) :
    Touches l s (t.growCredit g) ↔ Touches l s t :=
  Touches.strip (k := [.cool]) (by
    unfold State.growCredit; try dsimp only
    repeat' split
    all_goals simp (maxDischargeDepth := 9)) h

@[simp] theorem touches_markAeHeld (h : [.energy] ⊆ l) :
    Touches l s (t.markAeHeld) ↔ Touches l s t :=
  Touches.strip (k := [.energy]) (by
    unfold State.markAeHeld; try dsimp only
    all_goals simp (maxDischargeDepth := 9)) h

@[simp] theorem touches_countTracking (h : [.reg] ⊆ l) :
    Touches l s (t.countTracking) ↔ Touches l s t :=
  Touches.strip (k := [.reg]) (by
    unfold State.countTracking; try dsimp only
    repeat' split
    all_goals simp (maxDischargeDepth := 9)) h

@[simp] theorem touches_evalTracking (h : [.reg, .events] ⊆ l) :
    Touches l s (t.evalTracking) ↔ Touches l s t :=
  Touches.strip (k := [.reg, .events]) (by
    unfold State.evalTracking; try dsimp only
    repeat' split
    all_goals simp (maxDischargeDepth := 9)) h

@[simp] theorem touches_setTarget (h : [.energy, .events, .reg, .link] ⊆ l) :
    Touches l s (t.setTarget c) ↔ Touches l s t :=
  Touches.strip (k := [.energy, .events, .reg, .link]) (by
    unfold State.setTarget; try dsimp only
    all_goals simp (maxDischargeDepth := 9)) h

@[simp] theorem touches_cycle (h : [.cool, .energy, .events, .reg, .link] ⊆ l) :
    Touches l s (t.cycle c c2) ↔ Touches l s t :=
  Touches.strip (k := [.cool, .energy, .events, .reg, .link]) (by
    unfold State.cycle; try dsimp only
    repeat' split
    all_goals simp (maxDischargeDepth := 9)) h

@[simp] theorem touches_outOfTurn (h : [.cool, .energy, .events, .reg, .link] ⊆ l) :
    Touches l s (t.outOfTurn) ↔ Touches l s t :=
  Touches.strip (k := [.cool, .energy, .events, .reg, .link]) (by
    unfold State.outOfTurn; try dsimp only
    all_goals simp (maxDischargeDepth := 9)) h

/-! ### Slots -/

@[simp] theorem touches_postCompletion {k : Command} {o : Completion} (h : [.events] ⊆ l) :
    Touches l s (t.postCompletion g k o n) ↔ Touches l s t :=
  Touches.strip (k := [.events]) (by
    unfold State.postCompletion; try dsimp only
    repeat' split
    all_goals simp (maxDischargeDepth := 9)) h

@[simp] theorem touches_enterCoolingStop (h : [.link] ⊆ l) :
    Touches l s (t.enterCoolingStop g) ↔ Touches l s t :=
  Touches.strip (k := [.link]) (by
    unfold State.enterCoolingStop; try dsimp only
    all_goals simp (maxDischargeDepth := 9)) h

@[simp] theorem touches_resolveSlot (h : [.link] ⊆ l) :
    Touches l s (t.resolveSlot g) ↔ Touches l s t :=
  Touches.strip (k := [.link]) (by
    unfold State.resolveSlot; try dsimp only
    repeat' split
    all_goals simp (maxDischargeDepth := 9)) h

@[simp] theorem touches_complete {o : Completion} (h : [.link, .events] ⊆ l) :
    Touches l s (t.complete g o n) ↔ Touches l s t :=
  Touches.strip (k := [.link, .events]) (by
    unfold State.complete; try dsimp only
    repeat' split
    all_goals simp (maxDischargeDepth := 9)) h

@[simp] theorem touches_placeCoolingStop (h : [.link, .events] ⊆ l) :
    Touches l s (t.placeCoolingStop g) ↔ Touches l s t :=
  Touches.strip (k := [.link, .events]) (by
    unfold State.placeCoolingStop; try dsimp only
    repeat' split
    all_goals simp (maxDischargeDepth := 9)) h

@[simp] theorem touches_releaseStop (h : [.link] ⊆ l) :
    Touches l s (t.releaseStop g) ↔ Touches l s t :=
  Touches.strip (k := [.link]) (by
    unfold State.releaseStop; try dsimp only
    repeat' split
    all_goals simp (maxDischargeDepth := 9)) h

@[simp] theorem touches_takeGroupReset {o : Origin} (h : [.link, .events] ⊆ l) :
    Touches l s (t.takeGroupReset g o) ↔ Touches l s t :=
  Touches.strip (k := [.link, .events]) (by
    unfold State.takeGroupReset; try dsimp only
    repeat' split
    all_goals simp (maxDischargeDepth := 9)) h

@[simp] theorem touches_withdrawStart (h : [.link, .events] ⊆ l) :
    Touches l s (t.withdrawStart g) ↔ Touches l s t :=
  Touches.strip (k := [.link, .events]) (by
    unfold State.withdrawStart; try dsimp only
    repeat' split
    all_goals simp (maxDischargeDepth := 9)) h

/-! ### Supervisor -/

@[simp] theorem touches_seedCredit (h : [.cool] ⊆ l) :
    Touches l s (t.seedCredit g) ↔ Touches l s t :=
  Touches.strip (k := [.cool]) (by
    unfold State.seedCredit; try dsimp only
    all_goals simp (maxDischargeDepth := 9)) h

@[simp] theorem touches_clearCredit (h : [.cool] ⊆ l) :
    Touches l s (t.clearCredit g) ↔ Touches l s t :=
  Touches.strip (k := [.cool]) (by
    unfold State.clearCredit; try dsimp only
    all_goals simp (maxDischargeDepth := 9)) h

@[simp] theorem touches_alignCredit (h : [.cool] ⊆ l) :
    Touches l s (t.alignCredit g) ↔ Touches l s t :=
  Touches.strip (k := [.cool]) (by
    unfold State.alignCredit; try dsimp only
    repeat' split
    all_goals simp (maxDischargeDepth := 9)) h

@[simp] theorem touches_evalLossTimer (h : [.sup] ⊆ l) :
    Touches l s (t.evalLossTimer) ↔ Touches l s t :=
  Touches.strip (k := [.sup]) (by
    unfold State.evalLossTimer; try dsimp only
    repeat' split
    all_goals simp (maxDischargeDepth := 9)) h

@[simp] theorem touches_alignIfChanged {w : Six Bool} (h : [.cool] ⊆ l) :
    Touches l s (t.alignIfChanged w g) ↔ Touches l s t :=
  Touches.strip (k := [.cool]) (by
    unfold State.alignIfChanged; try dsimp only
    repeat' split
    all_goals simp (maxDischargeDepth := 9)) h

@[simp] theorem touches_notice {w : Carriage} (h : [.cool, .sup, .energy, .events, .reg, .link] ⊆ l) :
    Touches l s (t.notice w c) ↔ Touches l s t :=
  Touches.strip (k := [.cool, .sup, .energy, .events, .reg, .link]) (by
    unfold State.notice; try dsimp only
    all_goals simp (maxDischargeDepth := 9)) h

@[simp] theorem touches_enter {st : SupState} {e : EntryCause} (h : [.sup] ⊆ l) :
    Touches l s (t.enter st e) ↔ Touches l s t :=
  Touches.strip (k := [.sup]) (by
    unfold State.enter; try dsimp only
    all_goals simp (maxDischargeDepth := 9)) h

@[simp] theorem touches_postSupState {st : SupState} (h : [.events] ⊆ l) :
    Touches l s (t.postSupState st) ↔ Touches l s t :=
  Touches.strip (k := [.events]) (by
    unfold State.postSupState; try dsimp only
    all_goals simp (maxDischargeDepth := 9)) h

@[simp] theorem touches_enterSafe {e : EntryCause} (h : [.sup, .events, .link, .reg] ⊆ l) :
    Touches l s (t.enterSafe e) ↔ Touches l s t :=
  Touches.strip (k := [.sup, .events, .link, .reg]) (by
    unfold State.enterSafe; try dsimp only
    all_goals simp (maxDischargeDepth := 9)) h

@[simp] theorem touches_safeIfAsserted (h : [.sup, .events, .link, .reg] ⊆ l) :
    Touches l s (t.safeIfAsserted) ↔ Touches l s t :=
  Touches.strip (k := [.sup, .events, .link, .reg]) (by
    unfold State.safeIfAsserted; try dsimp only
    repeat' split
    all_goals simp (maxDischargeDepth := 9)) h

@[simp] theorem touches_registerSafe (h : [.sup, .events, .link, .reg] ⊆ l) :
    Touches l s (t.registerSafe c) ↔ Touches l s t :=
  Touches.strip (k := [.sup, .events, .link, .reg]) (by
    unfold State.registerSafe; try dsimp only
    all_goals simp (maxDischargeDepth := 9)) h

@[simp] theorem touches_measurementHold (h : [.sup, .events] ⊆ l) :
    Touches l s (t.measurementHold) ↔ Touches l s t :=
  Touches.strip (k := [.sup, .events]) (by
    unfold State.measurementHold; try dsimp only
    repeat' split
    all_goals simp (maxDischargeDepth := 9)) h

@[simp] theorem touches_lossTimeout (h : [.sup, .events, .link, .reg] ⊆ l) :
    Touches l s (t.lossTimeout) ↔ Touches l s t :=
  Touches.strip (k := [.sup, .events, .link, .reg]) (by
    unfold State.lossTimeout; try dsimp only
    repeat' split
    all_goals simp (maxDischargeDepth := 9)) h

@[simp] theorem touches_runEntry (h : [.cool, .sup, .energy, .events, .reg, .link] ⊆ l) :
    Touches l s (t.runEntry) ↔ Touches l s t :=
  Touches.strip (k := [.cool, .sup, .energy, .events, .reg, .link]) (by
    unfold State.runEntry; try dsimp only
    all_goals simp (maxDischargeDepth := 9)) h

@[simp] theorem touches_runRequest (h : [.cool, .sup, .energy, .events, .reg, .link] ⊆ l) :
    Touches l s (t.runRequest).2 ↔ Touches l s t :=
  Touches.strip (k := [.cool, .sup, .energy, .events, .reg, .link]) (by
    unfold State.runRequest; try dsimp only
    repeat' split
    all_goals simp (maxDischargeDepth := 9)) h

@[simp] theorem touches_holdRequest (h : [.sup, .events] ⊆ l) :
    Touches l s (t.holdRequest).2 ↔ Touches l s t :=
  Touches.strip (k := [.sup, .events]) (by
    unfold State.holdRequest; try dsimp only
    repeat' split
    all_goals simp (maxDischargeDepth := 9)) h

@[simp] theorem touches_releaseRequest (h : [.sup, .events] ⊆ l) :
    Touches l s (t.releaseRequest).2 ↔ Touches l s t :=
  Touches.strip (k := [.sup, .events]) (by
    unfold State.releaseRequest; try dsimp only
    repeat' split
    all_goals simp (maxDischargeDepth := 9)) h

/-! ### Cooling -/

@[simp] theorem touches_evalSensor (h : [.cool, .events] ⊆ l) :
    Touches l s (t.evalSensor g) ↔ Touches l s t :=
  Touches.strip (k := [.cool, .events]) (by
    unfold State.evalSensor; try dsimp only
    repeat' split
    all_goals simp (maxDischargeDepth := 9)) h

@[simp] theorem touches_evalFactors (h : [.cool] ⊆ l) :
    Touches l s (t.evalFactors g) ↔ Touches l s t :=
  Touches.strip (k := [.cool]) (by
    unfold State.evalFactors; try dsimp only
    repeat' split
    all_goals simp (maxDischargeDepth := 9)) h

@[simp] theorem touches_evalCapacity (h : [.cool] ⊆ l) :
    Touches l s (t.evalCapacity g) ↔ Touches l s t :=
  Touches.strip (k := [.cool]) (by
    unfold State.evalCapacity; try dsimp only
    all_goals simp (maxDischargeDepth := 9)) h

@[simp] theorem touches_evalCoolState (h : [.cool, .events] ⊆ l) :
    Touches l s (t.evalCoolState g) ↔ Touches l s t :=
  Touches.strip (k := [.cool, .events]) (by
    unfold State.evalCoolState; try dsimp only
    repeat' split
    all_goals simp (maxDischargeDepth := 9)) h

@[simp] theorem touches_advanceDwell {st : CoolState} (h : [.cool] ⊆ l) :
    Touches l s (t.advanceDwell g st) ↔ Touches l s t :=
  Touches.strip (k := [.cool]) (by
    unfold State.advanceDwell; try dsimp only
    repeat' split
    all_goals simp (maxDischargeDepth := 9)) h

@[simp] theorem touches_evalStage (h : [.cool, .link] ⊆ l) :
    Touches l s (t.evalStage g) ↔ Touches l s t :=
  Touches.strip (k := [.cool, .link]) (by
    unfold State.evalStage; try dsimp only
    repeat' split
    all_goals simp (maxDischargeDepth := 9)) h

@[simp] theorem touches_beginUnload {o : UnloadOrigin} (h : [.cool] ⊆ l) :
    Touches l s (t.beginUnload g o) ↔ Touches l s t :=
  Touches.strip (k := [.cool]) (by
    unfold State.beginUnload; try dsimp only
    repeat' split
    all_goals simp (maxDischargeDepth := 9)) h

@[simp] theorem touches_endUnload {o : UnloadEnd} (h : [.cool, .link] ⊆ l) :
    Touches l s (t.endUnload g o) ↔ Touches l s t :=
  Touches.strip (k := [.cool, .link]) (by
    unfold State.endUnload; try dsimp only
    repeat' split
    all_goals simp (maxDischargeDepth := 9)) h

@[simp] theorem touches_evalUnload (h : [.cool, .link] ⊆ l) :
    Touches l s (t.evalUnload g c) ↔ Touches l s t :=
  Touches.strip (k := [.cool, .link]) (by
    unfold State.evalUnload; try dsimp only
    repeat' split
    all_goals simp (maxDischargeDepth := 9)) h

@[simp] theorem touches_beginCoolingStop (h : [.cool, .link, .events] ⊆ l) :
    Touches l s (t.beginCoolingStop g) ↔ Touches l s t :=
  Touches.strip (k := [.cool, .link, .events]) (by
    unfold State.beginCoolingStop; try dsimp only
    all_goals simp (maxDischargeDepth := 9)) h

@[simp] theorem touches_evalState (h : [.cool, .events] ⊆ l) :
    Touches l s (t.evalState g) ↔ Touches l s t :=
  Touches.strip (k := [.cool, .events]) (by
    unfold State.evalState; try dsimp only
    all_goals simp (maxDischargeDepth := 9)) h

@[simp] theorem touches_setLeft {x : LoopLeft} (h : [.cool] ⊆ l) :
    Touches l s (t.setLeft g x) ↔ Touches l s t :=
  Touches.strip (k := [.cool]) (by
    unfold State.setLeft; try dsimp only
    all_goals simp (maxDischargeDepth := 9)) h

@[simp] theorem touches_evalStop (h : [.cool, .link, .events] ⊆ l) :
    Touches l s (t.evalStop c g) ↔ Touches l s t :=
  Touches.strip (k := [.cool, .link, .events]) (by
    unfold State.evalStop; try dsimp only
    repeat' split
    all_goals simp (maxDischargeDepth := 9)) h

@[simp] theorem touches_evalHead (h : [.cool, .link, .events] ⊆ l) :
    Touches l s (t.evalHead c g) ↔ Touches l s t :=
  Touches.strip (k := [.cool, .link, .events]) (by
    unfold State.evalHead; try dsimp only
    all_goals simp (maxDischargeDepth := 9)) h

@[simp] theorem touches_evalLoop (h : [.cool, .link, .events] ⊆ l) :
    Touches l s (t.evalLoop c g) ↔ Touches l s t :=
  Touches.strip (k := [.cool, .link, .events]) (by
    unfold State.evalLoop; try dsimp only
    repeat' split
    all_goals simp (maxDischargeDepth := 9)) h

@[simp] theorem touches_evalStageUnload (h : [.cool, .link] ⊆ l) :
    Touches l s (t.evalStageUnload c g) ↔ Touches l s t :=
  Touches.strip (k := [.cool, .link]) (by
    unfold State.evalStageUnload; try dsimp only
    repeat' split
    all_goals simp (maxDischargeDepth := 9)) h

@[simp] theorem touches_withUnloadCycle {f k : State → State} (hf : ∀ t, Touches l t (f t))
    (hk : ∀ t, Touches l t (k t)) (hc : [.cool, .energy, .events, .reg, .link] ⊆ l) :
    Touches l s (t.withUnloadCycle f k) ↔ Touches l s t :=
  Touches.strip (k := l) (by
    unfold State.withUnloadCycle; dsimp only
    rw [touches_when fun t => by simp [touches_outOfTurn hc]]
    exact (hf t).trans (hk _)) (List.Subset.refl l)

@[simp] theorem touches_evalLoops (h : [.cool, .energy, .events, .reg, .link] ⊆ l) :
    Touches l s (t.evalLoops c) ↔ Touches l s t :=
  Touches.strip (k := [.cool, .energy, .events, .reg, .link]) (by
    unfold State.evalLoops; try dsimp only
    all_goals simp (maxDischargeDepth := 9)) h

@[simp] theorem touches_sensorChange (h : [.cool, .energy, .events, .reg, .link] ⊆ l) :
    Touches l s (t.sensorChange g) ↔ Touches l s t :=
  Touches.strip (k := [.cool, .energy, .events, .reg, .link]) (by
    unfold State.sensorChange; try dsimp only
    repeat' split
    all_goals simp (maxDischargeDepth := 9)) h

@[simp] theorem touches_coolingStop (h : [.cool, .energy, .events, .reg, .link] ⊆ l) :
    Touches l s (t.coolingStop g) ↔ Touches l s t :=
  Touches.strip (k := [.cool, .energy, .events, .reg, .link]) (by
    unfold State.coolingStop; try dsimp only
    repeat' split
    all_goals simp (maxDischargeDepth := 9)) h

@[simp] theorem touches_unloadTimeEnd (h : [.cool, .energy, .events, .reg, .link] ⊆ l) :
    Touches l s (t.unloadTimeEnd g) ↔ Touches l s t :=
  Touches.strip (k := [.cool, .energy, .events, .reg, .link]) (by
    unfold State.unloadTimeEnd; try dsimp only
    repeat' split
    all_goals simp (maxDischargeDepth := 9)) h

@[simp] theorem touches_coolingLineReset (h : [.cool] ⊆ l) :
    Touches l s (t.coolingLineReset g) ↔ Touches l s t :=
  Touches.strip (k := [.cool]) (by
    unfold State.coolingLineReset; try dsimp only
    repeat' split
    all_goals simp (maxDischargeDepth := 9)) h

@[simp] theorem touches_rewriteStage (h : [.link] ⊆ l) :
    Touches l s (t.rewriteStage g) ↔ Touches l s t :=
  Touches.strip (k := [.link]) (by
    unfold State.rewriteStage; try dsimp only
    repeat' split
    all_goals simp (maxDischargeDepth := 9)) h

@[simp] theorem touches_unfitCooling (h : [.cool] ⊆ l) :
    Touches l s (t.unfitCooling g) ↔ Touches l s t :=
  Touches.strip (k := [.cool]) (by
    unfold State.unfitCooling; try dsimp only
    all_goals simp (maxDischargeDepth := 9)) h

/-! ### FrontEnd -/

@[simp] theorem touches_completeSample {w : Vector (Vector Word16 16) 27} (h : [.front] ⊆ l) :
    Touches l s (t.completeSample w) ↔ Touches l s t :=
  Touches.strip (k := [.front]) (by
    unfold State.completeSample; try dsimp only
    all_goals simp (maxDischargeDepth := 9)) h

@[simp] theorem touches_postSample {r : LineRecord} (h : [.events] ⊆ l) :
    Touches l s (t.postSample r) ↔ Touches l s t :=
  Touches.strip (k := [.events]) (by
    unfold State.postSample; try dsimp only
    all_goals simp (maxDischargeDepth := 9)) h

@[simp] theorem touches_frontSample {w : Vector (Vector Word16 16) 27} (h : [.front, .events] ⊆ l) :
    Touches l s (t.frontSample w) ↔ Touches l s t :=
  Touches.strip (k := [.front, .events]) (by
    unfold State.frontSample; try dsimp only
    all_goals simp (maxDischargeDepth := 9)) h

/-! ### Energy -/

@[simp] theorem touches_advanceClock (h : [.energy] ⊆ l) :
    Touches l s (t.advanceClock) ↔ Touches l s t :=
  Touches.strip (k := [.energy]) (by
    unfold State.advanceClock; try dsimp only
    all_goals simp (maxDischargeDepth := 9)) h

@[simp] theorem touches_minuteEvaluation (h : [.energy] ⊆ l) :
    Touches l s (t.minuteEvaluation) ↔ Touches l s t :=
  Touches.strip (k := [.energy]) (by
    unfold State.minuteEvaluation; try dsimp only
    repeat' split
    all_goals simp (maxDischargeDepth := 9)) h

@[simp] theorem touches_noteSaturation {a a2 : Account} (h : [.events] ⊆ l) :
    Touches l s (t.noteSaturation n a a2) ↔ Touches l s t :=
  Touches.strip (k := [.events]) (by
    unfold State.noteSaturation; try dsimp only
    repeat' split
    all_goals simp (maxDischargeDepth := 9)) h

@[simp] theorem touches_addTariff (h : [.energy, .events] ⊆ l) :
    Touches l s (t.addTariff n) ↔ Touches l s t :=
  Touches.strip (k := [.energy, .events]) (by
    unfold State.addTariff; try dsimp only
    repeat' split
    all_goals simp (maxDischargeDepth := 9)) h

@[simp] theorem touches_addLifetime (h : [.energy, .events] ⊆ l) :
    Touches l s (t.addLifetime n) ↔ Touches l s t :=
  Touches.strip (k := [.energy, .events]) (by
    unfold State.addLifetime; try dsimp only
    all_goals simp (maxDischargeDepth := 9)) h

@[simp] theorem touches_accrue (h : [.energy, .events] ⊆ l) :
    Touches l s (t.accrue) ↔ Touches l s t :=
  Touches.strip (k := [.energy, .events]) (by
    unfold State.accrue; try dsimp only
    all_goals simp (maxDischargeDepth := 9)) h

@[simp] theorem touches_postLimit {o : LimitCause} (h : [.events] ⊆ l) :
    Touches l s (t.postLimit o) ↔ Touches l s t :=
  Touches.strip (k := [.events]) (by
    unfold State.postLimit; try dsimp only
    all_goals simp (maxDischargeDepth := 9)) h

@[simp] theorem touches_setLimiter {x : Limiter} (h : [.energy] ⊆ l) :
    Touches l s (t.setLimiter x) ↔ Touches l s t :=
  Touches.strip (k := [.energy]) (by
    unfold State.setLimiter; try dsimp only
    all_goals simp (maxDischargeDepth := 9)) h

@[simp] theorem touches_releaseLimiter {o : LimitCause} (h : [.energy, .events] ⊆ l) :
    Touches l s (t.releaseLimiter o) ↔ Touches l s t :=
  Touches.strip (k := [.energy, .events]) (by
    unfold State.releaseLimiter; try dsimp only
    all_goals simp (maxDischargeDepth := 9)) h

@[simp] theorem touches_workTrim (h : [.energy, .events] ⊆ l) :
    Touches l s (t.workTrim) ↔ Touches l s t :=
  Touches.strip (k := [.energy, .events]) (by
    unfold State.workTrim; try dsimp only
    repeat' split
    all_goals simp (maxDischargeDepth := 9)) h

@[simp] theorem touches_markLimited (h : [.energy] ⊆ l) :
    Touches l s (t.markLimited) ↔ Touches l s t :=
  Touches.strip (k := [.energy]) (by
    unfold State.markLimited; try dsimp only
    all_goals simp (maxDischargeDepth := 9)) h

@[simp] theorem touches_evalDemand (h : [.energy, .events] ⊆ l) :
    Touches l s (t.evalDemand) ↔ Touches l s t :=
  Touches.strip (k := [.energy, .events]) (by
    unfold State.evalDemand; try dsimp only
    repeat' split
    all_goals simp (maxDischargeDepth := 9)) h

@[simp] theorem touches_closeInterval (h : [.energy, .events] ⊆ l) :
    Touches l s (t.closeInterval) ↔ Touches l s t :=
  Touches.strip (k := [.energy, .events]) (by
    unfold State.closeInterval; try dsimp only
    all_goals simp (maxDischargeDepth := 9)) h

@[simp] theorem touches_cutInterval (h : [.energy, .events] ⊆ l) :
    Touches l s (t.cutInterval) ↔ Touches l s t :=
  Touches.strip (k := [.energy, .events]) (by
    unfold State.cutInterval; try dsimp only
    all_goals simp (maxDischargeDepth := 9)) h

@[simp] theorem touches_openShort (h : [.energy] ⊆ l) :
    Touches l s (t.openShort) ↔ Touches l s t :=
  Touches.strip (k := [.energy]) (by
    unfold State.openShort; try dsimp only
    repeat' split
    all_goals simp (maxDischargeDepth := 9)) h

@[simp] theorem touches_energyDue (h : [.energy, .events] ⊆ l) :
    Touches l s (t.energyDue) ↔ Touches l s t :=
  Touches.strip (k := [.energy, .events]) (by
    unfold State.energyDue; try dsimp only
    all_goals simp (maxDischargeDepth := 9)) h

@[simp] theorem touches_energySample (h : [.energy, .events] ⊆ l) :
    Touches l s (t.energySample c) ↔ Touches l s t :=
  Touches.strip (k := [.energy, .events]) (by
    unfold State.energySample; try dsimp only
    all_goals simp (maxDischargeDepth := 9)) h

@[simp] theorem touches_setTime {bs : List Byte} (h : [.energy, .events] ⊆ l) :
    Touches l s (t.setTime bs).2 ↔ Touches l s t :=
  Touches.strip (k := [.energy, .events]) (by
    unfold State.setTime; try dsimp only
    repeat' split
    all_goals simp (maxDischargeDepth := 9)) h

@[simp] theorem touches_setTariff {bs : List Byte} (h : [.energy] ⊆ l) :
    Touches l s (t.setTariff bs).2 ↔ Touches l s t :=
  Touches.strip (k := [.energy]) (by
    unfold State.setTariff; try dsimp only
    repeat' split
    all_goals simp (maxDischargeDepth := 9)) h

@[simp] theorem touches_closePeriod (h : [.energy, .ae] ⊆ l) :
    Touches l s (t.closePeriod).2 ↔ Touches l s t :=
  Touches.strip (k := [.energy, .ae]) (by
    unfold State.closePeriod; try dsimp only
    all_goals simp (maxDischargeDepth := 9)) h

@[simp] theorem touches_energyLineReset (h : [.energy] ⊆ l) :
    Touches l s (t.energyLineReset) ↔ Touches l s t :=
  Touches.strip (k := [.energy]) (by
    unfold State.energyLineReset; try dsimp only
    all_goals simp (maxDischargeDepth := 9)) h

/-! ### AnodeEffect -/

@[simp] theorem touches_evalHold (h : [.ae, .events] ⊆ l) :
    Touches l s (t.evalHold) ↔ Touches l s t :=
  Touches.strip (k := [.ae, .events]) (by
    unfold State.evalHold; try dsimp only
    repeat' split
    all_goals simp (maxDischargeDepth := 9)) h

@[simp] theorem touches_setAeFlag (h : [.ae] ⊆ l) :
    Touches l s (t.setAeFlag p c) ↔ Touches l s t :=
  Touches.strip (k := [.ae]) (by
    unfold State.setAeFlag; try dsimp only
    all_goals simp (maxDischargeDepth := 9)) h

@[simp] theorem touches_addExcess (h : [.ae, .energy, .events] ⊆ l) :
    Touches l s (t.addExcess n) ↔ Touches l s t :=
  Touches.strip (k := [.ae, .energy, .events]) (by
    unfold State.addExcess; try dsimp only
    all_goals simp (maxDischargeDepth := 9)) h

@[simp] theorem touches_chargeAe (h : [.pots, .ae, .energy, .events] ⊆ l) :
    Touches l s (t.chargeAe p v) ↔ Touches l s t :=
  Touches.strip (k := [.pots, .ae, .energy, .events]) (by
    unfold State.chargeAe; try dsimp only
    all_goals simp (maxDischargeDepth := 9)) h

@[simp] theorem touches_closeAe {e : EndCause} {st : AeState} (h : [.pots, .ae, .events] ⊆ l) :
    Touches l s (t.closeAe p e st) ↔ Touches l s t :=
  Touches.strip (k := [.pots, .ae, .events]) (by
    unfold State.closeAe; try dsimp only
    all_goals simp (maxDischargeDepth := 9)) h

@[simp] theorem touches_startAe {x : Time} (h : [.pots, .ae, .energy, .events] ⊆ l) :
    Touches l s (t.startAe p v x) ↔ Touches l s t :=
  Touches.strip (k := [.pots, .ae, .energy, .events]) (by
    unfold State.startAe; try dsimp only
    all_goals simp (maxDischargeDepth := 9)) h

@[simp] theorem touches_evalQuiet (h : [.pots, .events] ⊆ l) :
    Touches l s (t.evalQuiet p v n) ↔ Touches l s t :=
  Touches.strip (k := [.pots, .events]) (by
    unfold State.evalQuiet; try dsimp only
    repeat' split
    all_goals simp (maxDischargeDepth := 9)) h

@[simp] theorem touches_evalSuspect (h : [.pots, .ae, .energy, .events] ⊆ l) :
    Touches l s (t.evalSuspect p v n) ↔ Touches l s t :=
  Touches.strip (k := [.pots, .ae, .energy, .events]) (by
    unfold State.evalSuspect; try dsimp only
    repeat' split
    all_goals simp (maxDischargeDepth := 9)) h

@[simp] theorem touches_evalPending (h : [.pots, .ae, .energy, .events] ⊆ l) :
    Touches l s (t.evalPending p v) ↔ Touches l s t :=
  Touches.strip (k := [.pots, .ae, .energy, .events]) (by
    unfold State.evalPending; try dsimp only
    repeat' split
    all_goals simp (maxDischargeDepth := 9)) h

@[simp] theorem touches_evalInAe (h : [.pots, .ae, .events] ⊆ l) :
    Touches l s (t.evalInAe p v) ↔ Touches l s t :=
  Touches.strip (k := [.pots, .ae, .events]) (by
    unfold State.evalInAe; try dsimp only
    repeat' split
    all_goals simp (maxDischargeDepth := 9)) h

@[simp] theorem touches_evalAe (h : [.pots, .ae, .energy, .events] ⊆ l) :
    Touches l s (t.evalAe p v n) ↔ Touches l s t :=
  Touches.strip (k := [.pots, .ae, .energy, .events]) (by
    unfold State.evalAe; try dsimp only
    repeat' split
    all_goals simp (maxDischargeDepth := 9)) h

@[simp] theorem touches_signalLost (h : [.pots, .ae, .events] ⊆ l) :
    Touches l s (t.signalLost p) ↔ Touches l s t :=
  Touches.strip (k := [.pots, .ae, .events]) (by
    unfold State.signalLost; try dsimp only
    repeat' split
    all_goals simp (maxDischargeDepth := 9)) h

@[simp] theorem touches_changePot (h : [.pots, .ae, .events] ⊆ l) :
    Touches l s (t.changePot p c) ↔ Touches l s t :=
  Touches.strip (k := [.pots, .ae, .events]) (by
    unfold State.changePot; try dsimp only
    repeat' split
    all_goals simp (maxDischargeDepth := 9)) h

@[simp] theorem touches_quenchRequest (h : [.pots, .events] ⊆ l) :
    Touches l s (t.quenchRequest p) ↔ Touches l s t :=
  Touches.strip (k := [.pots, .events]) (by
    unfold State.quenchRequest; try dsimp only
    repeat' split
    all_goals simp (maxDischargeDepth := 9)) h

@[simp] theorem touches_longAe (h : [.pots, .events] ⊆ l) :
    Touches l s (t.longAe p) ↔ Touches l s t :=
  Touches.strip (k := [.pots, .events]) (by
    unfold State.longAe; try dsimp only
    repeat' split
    all_goals simp (maxDischargeDepth := 9)) h

@[simp] theorem touches_aeDue (h : [.pots, .events] ⊆ l) :
    Touches l s (t.aeDue) ↔ Touches l s t :=
  Touches.strip (k := [.pots, .events]) (by
    unfold State.aeDue; try dsimp only
    all_goals simp (maxDischargeDepth := 9)) h

@[simp] theorem touches_aeSample (h : [.pots, .events] ⊆ l) :
    Touches l s (t.aeSample c) ↔ Touches l s t :=
  Touches.strip (k := [.pots, .events]) (by
    unfold State.aeSample; try dsimp only
    all_goals simp (maxDischargeDepth := 9)) h

@[simp] theorem touches_aeLineReset (h : [.pots, .ae, .events] ⊆ l) :
    Touches l s (t.aeLineReset) ↔ Touches l s t :=
  Touches.strip (k := [.pots, .ae, .events]) (by
    unfold State.aeLineReset; try dsimp only
    all_goals simp (maxDischargeDepth := 9)) h

/-! ### Stack -/

@[simp] theorem touches_postStack {x : StackChange} {e : StackEntry} (h : [.events] ⊆ l) :
    Touches l s (t.postStack x e) ↔ Touches l s t :=
  Touches.strip (k := [.events]) (by
    unfold State.postStack; try dsimp only
    all_goals simp (maxDischargeDepth := 9)) h

@[simp] theorem touches_pushEntry {x : Source} {r r2 : Option Nat} (h : [.stack, .events] ⊆ l) :
    Touches l s (t.pushEntry x n r r2) ↔ Touches l s t :=
  Touches.strip (k := [.stack, .events]) (by
    unfold State.pushEntry; try dsimp only
    all_goals simp (maxDischargeDepth := 9)) h

@[simp] theorem touches_removeEntry {x : StackEntry → Bool} {y : StackChange} (h : [.stack, .events] ⊆ l) :
    Touches l s (t.removeEntry x y) ↔ Touches l s t :=
  Touches.strip (k := [.stack, .events]) (by
    unfold State.removeEntry; try dsimp only
    repeat' split
    all_goals simp (maxDischargeDepth := 9)) h

@[simp] theorem touches_pushCeiling {bs : List Byte} (h : [.stack, .events] ⊆ l) :
    Touches l s (t.pushCeiling bs c).2 ↔ Touches l s t :=
  Touches.strip (k := [.stack, .events]) (by
    unfold State.pushCeiling; try dsimp only
    repeat' split
    all_goals simp (maxDischargeDepth := 9)) h

@[simp] theorem touches_popCeiling (h : [.stack, .events] ⊆ l) :
    Touches l s (t.popCeiling c).2 ↔ Touches l s t :=
  Touches.strip (k := [.stack, .events]) (by
    unfold State.popCeiling; try dsimp only
    repeat' split
    all_goals simp (maxDischargeDepth := 9)) h

@[simp] theorem touches_removeCeiling {bs : List Byte} (h : [.stack, .events] ⊆ l) :
    Touches l s (t.removeCeiling bs).2 ↔ Touches l s t :=
  Touches.strip (k := [.stack, .events]) (by
    unfold State.removeCeiling; try dsimp only
    repeat' split
    all_goals simp (maxDischargeDepth := 9)) h

@[simp] theorem touches_tickLives (h : [.stack] ⊆ l) :
    Touches l s (t.tickLives) ↔ Touches l s t :=
  Touches.strip (k := [.stack]) (by
    unfold State.tickLives; try dsimp only
    all_goals simp (maxDischargeDepth := 9)) h

@[simp] theorem touches_expireEntries (h : [.stack, .events] ⊆ l) :
    Touches l s (t.expireEntries) ↔ Touches l s t :=
  Touches.strip (k := [.stack, .events]) (by
    unfold State.expireEntries; try dsimp only
    all_goals simp (maxDischargeDepth := 9)) h

@[simp] theorem touches_expireEntry (h : [.stack, .events] ⊆ l) :
    Touches l s (t.expireEntry n) ↔ Touches l s t :=
  Touches.strip (k := [.stack, .events]) (by
    unfold State.expireEntry; try dsimp only
    all_goals simp (maxDischargeDepth := 9)) h

@[simp] theorem touches_evictOldest (h : [.stack, .events] ⊆ l) :
    Touches l s (t.evictOldest) ↔ Touches l s t :=
  Touches.strip (k := [.stack, .events]) (by
    unfold State.evictOldest; try dsimp only
    repeat' split
    all_goals simp (maxDischargeDepth := 9)) h

@[simp] theorem touches_pushUtility (h : [.stack, .events] ⊆ l) :
    Touches l s (t.pushUtility) ↔ Touches l s t :=
  Touches.strip (k := [.stack, .events]) (by
    unfold State.pushUtility; try dsimp only
    repeat' split
    all_goals simp (maxDischargeDepth := 9)) h

@[simp] theorem touches_registerUtility (h : [.stack, .events] ⊆ l) :
    Touches l s (t.registerUtility c) ↔ Touches l s t :=
  Touches.strip (k := [.stack, .events]) (by
    unfold State.registerUtility; try dsimp only
    repeat' split
    all_goals simp (maxDischargeDepth := 9)) h

@[simp] theorem touches_readUtility (h : [.stack, .events] ⊆ l) :
    Touches l s (t.readUtility c c2) ↔ Touches l s t :=
  Touches.strip (k := [.stack, .events]) (by
    unfold State.readUtility; try dsimp only
    repeat' split
    all_goals simp (maxDischargeDepth := 9)) h

@[simp] theorem touches_setSwitching {x : Switching} (h : [.stack] ⊆ l) :
    Touches l s (t.setSwitching x) ↔ Touches l s t :=
  Touches.strip (k := [.stack]) (by
    unfold State.setSwitching; try dsimp only
    all_goals simp (maxDischargeDepth := 9)) h

@[simp] theorem touches_postSwitch {ns : List Nat} (h : [.events] ⊆ l) :
    Touches l s (t.postSwitch p ns) ↔ Touches l s t :=
  Touches.strip (k := [.events]) (by
    unfold State.postSwitch; try dsimp only
    all_goals simp (maxDischargeDepth := 9)) h

@[simp] theorem touches_beginSwitch {x : SwitchKind} (h : [.stack, .events] ⊆ l) :
    Touches l s (t.beginSwitch p x).2 ↔ Touches l s t :=
  Touches.strip (k := [.stack, .events]) (by
    unfold State.beginSwitch; try dsimp only
    repeat' split
    all_goals simp (maxDischargeDepth := 9)) h

@[simp] theorem touches_potSwitch {bs : List Byte} (h : [.stack, .events] ⊆ l) :
    Touches l s (t.potSwitch bs).2 ↔ Touches l s t :=
  Touches.strip (k := [.stack, .events]) (by
    unfold State.potSwitch; try dsimp only
    repeat' split
    all_goals simp (maxDischargeDepth := 9)) h

@[simp] theorem touches_endSwitch {x : SwitchEnd} (h : [.stack, .events] ⊆ l) :
    Touches l s (t.endSwitch x) ↔ Touches l s t :=
  Touches.strip (k := [.stack, .events]) (by
    unfold State.endSwitch; try dsimp only
    all_goals simp (maxDischargeDepth := 9)) h

@[simp] theorem touches_potSwitchDone (h : [.stack, .events, .pots, .ae] ⊆ l) :
    Touches l s (t.potSwitchDone).2 ↔ Touches l s t :=
  Touches.strip (k := [.stack, .events, .pots, .ae]) (by
    unfold State.potSwitchDone; try dsimp only
    repeat' split
    all_goals simp (maxDischargeDepth := 9)) h

@[simp] theorem touches_potSwitchAbort (h : [.stack, .events] ⊆ l) :
    Touches l s (t.potSwitchAbort).2 ↔ Touches l s t :=
  Touches.strip (k := [.stack, .events]) (by
    unfold State.potSwitchAbort; try dsimp only
    repeat' split
    all_goals simp (maxDischargeDepth := 9)) h

@[simp] theorem touches_setPotState {bs : List Byte} (h : [.events, .pots, .ae] ⊆ l) :
    Touches l s (t.setPotState bs).2 ↔ Touches l s t :=
  Touches.strip (k := [.events, .pots, .ae]) (by
    unfold State.setPotState; try dsimp only
    repeat' split
    all_goals simp (maxDischargeDepth := 9)) h

@[simp] theorem touches_switchReadiness (h : [.stack, .events] ⊆ l) :
    Touches l s (t.switchReadiness) ↔ Touches l s t :=
  Touches.strip (k := [.stack, .events]) (by
    unfold State.switchReadiness; try dsimp only
    repeat' split
    all_goals simp (maxDischargeDepth := 9)) h

@[simp] theorem touches_switchTimeout (h : [.stack, .events] ⊆ l) :
    Touches l s (t.switchTimeout) ↔ Touches l s t :=
  Touches.strip (k := [.stack, .events]) (by
    unfold State.switchTimeout; try dsimp only
    repeat' split
    all_goals simp (maxDischargeDepth := 9)) h

@[simp] theorem touches_tickSwitch (h : [.stack] ⊆ l) :
    Touches l s (t.tickSwitch) ↔ Touches l s t :=
  Touches.strip (k := [.stack]) (by
    unfold State.tickSwitch; try dsimp only
    repeat' split
    all_goals simp (maxDischargeDepth := 9)) h

@[simp] theorem touches_stackSample (h : [.stack, .events] ⊆ l) :
    Touches l s (t.stackSample c) ↔ Touches l s t :=
  Touches.strip (k := [.stack, .events]) (by
    unfold State.stackSample; try dsimp only
    all_goals simp (maxDischargeDepth := 9)) h

@[simp] theorem touches_stackLineReset (h : [.stack, .events] ⊆ l) :
    Touches l s (t.stackLineReset) ↔ Touches l s t :=
  Touches.strip (k := [.stack, .events]) (by
    unfold State.stackLineReset; try dsimp only
    all_goals simp (maxDischargeDepth := 9)) h

@[simp] theorem touches_rewriteCeiling {x : Source} (h : [.stack] ⊆ l) :
    Touches l s (t.rewriteCeiling x v) ↔ Touches l s t :=
  Touches.strip (k := [.stack]) (by
    unfold State.rewriteCeiling; try dsimp only
    all_goals simp (maxDischargeDepth := 9)) h

/-! ### HostLink -/

@[simp] theorem touches_setReceiver {x : Receiver} (h : [.host] ⊆ l) :
    Touches l s (t.setReceiver x) ↔ Touches l s t :=
  Touches.strip (k := [.host]) (by
    unfold State.setReceiver; try dsimp only
    all_goals simp (maxDischargeDepth := 9)) h

@[simp] theorem touches_receive {bs : List Byte} (h : [.host] ⊆ l) :
    Touches l s (t.receive bs) ↔ Touches l s t :=
  Touches.strip (k := [.host]) (by
    unfold State.receive; try dsimp only
    all_goals simp (maxDischargeDepth := 9)) h

@[simp] theorem touches_frameGap (h : [.host] ⊆ l) :
    Touches l s (t.frameGap) ↔ Touches l s t :=
  Touches.strip (k := [.host]) (by
    unfold State.frameGap; try dsimp only
    repeat' split
    all_goals simp (maxDischargeDepth := 9)) h

@[simp] theorem touches_kick (h : [.host] ⊆ l) :
    Touches l s (t.kick) ↔ Touches l s t :=
  Touches.strip (k := [.host]) (by
    unfold State.kick; try dsimp only
    repeat' split
    all_goals simp (maxDischargeDepth := 9)) h

@[simp] theorem touches_frameSent (h : [.host, .scan] ⊆ l) :
    Touches l s (t.frameSent) ↔ Touches l s t :=
  Touches.strip (k := [.host, .scan]) (by
    unfold State.frameSent; try dsimp only
    repeat' split
    all_goals simp (maxDischargeDepth := 9)) h

@[simp] theorem touches_handReply {bs : List Byte} (h : [.host] ⊆ l) :
    Touches l s (t.handReply bs) ↔ Touches l s t :=
  Touches.strip (k := [.host]) (by
    unfold State.handReply; try dsimp only
    all_goals simp (maxDischargeDepth := 9)) h

@[simp] theorem touches_answer {x : Frame} {r : Reply} (h : [.host] ⊆ l) :
    Touches l s (t.answer x c r) ↔ Touches l s t :=
  Touches.strip (k := [.host]) (by
    unfold State.answer; try dsimp only
    all_goals simp (maxDischargeDepth := 9)) h

@[simp] theorem touches_takeRequest {mine : Frame → Bool} {f : Frame → Bool → State → Reply × State}
    (h : ∀ x e t, Touches l t (f x e t).2) (hh : .host ∈ l) :
    Touches l s (t.takeRequest mine f) ↔ Touches l s t :=
  Touches.strip (k := l) (by
    unfold State.takeRequest; try dsimp only
    repeat' split
    · simp
    · simp
    · rw [touches_answer (by simpa using hh)]
      exact ((touches_setHost hh).mpr (Touches.refl l t)).trans (h _ _ _)) (List.Subset.refl l)

@[simp] theorem touches_serve {k : RequestKind} {f : List Byte → Bool → State → Reply × State}
    (h : ∀ x e t, Touches l t (f x e t).2) (hh : .host ∈ l) :
    Touches l s (t.serve k f) ↔ Touches l s t :=
  touches_takeRequest (fun x e t => by
    unfold RequestKind.handle
    repeat' split
    · simp
    · simp
    · exact h _ _ _) hh

@[simp] theorem touches_serveBadKind (h : [.host] ⊆ l) :
    Touches l s (t.serveBadKind) ↔ Touches l s t :=
  Touches.strip (k := [.host]) (by
    unfold State.serveBadKind; try dsimp only
    all_goals simp (maxDischargeDepth := 9)) h

@[simp] theorem touches_registerKey (h : [.host] ⊆ l) :
    Touches l s (t.registerKey c) ↔ Touches l s t :=
  Touches.strip (k := [.host]) (by
    unfold State.registerKey; try dsimp only
    all_goals simp (maxDischargeDepth := 9)) h

@[simp] theorem touches_readKey (h : [.host] ⊆ l) :
    Touches l s (t.readKey c c2) ↔ Touches l s t :=
  Touches.strip (k := [.host]) (by
    unfold State.readKey; try dsimp only
    repeat' split
    all_goals simp (maxDischargeDepth := 9)) h

@[simp] theorem touches_getEvent (h : [.events, .free] ⊆ l) :
    Touches l s (t.getEvent).2 ↔ Touches l s t :=
  Touches.strip (k := [.events, .free]) (by
    unfold State.getEvent; try dsimp only
    repeat' split
    all_goals simp (maxDischargeDepth := 9)) h

/-! ### Scan -/

@[simp] theorem touches_sendPoll {x : Pass} (h : [.scan] ⊆ l) :
    Touches l s (t.sendPoll x) ↔ Touches l s t :=
  Touches.strip (k := [.scan]) (by
    unfold State.sendPoll; try dsimp only
    all_goals simp (maxDischargeDepth := 9)) h

@[simp] theorem touches_startPass (h : [.scan] ⊆ l) :
    Touches l s (t.startPass) ↔ Touches l s t :=
  Touches.strip (k := [.scan]) (by
    unfold State.startPass; try dsimp only
    repeat' split
    all_goals simp (maxDischargeDepth := 9)) h

@[simp] theorem touches_scanExpiry (h : [.scan] ⊆ l) :
    Touches l s (t.scanExpiry) ↔ Touches l s t :=
  Touches.strip (k := [.scan]) (by
    unfold State.scanExpiry; try dsimp only
    repeat' split
    all_goals simp (maxDischargeDepth := 9)) h

@[simp] theorem touches_scanSample (h : [.scan] ⊆ l) :
    Touches l s (t.scanSample c) ↔ Touches l s t :=
  Touches.strip (k := [.scan]) (by
    unfold State.scanSample; try dsimp only
    repeat' split
    all_goals simp (maxDischargeDepth := 9)) h

@[simp] theorem touches_abandonPass (h : [.scan] ⊆ l) :
    Touches l s (t.abandonPass) ↔ Touches l s t :=
  Touches.strip (k := [.scan]) (by
    unfold State.abandonPass; try dsimp only
    all_goals simp (maxDischargeDepth := 9)) h

@[simp] theorem touches_buildReports {x : Pass} (h : [.scan] ⊆ l) :
    Touches l s (t.buildReports x) ↔ Touches l s t :=
  Touches.strip (k := [.scan]) (by
    unfold State.buildReports; try dsimp only
    repeat' split
    all_goals simp (maxDischargeDepth := 9)) h

@[simp] theorem touches_discardSegments (h : [.scan] ⊆ l) :
    Touches l s (t.discardSegments) ↔ Touches l s t :=
  Touches.strip (k := [.scan]) (by
    unfold State.discardSegments; try dsimp only
    repeat' split
    all_goals simp (maxDischargeDepth := 9)) h

@[simp] theorem touches_telChange (h : [.scan] ⊆ l) :
    Touches l s (t.telChange c) ↔ Touches l s t :=
  Touches.strip (k := [.scan]) (by
    unfold State.telChange; try dsimp only
    repeat' split
    all_goals simp (maxDischargeDepth := 9)) h

@[simp] theorem touches_nextPoll {x : Pass} (h : [.scan, .host] ⊆ l) :
    Touches l s (t.nextPoll x) ↔ Touches l s t :=
  Touches.strip (k := [.scan, .host]) (by
    unfold State.nextPoll; try dsimp only
    repeat' split
    all_goals simp (maxDischargeDepth := 9)) h

@[simp] theorem touches_staleReading (h : [.pots, .ae, .events] ⊆ l) :
    Touches l s (t.staleReading p) ↔ Touches l s t :=
  Touches.strip (k := [.pots, .ae, .events]) (by
    unfold State.staleReading; try dsimp only
    all_goals simp (maxDischargeDepth := 9)) h

@[simp] theorem touches_freshReading {x : ReadStatus} (h : [.pots, .ae, .energy, .events] ⊆ l) :
    Touches l s (t.freshReading p v x) ↔ Touches l s t :=
  Touches.strip (k := [.pots, .ae, .energy, .events]) (by
    unfold State.freshReading; try dsimp only
    repeat' split
    all_goals simp (maxDischargeDepth := 9)) h

@[simp] theorem touches_staleEntry {x : Pass} {y : ScanFault} (h : [.pots, .ae, .events, .scan, .host] ⊆ l) :
    Touches l s (t.staleEntry x y n) ↔ Touches l s t :=
  Touches.strip (k := [.pots, .ae, .events, .scan, .host]) (by
    unfold State.staleEntry; try dsimp only
    all_goals simp (maxDischargeDepth := 9)) h

@[simp] theorem touches_freshEntry {x : Pass} {y : List (Nat × Nat)}
    (h : [.pots, .ae, .energy, .events, .scan, .host] ⊆ l) :
    Touches l s (t.freshEntry x y) ↔ Touches l s t :=
  Touches.strip (k := [.pots, .ae, .energy, .events, .scan, .host]) (by
    unfold State.freshEntry; try dsimp only
    all_goals simp (maxDischargeDepth := 9)) h

@[simp] theorem touches_moduleReply {bs : List Byte} (h : [.pots, .ae, .energy, .events, .scan, .host] ⊆ l) :
    Touches l s (t.moduleReply bs) ↔ Touches l s t :=
  Touches.strip (k := [.pots, .ae, .energy, .events, .scan, .host]) (by
    unfold State.moduleReply; try dsimp only
    repeat' split
    all_goals simp (maxDischargeDepth := 9)) h

@[simp] theorem touches_pollExpiry (h : [.pots, .ae, .events, .scan, .host] ⊆ l) :
    Touches l s (t.pollExpiry) ↔ Touches l s t :=
  Touches.strip (k := [.pots, .ae, .events, .scan, .host]) (by
    unfold State.pollExpiry; try dsimp only
    repeat' split
    all_goals simp (maxDischargeDepth := 9)) h

@[simp] theorem touches_installPot {x : List ScanEntry} (h : [.pots, .ae, .events] ⊆ l) :
    Touches l s (t.installPot x p) ↔ Touches l s t :=
  Touches.strip (k := [.pots, .ae, .events]) (by
    unfold State.installPot; try dsimp only
    repeat' split
    all_goals simp (maxDischargeDepth := 9)) h

@[simp] theorem touches_installTable {x : List ScanEntry} (h : [.scan, .pots, .ae, .events] ⊆ l) :
    Touches l s (t.installTable x) ↔ Touches l s t :=
  Touches.strip (k := [.scan, .pots, .ae, .events]) (by
    unfold State.installTable; try dsimp only
    all_goals simp (maxDischargeDepth := 9)) h

@[simp] theorem touches_setScanTable {bs : List Byte} (h : [.scan, .pots, .ae, .events] ⊆ l) :
    Touches l s (t.setScanTable bs).2 ↔ Touches l s t :=
  Touches.strip (k := [.scan, .pots, .ae, .events]) (by
    unfold State.setScanTable; try dsimp only
    repeat' split
    all_goals simp (maxDischargeDepth := 9)) h

@[simp] theorem touches_scanLineReset (h : [.scan] ⊆ l) :
    Touches l s (t.scanLineReset) ↔ Touches l s t :=
  Touches.strip (k := [.scan]) (by
    unfold State.scanLineReset; try dsimp only
    all_goals simp (maxDischargeDepth := 9)) h

/-! ### GroupLink -/

@[simp] theorem touches_sendOrder {o : Order} (h : [.link] ⊆ l) :
    Touches l s (t.sendOrder g o) ↔ Touches l s t :=
  Touches.strip (k := [.link]) (by
    unfold State.sendOrder; try dsimp only
    repeat' split
    all_goals simp (maxDischargeDepth := 9)) h

@[simp] theorem touches_orderSend (h : [.link] ⊆ l) :
    Touches l s (t.orderSend) ↔ Touches l s t :=
  Touches.strip (k := [.link]) (by
    unfold State.orderSend; try dsimp only
    repeat' split
    all_goals simp (maxDischargeDepth := 9)) h

@[simp] theorem touches_setRecord {r : GroupRecord} (h : [.link] ⊆ l) :
    Touches l s (t.setRecord g r) ↔ Touches l s t :=
  Touches.strip (k := [.link]) (by
    unfold State.setRecord; try dsimp only
    all_goals simp (maxDischargeDepth := 9)) h

@[simp] theorem touches_takeRecord {r : GroupReply} (h : [.link, .events] ⊆ l) :
    Touches l s (t.takeRecord g r) ↔ Touches l s t :=
  Touches.strip (k := [.link, .events]) (by
    unfold State.takeRecord; try dsimp only
    all_goals simp (maxDischargeDepth := 9)) h

@[simp] theorem touches_postRejected {o : InFlight} (h : [.events] ⊆ l) :
    Touches l s (t.postRejected o n v p) ↔ Touches l s t :=
  Touches.strip (k := [.events]) (by
    unfold State.postRejected; try dsimp only
    all_goals simp (maxDischargeDepth := 9)) h

@[simp] theorem touches_accept {o : InFlight} {r : GroupReply} (h : [.link, .events] ⊆ l) :
    Touches l s (t.accept o r) ↔ Touches l s t :=
  Touches.strip (k := [.link, .events]) (by
    unfold State.accept; try dsimp only
    repeat' split
    all_goals simp (maxDischargeDepth := 9)) h

@[simp] theorem touches_reject {o : InFlight} {r : GroupReply} (h : [.link, .events] ⊆ l) :
    Touches l s (t.reject o r) ↔ Touches l s t :=
  Touches.strip (k := [.link, .events]) (by
    unfold State.reject; try dsimp only
    repeat' split
    all_goals simp (maxDischargeDepth := 9)) h

@[simp] theorem touches_defer {o : InFlight} (h : [.link, .events] ⊆ l) :
    Touches l s (t.defer o) ↔ Touches l s t :=
  Touches.strip (k := [.link, .events]) (by
    unfold State.defer; try dsimp only
    repeat' split
    all_goals simp (maxDischargeDepth := 9)) h

@[simp] theorem touches_applyCondition {o : InFlight} {r : GroupReply} (h : [.link, .events] ⊆ l) :
    Touches l s (t.applyCondition o r) ↔ Touches l s t :=
  Touches.strip (k := [.link, .events]) (by
    unfold State.applyCondition; try dsimp only
    repeat' split
    all_goals simp (maxDischargeDepth := 9)) h

@[simp] theorem touches_dropShare {st : GroupState} (h : [.link] ⊆ l) :
    Touches l s (t.dropShare g st) ↔ Touches l s t :=
  Touches.strip (k := [.link]) (by
    unfold State.dropShare; try dsimp only
    repeat' split
    all_goals simp (maxDischargeDepth := 9)) h

@[simp] theorem touches_outcomeTaken (h : [.link] ⊆ l) :
    Touches l s (t.outcomeTaken g) ↔ Touches l s t :=
  Touches.strip (k := [.link]) (by
    unfold State.outcomeTaken; try dsimp only
    all_goals simp (maxDischargeDepth := 9)) h

@[simp] theorem touches_takeReply {o : InFlight} {r : GroupReply}
    (h : [.cool, .sup, .energy, .events, .reg, .link] ⊆ l) :
    Touches l s (t.takeReply o r) ↔ Touches l s t :=
  Touches.strip (k := [.cool, .sup, .energy, .events, .reg, .link]) (by
    unfold State.takeReply; try dsimp only
    all_goals simp (maxDischargeDepth := 9)) h

@[simp] theorem touches_groupReply {bs : List Byte} (h : [.cool, .sup, .energy, .events, .reg, .link] ⊆ l) :
    Touches l s (t.groupReply bs) ↔ Touches l s t :=
  Touches.strip (k := [.cool, .sup, .energy, .events, .reg, .link]) (by
    unfold State.groupReply; try dsimp only
    repeat' split
    all_goals simp (maxDischargeDepth := 9)) h

@[simp] theorem touches_windowExpiry (h : [.cool, .sup, .energy, .events, .reg, .link] ⊆ l) :
    Touches l s (t.windowExpiry) ↔ Touches l s t :=
  Touches.strip (k := [.cool, .sup, .energy, .events, .reg, .link]) (by
    unfold State.windowExpiry; try dsimp only
    repeat' split
    all_goals simp (maxDischargeDepth := 9)) h

@[simp] theorem touches_backoffPass {x : LinkSlot} (h : [.link] ⊆ l) :
    Touches l s (t.backoffPass g x) ↔ Touches l s t :=
  Touches.strip (k := [.link]) (by
    unfold State.backoffPass; try dsimp only
    repeat' split
    all_goals simp (maxDischargeDepth := 9)) h

@[simp] theorem touches_senseExpiry (h : [.link] ⊆ l) :
    Touches l s (t.senseExpiry g) ↔ Touches l s t :=
  Touches.strip (k := [.link]) (by
    unfold State.senseExpiry; try dsimp only
    repeat' split
    all_goals simp (maxDischargeDepth := 9)) h

@[simp] theorem touches_tripEvent (h : [.cool, .sup, .energy, .events, .reg, .link, .pins] ⊆ l) :
    Touches l s (t.tripEvent g c) ↔ Touches l s t :=
  Touches.strip (k := [.cool, .sup, .energy, .events, .reg, .link, .pins]) (by
    unfold State.tripEvent; try dsimp only
    repeat' split
    all_goals simp (maxDischargeDepth := 9)) h

@[simp] theorem touches_takeStop {o : Origin} (h : [.link, .cool] ⊆ l) :
    Touches l s (t.takeStop g o) ↔ Touches l s t :=
  Touches.strip (k := [.link, .cool]) (by
    unfold State.takeStop; try dsimp only
    all_goals simp (maxDischargeDepth := 9)) h

@[simp] theorem touches_takeOrder {k : CmdKind} {o : Origin} (h : [.cool, .energy, .events, .reg, .link] ⊆ l) :
    Touches l s (t.takeOrder g k o) ↔ Touches l s t :=
  Touches.strip (k := [.cool, .energy, .events, .reg, .link]) (by
    unfold State.takeOrder; try dsimp only
    repeat' split
    all_goals simp (maxDischargeDepth := 9)) h

@[simp] theorem touches_groupOrder {k : CmdKind} {x : Byte} (h : [.cool, .energy, .events, .reg, .link] ⊆ l) :
    Touches l s (t.groupOrder n k x c).2 ↔ Touches l s t :=
  Touches.strip (k := [.cool, .energy, .events, .reg, .link]) (by
    unfold State.groupOrder; try dsimp only
    repeat' split
    all_goals simp (maxDischargeDepth := 9)) h

@[simp] theorem touches_frozenBytes (h : [.free] ⊆ l) :
    Touches l s (t.frozenBytes g).2 ↔ Touches l s t :=
  Touches.strip (k := [.free]) (by
    unfold State.frozenBytes; try dsimp only
    repeat' split
    all_goals simp (maxDischargeDepth := 9)) h

@[simp] theorem touches_getGroup {bs : List Byte} (h : [.free] ⊆ l) :
    Touches l s (t.getGroup bs).2 ↔ Touches l s t :=
  Touches.strip (k := [.free]) (by
    unfold State.getGroup; try dsimp only
    repeat' split
    all_goals simp (maxDischargeDepth := 9)) h

@[simp] theorem touches_linkLineReset (h : [.cool, .sup, .energy, .events, .reg, .link] ⊆ l) :
    Touches l s (t.linkLineReset) ↔ Touches l s t :=
  Touches.strip (k := [.cool, .sup, .energy, .events, .reg, .link]) (by
    unfold State.linkLineReset; try dsimp only
    all_goals simp (maxDischargeDepth := 9)) h

@[simp] theorem touches_fitChange {w : Carriage} (h : [.cool, .sup, .energy, .events, .reg, .link] ⊆ l) :
    Touches l s (t.fitChange g c w) ↔ Touches l s t :=
  Touches.strip (k := [.cool, .sup, .energy, .events, .reg, .link]) (by
    unfold State.fitChange; try dsimp only
    repeat' split
    all_goals simp (maxDischargeDepth := 9)) h

/-! ### Requests -/

@[simp] theorem touches_itemEffect {i : Item} {t2 : State} {v : Int}
    (h : [.scan, .ae, .events, .stack, .cool, .sup, .energy, .reg, .link] ⊆ l) :
    Touches l s (t.itemEffect i t2 v) ↔ Touches l s t :=
  Touches.strip (k := [.scan, .ae, .events, .stack, .cool, .sup, .energy, .reg, .link]) (by
    unfold State.itemEffect; try dsimp only
    repeat' split
    all_goals simp (maxDischargeDepth := 9)) h

@[simp] theorem touches_writeItem {i : Item} {v : Int}
    (h : [.settings, .scan, .ae, .events, .stack, .cool, .sup, .energy, .reg, .link] ⊆ l) :
    Touches l s (t.writeItem i v) ↔ Touches l s t :=
  Touches.strip (k := [.settings, .scan, .ae, .events, .stack, .cool, .sup, .energy, .reg, .link]) (by
    unfold State.writeItem; try dsimp only
    all_goals simp (maxDischargeDepth := 9)) h

@[simp] theorem touches_hostLineReset (h : [.host, .events] ⊆ l) :
    Touches l s (t.hostLineReset) ↔ Touches l s t :=
  Touches.strip (k := [.host, .events]) (by
    unfold State.hostLineReset; try dsimp only
    all_goals simp (maxDischargeDepth := 9)) h

@[simp] theorem touches_supLineReset (h : [.sup] ⊆ l) :
    Touches l s (t.supLineReset) ↔ Touches l s t :=
  Touches.strip (k := [.sup]) (by
    unfold State.supLineReset; try dsimp only
    all_goals simp (maxDischargeDepth := 9)) h

@[simp] theorem touches_lineResetBlocks
    (h : [.host, .events, .sup, .reg, .ae, .pots, .scan, .cool, .link, .energy, .stack] ⊆ l) :
    Touches l s (t.lineResetBlocks) ↔ Touches l s t :=
  Touches.strip (k := [.host, .events, .sup, .reg, .ae, .pots, .scan, .cool, .link, .energy, .stack]) (by
    unfold State.lineResetBlocks; try dsimp only
    all_goals simp (maxDischargeDepth := 9)) h

@[simp] theorem touches_lineReset
    (h : [.host, .events, .sup, .reg, .ae, .pots, .scan, .cool, .link, .energy, .stack] ⊆ l) :
    Touches l s (t.lineReset).2 ↔ Touches l s t :=
  Touches.strip (k := [.host, .events, .sup, .reg, .ae, .pots, .scan, .cool, .link, .energy, .stack]) (by
    unfold State.lineReset; try dsimp only
    all_goals simp (maxDischargeDepth := 9)) h

/-! ### Boundary -/

@[simp] theorem touches_readSafe (h : [.sup, .events, .link, .reg] ⊆ l) :
    Touches l s (t.readSafe c c2) ↔ Touches l s t :=
  Touches.strip (k := [.sup, .events, .link, .reg]) (by
    unfold State.readSafe; try dsimp only
    repeat' split
    all_goals simp (maxDischargeDepth := 9)) h

@[simp] theorem touches_beginBoundary {x : Boundary} (h : [.ticks, .pins] ⊆ l) :
    Touches l s (t.beginBoundary x) ↔ Touches l s t :=
  Touches.strip (k := [.ticks, .pins]) (by
    unfold State.beginBoundary; try dsimp only
    all_goals simp (maxDischargeDepth := 9)) h

@[simp] theorem touches_readInputs {x : Boundary} (h : [.stack, .host, .sup, .events, .link, .reg] ⊆ l) :
    Touches l s (t.readInputs x) ↔ Touches l s t :=
  Touches.strip (k := [.stack, .host, .sup, .events, .link, .reg]) (by
    unfold State.readInputs; try dsimp only
    all_goals simp (maxDischargeDepth := 9)) h

@[simp] theorem touches_lineSample {x : Boundary} (h : [.ticks, .pins, .energy, .front, .events, .sup] ⊆ l) :
    Touches l s (t.lineSample x) ↔ Touches l s t :=
  Touches.strip (k := [.ticks, .pins, .energy, .front, .events, .sup]) (by
    unfold State.lineSample; try dsimp only
    all_goals simp (maxDischargeDepth := 9)) h

@[simp] theorem touches_boundary {x : Boundary}
    (h : [.ticks, .pins, .energy, .front, .events, .sup, .stack, .host, .link, .reg, .pots, .scan, .cool] ⊆ l) :
    Touches l s (t.boundary x) ↔ Touches l s t :=
  Touches.strip (k := [.ticks, .pins, .energy, .front, .events, .sup, .stack, .host, .link, .reg, .pots, .scan, .cool]) (by
    unfold State.boundary; dsimp only
    rw [touches_evalLoops (by decide), touches_scanSample (by decide), touches_aeSample (by decide),
      touches_readInputs (by decide), touches_stackSample (by decide), touches_energySample (by decide),
      touches_lineSample (by decide)]
    exact Touches.refl _ _) h

end Sys2Proof.Machine
end

