-- ==== Sys2Proof/Laws/Requests.lean ====
section
/-! SUPPORT. The taking of a request: once for all kinds, what `serve` does with a frame that is admitted and
with one that is not. -/

namespace Sys2Proof.Machine

variable {s : State} {k : RequestKind} {f : Frame} {rest : List Frame}

theorem isKind_of_code (h : f.kind.toNat = k.code) : f.isKind k = true := by
  have e : RequestKind.ofByte? f.kind = some k := by
    unfold RequestKind.ofByte?
    rw [h]
    cases k <;> rfl
  simp [Frame.isKind, e]

theorem code_of_isKind (h : f.isKind k = true) : f.kind.toNat = k.code := by
  have e : RequestKind.ofByte? f.kind = some k := by simpa [Frame.isKind] using h
  have := List.find?_some e
  simpa using (beq_iff_eq.mp this).symm

theorem State.taken_eq (h : s.host.queue = f :: rest) :
    s.taken = s.setHost { s.host with queue := rest } := by simp [State.taken, h]

@[simp] theorem State.taken_keyLevel : s.taken.host.keyLevel = s.host.keyLevel := rfl
@[simp] theorem State.taken_waiting : s.taken.host.waiting = s.host.waiting := rfl
@[simp] theorem State.taken_transmitter : s.taken.host.transmitter = s.host.transmitter := rfl
@[simp] theorem State.taken_pending : s.taken.pending = s.pending := rfl
@[simp] theorem State.taken_free : s.taken.free = s.free := rfl
@[simp] theorem State.taken_ticks : s.taken.ticks = s.ticks := rfl
@[simp] theorem State.taken_pins : s.taken.pins = s.pins := rfl
@[simp] theorem State.taken_sup : s.taken.sup = s.sup := rfl
@[simp] theorem State.taken_front : s.taken.front = s.front := rfl
@[simp] theorem State.taken_scan : s.taken.scan = s.scan := rfl
@[simp] theorem State.taken_pots : s.taken.pots = s.pots := rfl
@[simp] theorem State.taken_ae : s.taken.ae = s.ae := rfl
@[simp] theorem State.taken_cool : s.taken.cool = s.cool := rfl
@[simp] theorem State.taken_link : s.taken.link = s.link := rfl
@[simp] theorem State.taken_stack : s.taken.stack = s.stack := rfl
@[simp] theorem State.taken_reg : s.taken.reg = s.reg := rfl
@[simp] theorem State.taken_energy : s.taken.energy = s.energy := rfl
@[simp] theorem State.taken_settings : s.taken.settings = s.settings := rfl
@[simp] theorem State.taken_events : s.taken.events = s.events := rfl

@[simp] theorem touches_taken {l : List Block} {t : State} (h : [.host] ⊆ l) :
    Touches l s t.taken ↔ Touches l s t := by
  unfold State.taken; exact touches_setHost (by simpa using h)

/-- The taking of the oldest frame, when it is one that `mine` picks. -/
theorem takeRequest_of_offers {mine : Frame → Bool} {handler : Frame → Bool → State → Reply × State}
    (h : s.Offers f rest) (hm : mine f = true) :
    s.takeRequest mine handler
      = (handler f (s.engineer f) s.taken).2.answer f (s.engineer f) (handler f (s.engineer f) s.taken).1 := by
  obtain ⟨hq, hw⟩ := h
  simp [State.takeRequest, hq, hw, hm, State.taken]

/-- A request that passes the tests of R168 is handled by the rule of its kind. -/
theorem serve_of_admits {rule : List Byte → Bool → State → Reply × State} (h : s.Admits k f rest) :
    s.serve k rule
      = (rule f.payload (s.engineer f) s.taken).2.answer f (s.engineer f)
          (rule f.payload (s.engineer f) s.taken).1 := by
  obtain ⟨ho, hk, he, hl⟩ := h
  unfold State.serve
  rw [takeRequest_of_offers ho (isKind_of_code hk)]
  have : RequestKind.handle k rule f (s.engineer f) s.taken = rule f.payload (s.engineer f) s.taken := by
    unfold RequestKind.handle
    cases hke : k.engineerOnly <;> simp_all
  rw [this]

/-- The reply to a request whose rule has been worked out. -/
theorem answer_of {out : Reply × State} {u : State} {e : Bool} {r : Result} {b : List Byte}
    (h : out = (⟨r, b⟩, u)) : out.2.answer f e out.1 = u.answer f e ⟨r, b⟩ := by rw [h]

/-- A request beyond its authority is answered NOT_PERMITTED. -/
theorem serve_notPermitted {rule : List Byte → Bool → State → Reply × State} (ho : s.Offers f rest)
    (hk : f.kind.toNat = k.code) (he : k.engineerOnly = true) (hn : s.engineer f = false) :
    s.serve k rule = s.taken.answer f false ⟨.notPermitted, []⟩ := by
  unfold State.serve
  rw [takeRequest_of_offers ho (isKind_of_code hk)]
  simp [RequestKind.handle, he, hn, Reply.bare]

/-- A request of a length its kind does not allow is answered BAD_LENGTH. -/
theorem serve_badLength {rule : List Byte → Bool → State → Reply × State} (ho : s.Offers f rest)
    (hk : f.kind.toNat = k.code) (he : k.engineerOnly = true → s.engineer f = true)
    (hl : k.lengthOk f.payload = false) :
    s.serve k rule = s.taken.answer f (s.engineer f) ⟨.badLength, []⟩ := by
  unfold State.serve
  rw [takeRequest_of_offers ho (isKind_of_code hk)]
  have : RequestKind.handle k rule f (s.engineer f) s.taken = (⟨.badLength, []⟩, s.taken) := by
    unfold RequestKind.handle
    cases hke : k.engineerOnly <;> simp_all [Reply.bare]
  rw [this]

end Sys2Proof.Machine
end

