-- ==== Sys2Proof/Laws/Commands.lean ====
section
/-! SUPPORT. The blocks that each command can change. -/

namespace Sys2Proof.Machine

/-- The blocks that a command can change; a device reset changes every block but `pending` and `free`. -/
def commandBlocks : Instr → List Block
  | .deviceReset _ => [.ticks, .pins, .sup, .front, .scan, .pots, .ae, .cool, .link, .stack, .reg, .energy, .host,
      .settings, .events]
  | .lineReset => [.host, .events, .sup, .reg, .pots, .ae, .scan, .cool, .link, .energy, .stack]
  | .hostFrameReceived _ | .badLenAbandon _ _ | .frameTimeout | .badKindRequest | .hostSyncFound
  | .engKeyChange _ | .identify | .getStatus | .getItems | .getScanTable | .getStack | .getPots | .getAeLog
  | .getEnergy | .getDemandLog | .getPeriods => [.host]
  | .hostFrameSent => [.host, .scan]
  | .setItems => [.host, .free, .settings, .scan, .ae, .events, .stack, .cool, .sup, .energy, .reg, .link]
  | .setScanTable => [.host, .scan, .pots, .ae, .events]
  | .setTariff => [.host, .energy]
  | .setTime => [.host, .energy, .events]
  | .run => [.host, .cool, .sup, .energy, .events, .reg, .link]
  | .hold | .release => [.host, .sup, .events]
  | .pushCeiling | .popCeiling | .removeCeiling | .potSwitch | .potSwitchAbort => [.host, .stack, .events]
  | .groupOrderStart | .groupOrderStop | .groupOrderResetTrip | .groupOrderCapture
  | .groupOrderGroupReset => [.host, .cool, .energy, .events, .reg, .link]
  | .getGroup => [.host, .free]
  | .potSwitchDone => [.host, .stack, .events, .pots, .ae]
  | .setPotState => [.host, .events, .pots, .ae]
  | .getEvent => [.host, .events, .free]
  | .closePeriod => [.host, .energy, .ae]
  | .lineSample _ | .lineMeasRecovery _ =>
    [.ticks, .pins, .energy, .front, .events, .sup, .stack, .host, .link, .reg, .pots, .scan, .cool]
  | .demandEvaluation | .demandIntervalEnd => [.energy, .events]
  | .tariffMinuteEvaluation => [.energy]
  | .coolingSensor _ | .coolingStop _ | .unloadTimeEnd _ | .periodicCycle _ =>
    [.cool, .energy, .events, .reg, .link]
  | .safeInputEvent _ | .groupLossTimeout => [.sup, .events, .link, .reg]
  | .utilityInputChange _ | .stackEntryExpired _ | .switchTimeout => [.stack, .events]
  | .tripInputEvent _ _ => [.cool, .sup, .energy, .events, .reg, .link, .pins]
  | .tracking => [.reg, .events]
  | .orderSend | .backoffDeadline _ _ | .senseTimerExpiry _ => [.link]
  | .groupReply _ | .replyWindowExpiry => [.cool, .sup, .energy, .events, .reg, .link]
  | .scanPeriodExpiry => [.scan]
  | .moduleReply _ => [.pots, .ae, .energy, .events, .scan, .host]
  | .pollWindowExpiry => [.pots, .ae, .events, .scan, .host]
  | .quenchRequest _ | .aeLong _ => [.pots, .events]

@[simp] theorem touches_setItems {l : List Block} {s t : State} {bs : List Byte} {e : Bool}
    (h : [.free, .settings, .scan, .ae, .events, .stack, .cool, .sup, .energy, .reg, .link] ⊆ l) :
    Touches l s (t.setItems bs e).2 ↔ Touches l s t :=
  Touches.strip (k := [.free, .settings, .scan, .ae, .events, .stack, .cool, .sup, .energy, .reg, .link]) (by
    unfold State.setItems
    dsimp only
    split
    · simp
    · split
      · simp
      · dsimp only
        generalize hA : (⟨t, 0, [], []⟩ : Applied) = a
        have ha : a.state = t := by rw [← hA]
        rw [← ha]
        clear hA ha
        generalize namedPairs _ = xs
        induction xs generalizing a with
        | nil => exact Touches.refl _ _
        | cons x xs ih =>
          refine Touches.trans ?_ (ih _)
          unfold Applied.step
          split
          · exact (touches_writeItem (by decide)).mpr (Touches.refl _ _)
          · exact Touches.refl _ _) h

@[simp] theorem touches_serveGroupOrder {l : List Block} {s t : State} {k : CmdKind}
    (h : [.host, .cool, .energy, .events, .reg, .link] ⊆ l) :
    Touches l s (t.serveGroupOrder k) ↔ Touches l s t :=
  Touches.strip (k := [.host, .cool, .energy, .events, .reg, .link]) (by
    unfold State.serveGroupOrder
    rw [touches_takeRequest (fun x e t => ?_) (by decide)]
    · exact Touches.refl _ _
    · unfold RequestKind.handle
      split
      · simp
      · split
        · simp
        · dsimp only
          split <;> simp (maxDischargeDepth := 9)) h

theorem touches_deviceReset {s : State} {p : Pins} :
    Touches (commandBlocks (.deviceReset p)) s (s.deviceReset p) := by
  unfold State.deviceReset
  rw [touches_safeIfAsserted (by simp [commandBlocks])]
  intro b hb
  cases b <;> first | rfl | exact absurd hb (by simp [commandBlocks])

/-- A command changes only the blocks that `commandBlocks` lists for it. -/
theorem exec_touches {c : Instr} {s t : State} (h : exec c s = .next t) : Touches (commandBlocks c) s t := by
  cases c with
  | deviceReset p => cases h; exact touches_deviceReset
  | lineReset =>
    cases h
    refine (touches_serve (fun _ _ _ => ?_) (by decide)).mpr (Touches.refl _ _)
    exact (touches_lineReset (by decide)).mpr (Touches.refl _ _)
  | identify =>
    cases h
    exact (touches_serve (fun _ _ _ => Touches.refl _ _) (by decide)).mpr (Touches.refl _ _)
  | getStatus =>
    cases h
    exact (touches_serve (fun _ _ _ => Touches.refl _ _) (by decide)).mpr (Touches.refl _ _)
  | setItems =>
    cases h
    refine (touches_serve (fun _ _ _ => ?_) (by decide)).mpr (Touches.refl _ _)
    simp (maxDischargeDepth := 9) [commandBlocks]
  | getItems =>
    cases h
    refine (touches_serve (fun _ _ _ => ?_) (by decide)).mpr (Touches.refl _ _)
    simp only [State.getItems]; (repeat' split) <;> exact Touches.refl _ _
  | setScanTable =>
    cases h
    refine (touches_serve (fun _ _ _ => ?_) (by decide)).mpr (Touches.refl _ _)
    simp (maxDischargeDepth := 9) [commandBlocks]
  | getScanTable =>
    cases h
    exact (touches_serve (fun _ _ _ => Touches.refl _ _) (by decide)).mpr (Touches.refl _ _)
  | setTariff =>
    cases h
    refine (touches_serve (fun _ _ _ => ?_) (by decide)).mpr (Touches.refl _ _)
    simp (maxDischargeDepth := 9) [commandBlocks]
  | setTime =>
    cases h
    refine (touches_serve (fun _ _ _ => ?_) (by decide)).mpr (Touches.refl _ _)
    simp (maxDischargeDepth := 9) [commandBlocks]
  | run =>
    cases h
    refine (touches_serve (fun _ _ _ => ?_) (by decide)).mpr (Touches.refl _ _)
    simp (maxDischargeDepth := 9) [commandBlocks]
  | hold =>
    cases h
    refine (touches_serve (fun _ _ _ => ?_) (by decide)).mpr (Touches.refl _ _)
    simp (maxDischargeDepth := 9) [commandBlocks]
  | release =>
    cases h
    refine (touches_serve (fun _ _ _ => ?_) (by decide)).mpr (Touches.refl _ _)
    simp (maxDischargeDepth := 9) [commandBlocks]
  | pushCeiling =>
    cases h
    refine (touches_serve (fun _ _ _ => ?_) (by decide)).mpr (Touches.refl _ _)
    simp (maxDischargeDepth := 9) [commandBlocks]
  | popCeiling =>
    cases h
    refine (touches_serve (fun _ _ _ => ?_) (by decide)).mpr (Touches.refl _ _)
    simp (maxDischargeDepth := 9) [commandBlocks]
  | removeCeiling =>
    cases h
    refine (touches_serve (fun _ _ _ => ?_) (by decide)).mpr (Touches.refl _ _)
    simp (maxDischargeDepth := 9) [commandBlocks]
  | getStack =>
    cases h
    exact (touches_serve (fun _ _ _ => Touches.refl _ _) (by decide)).mpr (Touches.refl _ _)
  | getGroup =>
    cases h
    refine (touches_serve (fun _ _ _ => ?_) (by decide)).mpr (Touches.refl _ _)
    simp (maxDischargeDepth := 9) [commandBlocks]
  | getPots =>
    cases h
    refine (touches_serve (fun _ _ _ => ?_) (by decide)).mpr (Touches.refl _ _)
    simp only [State.getPots]; (repeat' split) <;> exact Touches.refl _ _
  | getAeLog =>
    cases h
    refine (touches_serve (fun _ _ _ => ?_) (by decide)).mpr (Touches.refl _ _)
    simp only [State.getAeLog]; (repeat' split) <;> exact Touches.refl _ _
  | potSwitch =>
    cases h
    refine (touches_serve (fun _ _ _ => ?_) (by decide)).mpr (Touches.refl _ _)
    simp (maxDischargeDepth := 9) [commandBlocks]
  | potSwitchDone =>
    cases h
    refine (touches_serve (fun _ _ _ => ?_) (by decide)).mpr (Touches.refl _ _)
    simp (maxDischargeDepth := 9) [commandBlocks]
  | potSwitchAbort =>
    cases h
    refine (touches_serve (fun _ _ _ => ?_) (by decide)).mpr (Touches.refl _ _)
    simp (maxDischargeDepth := 9) [commandBlocks]
  | setPotState =>
    cases h
    refine (touches_serve (fun _ _ _ => ?_) (by decide)).mpr (Touches.refl _ _)
    simp (maxDischargeDepth := 9) [commandBlocks]
  | getEvent =>
    cases h
    refine (touches_serve (fun _ _ _ => ?_) (by decide)).mpr (Touches.refl _ _)
    simp (maxDischargeDepth := 9) [commandBlocks]
  | getEnergy =>
    cases h
    exact (touches_serve (fun _ _ _ => Touches.refl _ _) (by decide)).mpr (Touches.refl _ _)
  | getDemandLog =>
    cases h
    refine (touches_serve (fun _ _ _ => ?_) (by decide)).mpr (Touches.refl _ _)
    simp only [State.getDemandLog]; (repeat' split) <;> exact Touches.refl _ _
  | closePeriod =>
    cases h
    refine (touches_serve (fun _ _ _ => ?_) (by decide)).mpr (Touches.refl _ _)
    simp (maxDischargeDepth := 9) [commandBlocks]
  | getPeriods =>
    cases h
    refine (touches_serve (fun _ _ _ => ?_) (by decide)).mpr (Touches.refl _ _)
    simp only [State.getPeriods]; (repeat' split) <;> exact Touches.refl _ _
  | groupOrderStart => cases h; exact (touches_serveGroupOrder (by decide)).mpr (Touches.refl _ _)
  | groupOrderStop => cases h; exact (touches_serveGroupOrder (by decide)).mpr (Touches.refl _ _)
  | groupOrderResetTrip => cases h; exact (touches_serveGroupOrder (by decide)).mpr (Touches.refl _ _)
  | groupOrderCapture => cases h; exact (touches_serveGroupOrder (by decide)).mpr (Touches.refl _ _)
  | groupOrderGroupReset => cases h; exact (touches_serveGroupOrder (by decide)).mpr (Touches.refl _ _)
  | demandEvaluation => cases h; simp only [commandBlocks]; split <;> simp (maxDischargeDepth := 9)
  | demandIntervalEnd => cases h; simp only [commandBlocks]; split <;> simp (maxDischargeDepth := 9)
  | engKeyChange _ => cases h; simp only [commandBlocks]; split <;> simp (maxDischargeDepth := 9)
  | safeInputEvent _ => cases h; simp only [commandBlocks]; split <;> simp (maxDischargeDepth := 9)
  | utilityInputChange _ => cases h; simp only [commandBlocks]; split <;> simp (maxDischargeDepth := 9)
  | periodicCycle _ => cases h; simp only [commandBlocks]; split <;> simp (maxDischargeDepth := 9)
  | quenchRequest _ => cases h; simp only [commandBlocks]; split <;> simp (maxDischargeDepth := 9)
  | aeLong _ => cases h; simp only [commandBlocks]; split <;> simp (maxDischargeDepth := 9)
  | hostFrameReceived _ => cases h; simp (maxDischargeDepth := 9) [commandBlocks]
  | badLenAbandon _ _ => cases h; simp (maxDischargeDepth := 9) [commandBlocks]
  | frameTimeout => cases h; simp (maxDischargeDepth := 9) [commandBlocks]
  | hostFrameSent => cases h; simp (maxDischargeDepth := 9) [commandBlocks]
  | badKindRequest => cases h; simp (maxDischargeDepth := 9) [commandBlocks]
  | hostSyncFound => cases h; simp (maxDischargeDepth := 9) [commandBlocks]
  | lineSample b =>
    have e : s.boundary b = t := by simpa only [exec, execLineSample, Host.Outcome.next.injEq] using h
    exact e ▸ (touches_boundary (List.Subset.refl _)).mpr (Touches.refl _ _)
  | lineMeasRecovery b =>
    have e : s.boundary b = t := by simpa only [exec, execLineMeasRecovery, Host.Outcome.next.injEq] using h
    exact e ▸ (touches_boundary (List.Subset.refl _)).mpr (Touches.refl _ _)
  | tariffMinuteEvaluation => cases h; simp (maxDischargeDepth := 9) [commandBlocks]
  | coolingSensor _ => cases h; simp (maxDischargeDepth := 9) [commandBlocks]
  | coolingStop _ => cases h; simp (maxDischargeDepth := 9) [commandBlocks]
  | unloadTimeEnd _ => cases h; simp (maxDischargeDepth := 9) [commandBlocks]
  | tripInputEvent _ _ => cases h; simp (maxDischargeDepth := 9) [commandBlocks]
  | groupLossTimeout => cases h; simp (maxDischargeDepth := 9) [commandBlocks]
  | tracking => cases h; simp (maxDischargeDepth := 9) [commandBlocks]
  | orderSend => cases h; simp (maxDischargeDepth := 9) [commandBlocks]
  | groupReply _ => cases h; simp (maxDischargeDepth := 9) [commandBlocks]
  | replyWindowExpiry => cases h; simp (maxDischargeDepth := 9) [commandBlocks]
  | backoffDeadline _ _ => cases h; simp (maxDischargeDepth := 9) [commandBlocks]
  | senseTimerExpiry _ => cases h; simp (maxDischargeDepth := 9) [commandBlocks]
  | scanPeriodExpiry => cases h; simp (maxDischargeDepth := 9) [commandBlocks]
  | moduleReply _ => cases h; simp (maxDischargeDepth := 9) [commandBlocks]
  | pollWindowExpiry => cases h; simp (maxDischargeDepth := 9) [commandBlocks]
  | stackEntryExpired _ => cases h; simp (maxDischargeDepth := 9) [commandBlocks]
  | switchTimeout => cases h; simp (maxDischargeDepth := 9) [commandBlocks]

end Sys2Proof.Machine
end

