-- ==== Sys2Proof/Laws/Energy.lean ====
section
/-! SUPPORT. The energy unit: the release of the limiter, the working out of the trim, and the tariff evaluation. -/

namespace Sys2Proof.Machine

/-- Everything that a release of the limiter does (R157). -/
theorem releaseLimiter_spec (s : State) (c : LimitCause) :
    (s.releaseLimiter c).energy = { s.energy with limiter := { s.energy.limiter with active := false, trim := none } }
    ∧ (s.energy.limiter.active = true → (s.releaseLimiter c).Tells .demandLimit 0
        [[0#8], beBytes 1 c.code, beBytes 4 s.energy.limiter.projection])
    ∧ (s.energy.limiter.active = false → (s.releaseLimiter c).events = s.events)
    ∧ (∀ k n fs, k ≠ .demandLimit → s.Tells k n fs → (s.releaseLimiter c).Tells k n fs) := by
  unfold State.releaseLimiter State.when
  dsimp only
  cases h : s.energy.limiter.active
  · simp only [Bool.false_eq_true, if_false]
    exact ⟨rfl, by simp, fun _ => rfl, fun k n fs _ h => (tells_congr rfl).mpr h⟩
  · simp only [if_true]
    exact ⟨rfl, fun _ => tells_post_self, by simp,
      fun k n fs hk h => tells_post ((tells_congr rfl).mpr h) (.inl (fun e => hk e.symm))⟩

/-- Everything that the working out of the trim does (R158). -/
theorem workTrim_spec (s : State) : let e := s.energy; let i := e.interval; let v := e.meanVoltage
   let first := min 650000 ((s.threshold * 1000000 * i.length - i.energy) / (i.length - i.t) / v)
   (v = 0 ∨ v < s.cfgN .vValidMin →
       s.workTrim.energy = { e with limiter := { e.limiter with voltage := v, trim := none } }
       ∧ s.workTrim.Tells .demandVoltage 0 [beBytes 4 v])
   ∧ (v ≠ 0 → s.cfgN .vValidMin ≤ v → s.workTrim.energy =
       { e with
         limiter := { e.limiter with voltage := v, trim := some (max first (s.cfgN .lineFloor)) },
         interval := { i with unavoidable := i.unavoidable || decide (first < s.cfgN .lineFloor) } }
     ∧ (first < s.cfgN .lineFloor → i.unavoidable = false → s.workTrim.Tells .demandUnavoidable 0 [beBytes 4 first]))
   ∧ (∀ k n fs, k ≠ .demandVoltage → k ≠ .demandUnavoidable → s.Tells k n fs → s.workTrim.Tells k n fs) := by
  intro e i v first
  refine ⟨fun h => ?_, fun h1 h2 => ?_, fun k n fs hk1 hk2 h => ?_⟩
  · unfold State.workTrim; dsimp only; rw [if_pos h]; exact ⟨rfl, tells_post_self⟩
  · have hn : ¬ (v = 0 ∨ v < s.cfgN .vValidMin) := by omega
    unfold State.workTrim; dsimp only; rw [if_neg hn]
    have hf : s.energy.firstTrim s.threshold s.energy.meanVoltage = first := rfl
    rw [hf]
    by_cases hlt : first < s.cfgN .lineFloor
    · rw [if_pos hlt]
      have hm : max first (s.cfgN .lineFloor) = s.cfgN .lineFloor := by omega
      rw [hm]
      unfold State.when
      cases hu : s.energy.interval.unavoidable
      · simp only [Bool.not_false, if_true]
        refine ⟨?_, fun _ _ => tells_post_self⟩
        simp [hlt, e, i, v]
      · simp only [Bool.not_true, Bool.false_eq_true, if_false]
        refine ⟨?_, fun _ h => by cases h⟩
        simp [hlt, e, i, v]
    · rw [if_neg hlt]
      have hm : max first (s.cfgN .lineFloor) = first := by omega
      rw [hm]
      refine ⟨?_, fun h => absurd h hlt⟩
      simp [hlt, e, i, v, State.setLimiter]
  · unfold State.workTrim; dsimp only
    split
    · exact tells_post ((tells_congr rfl).mpr h) (.inl (fun e => hk1 e.symm))
    · split
      · unfold State.when; split
        · exact tells_post ((tells_congr rfl).mpr h) (.inl (fun e => hk2 e.symm))
        · exact (tells_congr rfl).mpr h
      · exact (tells_congr rfl).mpr h

/-- The day type and bucket that an evaluation finds (R147, R148). -/
theorem bucket_spec (e : Energy) : e.evalTariff.TariffFound := by
  refine ⟨?_, fun h => ?_, fun h before p after hb => ⟨fun h1 h2 => ?_, fun h1 h2 h3 => ?_⟩⟩
  · show dayTypeOf e.tariff.holidays e.time = (if e.time.date ∈ e.tariff.holidays then .holiday
      else if e.time.days % 7 = 0 ∨ e.time.days % 7 = 1 then .weekend else .weekday)
    unfold dayTypeOf
    have : (e.time.days % 7 ≤ 1) ↔ (e.time.days % 7 = 0 ∨ e.time.days % 7 = 1) := by omega
    simp only [this]
  · have h : e.clockSet = false := h
    simp [Energy.evalTariff, h]
  · have h : e.clockSet = true := h
    show (if e.clockSet then bucketAt (e.tariff.table _) e.time.minuteOfDay else 0) = _
    have hb : e.tariff.table (dayTypeOf e.tariff.holidays e.time) = before ++ p :: after := hb
    have h1 : p.minute ≤ e.time.minuteOfDay := h1
    have h2 : ∀ x ∈ after, e.time.minuteOfDay < x.minute := h2
    rw [if_pos h, hb]
    unfold bucketAt
    have ha : after.filter (fun p => decide (p.minute ≤ e.time.minuteOfDay)) = [] := by
      rw [List.filter_eq_nil_iff]; intro x hx; have := h2 x hx; simp; omega
    rw [List.filter_append, List.filter_cons_of_pos (by simpa using h1), ha]
    simp
  · have h : e.clockSet = true := h
    show (if e.clockSet then bucketAt (e.tariff.table _) e.time.minuteOfDay else 0) = _
    have hb : e.tariff.table (dayTypeOf e.tariff.holidays e.time) = before ++ p :: after := hb
    have h2 : ∀ x ∈ before, e.time.minuteOfDay < x.minute := h2
    have h3 : e.time.minuteOfDay < p.minute := h3
    rw [if_pos h, hb, h1]
    unfold bucketAt
    have ha : (before ++ [p]).filter (fun p => decide (p.minute ≤ e.time.minuteOfDay)) = [] := by
      rw [List.filter_eq_nil_iff]; intro x hx
      simp only [List.mem_append, List.mem_singleton] at hx
      rcases hx with hx | rfl
      · have := h2 x hx; simp; omega
      · simp; omega
    rw [ha]; simp

end Sys2Proof.Machine
end

