-- ==== Sys2Proof/WellFormed.lean ====
section
/-! DEFINITION. Which commands the world outside the part can give: the checks on operands that the
types of `Syntax` do not make. -/

namespace Sys2Proof

/-- The longest run of bytes after SYNC that makes one frame: LEN, KIND, TAG, FLAGS, the largest payload
and the CRC (R165). -/
def WellFormed.frameBytes : Nat := Config.maxPayload + 7

/-- A pot is numbered 1 to 384 (1.6.6). -/
def WellFormed.potOk (pot : Nat) : Bool := decide (1 ≤ pot ∧ pot ≤ Config.pots)

/-- A stack entry id is 1 to 255 (R112). -/
def WellFormed.idOk (id : Nat) : Bool := decide (1 ≤ id ∧ id ≤ 255)

/-- A group link reply is 13 bytes, or 22 with a capture payload (R184); a shorter or longer run of
bytes is received all the same and is discarded, so only an empty one is no event. -/
def WellFormed.replyOk (bytes : List Byte) : Bool := !bytes.isEmpty

/-- The frame bytes of HOST_FRAME_RECEIVED: at least one, and no more than one frame holds. -/
def WellFormed.frameOk (bytes : List Byte) : Bool :=
  !bytes.isEmpty && decide (bytes.length ≤ WellFormed.frameBytes)

/-- BAD_LEN_ABANDON is the event of a LEN above 1,200 (R166). -/
def WellFormed.lenOk (hi lo : Byte) : Bool := decide (Config.maxPayload < 256 * hi.toNat + lo.toNat)

/-- The commands that the outside world can give. -/
def Instr.wf : Instr → Bool
  | .hostFrameReceived bytes => WellFormed.frameOk bytes
  | .badLenAbandon hi lo => WellFormed.lenOk hi lo
  | .groupReply bytes => WellFormed.replyOk bytes
  | .moduleReply bytes => WellFormed.replyOk bytes
  | .quenchRequest pot => WellFormed.potOk pot
  | .aeLong pot => WellFormed.potOk pot
  | .stackEntryExpired id => WellFormed.idOk id
  | .deviceReset _ => true
  | .lineReset | .frameTimeout | .hostFrameSent | .badKindRequest | .identify | .getStatus | .setItems
  | .getItems | .setScanTable | .getScanTable | .setTariff | .setTime | .run | .hold | .release
  | .pushCeiling | .popCeiling | .removeCeiling | .getStack | .groupOrderStart | .groupOrderStop
  | .groupOrderResetTrip | .groupOrderCapture | .groupOrderGroupReset | .getGroup | .getPots | .getAeLog
  | .potSwitch | .potSwitchDone | .potSwitchAbort | .setPotState | .getEvent | .getEnergy
  | .getDemandLog | .closePeriod | .getPeriods | .demandEvaluation | .tariffMinuteEvaluation
  | .demandIntervalEnd | .groupLossTimeout | .tracking | .orderSend | .replyWindowExpiry
  | .scanPeriodExpiry | .pollWindowExpiry | .switchTimeout | .hostSyncFound => true
  | .lineSample _ | .lineMeasRecovery _ => true
  | .coolingSensor _ | .coolingStop _ | .unloadTimeEnd _ | .senseTimerExpiry _ => true
  | .safeInputEvent _ | .utilityInputChange _ | .engKeyChange _ => true
  | .tripInputEvent _ _ => true
  | .periodicCycle _ => true
  | .backoffDeadline _ _ => true

end Sys2Proof
end

