-- ==== Sys2Proof/Laws/PerInstr.lean ====
section
/-! SUPPORT. What holds of every command as syntax, one lemma per constructor. -/

open Sys2Proof.Machine

namespace Sys2Proof.Laws

/-- A command that takes a request carries no operand the world outside could give wrongly, and the five group
orders are the commands that take a GROUP_ORDER request (R96, R168, log 1). -/
def Requests.Statement (i : Instr) : Prop :=
  (i.requestKind?.isSome = true → i.wf = true)
    ∧ (i.orderKind?.isSome = true ↔ i.requestKind? = some .groupOrder)

/-- A command that takes no request of a known kind. -/
theorem Requests.of_event {i : Instr} (hr : i.requestKind? = none) (ho : i.orderKind? = none) :
    Requests.Statement i := by
  simp [Requests.Statement, hr, ho]

/-- A command that takes a request other than GROUP_ORDER. -/
theorem Requests.of_request {i : Instr} {k : RequestKind} (hr : i.requestKind? = some k)
    (ho : i.orderKind? = none) (hk : k ≠ .groupOrder) (hw : i.wf = true) : Requests.Statement i := by
  simp [Requests.Statement, hr, ho, hk, hw]

/-- A command that takes a GROUP_ORDER request. -/
theorem Requests.of_order {i : Instr} {k : CmdKind} (hr : i.requestKind? = some .groupOrder)
    (ho : i.orderKind? = some k) (hw : i.wf = true) : Requests.Statement i := by
  simp [Requests.Statement, hr, ho, hw]

theorem Requests.deviceReset (pins : Pins) : Requests.Statement (.deviceReset pins) :=
  Requests.of_event rfl rfl

theorem Requests.lineReset : Requests.Statement .lineReset :=
  Requests.of_request rfl rfl nofun rfl

theorem Requests.hostFrameReceived (bytes : List Byte) : Requests.Statement (.hostFrameReceived bytes) :=
  Requests.of_event rfl rfl

theorem Requests.badLenAbandon (hi : Byte) (lo : Byte) : Requests.Statement (.badLenAbandon hi lo) :=
  Requests.of_event rfl rfl

theorem Requests.frameTimeout : Requests.Statement .frameTimeout :=
  Requests.of_event rfl rfl

theorem Requests.hostFrameSent : Requests.Statement .hostFrameSent :=
  Requests.of_event rfl rfl

theorem Requests.badKindRequest : Requests.Statement .badKindRequest :=
  Requests.of_event rfl rfl

theorem Requests.identify : Requests.Statement .identify :=
  Requests.of_request rfl rfl nofun rfl

theorem Requests.getStatus : Requests.Statement .getStatus :=
  Requests.of_request rfl rfl nofun rfl

theorem Requests.setItems : Requests.Statement .setItems :=
  Requests.of_request rfl rfl nofun rfl

theorem Requests.getItems : Requests.Statement .getItems :=
  Requests.of_request rfl rfl nofun rfl

theorem Requests.setScanTable : Requests.Statement .setScanTable :=
  Requests.of_request rfl rfl nofun rfl

theorem Requests.getScanTable : Requests.Statement .getScanTable :=
  Requests.of_request rfl rfl nofun rfl

theorem Requests.setTariff : Requests.Statement .setTariff :=
  Requests.of_request rfl rfl nofun rfl

theorem Requests.setTime : Requests.Statement .setTime :=
  Requests.of_request rfl rfl nofun rfl

theorem Requests.run : Requests.Statement .run :=
  Requests.of_request rfl rfl nofun rfl

theorem Requests.hold : Requests.Statement .hold :=
  Requests.of_request rfl rfl nofun rfl

theorem Requests.release : Requests.Statement .release :=
  Requests.of_request rfl rfl nofun rfl

theorem Requests.pushCeiling : Requests.Statement .pushCeiling :=
  Requests.of_request rfl rfl nofun rfl

theorem Requests.popCeiling : Requests.Statement .popCeiling :=
  Requests.of_request rfl rfl nofun rfl

theorem Requests.removeCeiling : Requests.Statement .removeCeiling :=
  Requests.of_request rfl rfl nofun rfl

theorem Requests.getStack : Requests.Statement .getStack :=
  Requests.of_request rfl rfl nofun rfl

theorem Requests.groupOrderStart : Requests.Statement .groupOrderStart :=
  Requests.of_order rfl rfl rfl

theorem Requests.groupOrderStop : Requests.Statement .groupOrderStop :=
  Requests.of_order rfl rfl rfl

theorem Requests.groupOrderResetTrip : Requests.Statement .groupOrderResetTrip :=
  Requests.of_order rfl rfl rfl

theorem Requests.groupOrderCapture : Requests.Statement .groupOrderCapture :=
  Requests.of_order rfl rfl rfl

theorem Requests.groupOrderGroupReset : Requests.Statement .groupOrderGroupReset :=
  Requests.of_order rfl rfl rfl

theorem Requests.getGroup : Requests.Statement .getGroup :=
  Requests.of_request rfl rfl nofun rfl

theorem Requests.getPots : Requests.Statement .getPots :=
  Requests.of_request rfl rfl nofun rfl

theorem Requests.getAeLog : Requests.Statement .getAeLog :=
  Requests.of_request rfl rfl nofun rfl

theorem Requests.potSwitch : Requests.Statement .potSwitch :=
  Requests.of_request rfl rfl nofun rfl

theorem Requests.potSwitchDone : Requests.Statement .potSwitchDone :=
  Requests.of_request rfl rfl nofun rfl

theorem Requests.potSwitchAbort : Requests.Statement .potSwitchAbort :=
  Requests.of_request rfl rfl nofun rfl

theorem Requests.setPotState : Requests.Statement .setPotState :=
  Requests.of_request rfl rfl nofun rfl

theorem Requests.getEvent : Requests.Statement .getEvent :=
  Requests.of_request rfl rfl nofun rfl

theorem Requests.getEnergy : Requests.Statement .getEnergy :=
  Requests.of_request rfl rfl nofun rfl

theorem Requests.getDemandLog : Requests.Statement .getDemandLog :=
  Requests.of_request rfl rfl nofun rfl

theorem Requests.closePeriod : Requests.Statement .closePeriod :=
  Requests.of_request rfl rfl nofun rfl

theorem Requests.getPeriods : Requests.Statement .getPeriods :=
  Requests.of_request rfl rfl nofun rfl

theorem Requests.lineSample (b : Boundary) : Requests.Statement (.lineSample b) :=
  Requests.of_event rfl rfl

theorem Requests.lineMeasRecovery (b : Boundary) : Requests.Statement (.lineMeasRecovery b) :=
  Requests.of_event rfl rfl

theorem Requests.demandEvaluation : Requests.Statement .demandEvaluation :=
  Requests.of_event rfl rfl

theorem Requests.tariffMinuteEvaluation : Requests.Statement .tariffMinuteEvaluation :=
  Requests.of_event rfl rfl

theorem Requests.demandIntervalEnd : Requests.Statement .demandIntervalEnd :=
  Requests.of_event rfl rfl

theorem Requests.coolingSensor (g : Group) : Requests.Statement (.coolingSensor g) :=
  Requests.of_event rfl rfl

theorem Requests.coolingStop (g : Group) : Requests.Statement (.coolingStop g) :=
  Requests.of_event rfl rfl

theorem Requests.unloadTimeEnd (g : Group) : Requests.Statement (.unloadTimeEnd g) :=
  Requests.of_event rfl rfl

theorem Requests.safeInputEvent (level : Bool) : Requests.Statement (.safeInputEvent level) :=
  Requests.of_event rfl rfl

theorem Requests.utilityInputChange (level : Bool) : Requests.Statement (.utilityInputChange level) :=
  Requests.of_event rfl rfl

theorem Requests.engKeyChange (level : Bool) : Requests.Statement (.engKeyChange level) :=
  Requests.of_event rfl rfl

theorem Requests.tripInputEvent (g : Group) (level : Bool) : Requests.Statement (.tripInputEvent g level) :=
  Requests.of_event rfl rfl

theorem Requests.groupLossTimeout : Requests.Statement .groupLossTimeout :=
  Requests.of_event rfl rfl

theorem Requests.periodicCycle (apart : Bool) : Requests.Statement (.periodicCycle apart) :=
  Requests.of_event rfl rfl

theorem Requests.tracking : Requests.Statement .tracking :=
  Requests.of_event rfl rfl

theorem Requests.orderSend : Requests.Statement .orderSend :=
  Requests.of_event rfl rfl

theorem Requests.groupReply (bytes : List Byte) : Requests.Statement (.groupReply bytes) :=
  Requests.of_event rfl rfl

theorem Requests.replyWindowExpiry : Requests.Statement .replyWindowExpiry :=
  Requests.of_event rfl rfl

theorem Requests.backoffDeadline (g : Group) (slot : LinkSlot) : Requests.Statement (.backoffDeadline g slot) :=
  Requests.of_event rfl rfl

theorem Requests.senseTimerExpiry (g : Group) : Requests.Statement (.senseTimerExpiry g) :=
  Requests.of_event rfl rfl

theorem Requests.scanPeriodExpiry : Requests.Statement .scanPeriodExpiry :=
  Requests.of_event rfl rfl

theorem Requests.moduleReply (bytes : List Byte) : Requests.Statement (.moduleReply bytes) :=
  Requests.of_event rfl rfl

theorem Requests.pollWindowExpiry : Requests.Statement .pollWindowExpiry :=
  Requests.of_event rfl rfl

theorem Requests.quenchRequest (pot : Nat) : Requests.Statement (.quenchRequest pot) :=
  Requests.of_event rfl rfl

theorem Requests.aeLong (pot : Nat) : Requests.Statement (.aeLong pot) :=
  Requests.of_event rfl rfl

theorem Requests.stackEntryExpired (id : Nat) : Requests.Statement (.stackEntryExpired id) :=
  Requests.of_event rfl rfl

theorem Requests.switchTimeout : Requests.Statement .switchTimeout :=
  Requests.of_event rfl rfl

theorem Requests.hostSyncFound : Requests.Statement .hostSyncFound :=
  Requests.of_event rfl rfl

end Sys2Proof.Laws
end

