-- ==== Sys2Proof/Laws/Regulator.lean ====
section
/-! SUPPORT. The regulator: what giving out a remainder does. -/

namespace Sys2Proof.Machine

/-- Giving out a remainder keeps the groups and their order (R139). -/
theorem giveOut_groups (r : Nat) (items : List (Group × Nat × Nat)) :
    (giveOut r items).map (·.1) = items.map (·.1) := by
  induction items generalizing r with
  | nil => rfl
  | cons x rest ih =>
    obtain ⟨g, a, q⟩ := x
    unfold giveOut
    split <;> simp [ih]

/-- Giving out a remainder adds it, or 1 for each quotient below its allocation capacity (R139). -/
theorem giveOut_sum (r : Nat) (items : List (Group × Nat × Nat)) :
    ((giveOut r items).map (·.2)).sum
      = (items.map (·.2.2)).sum + min r (items.countP fun x => decide (x.2.2 < x.2.1)) := by
  induction items generalizing r with
  | nil => simp [giveOut]
  | cons x rest ih =>
    obtain ⟨g, a, q⟩ := x
    unfold giveOut
    by_cases hq : q < a
    · by_cases hr : 0 < r
      · rw [if_pos ⟨hr, hq⟩]; simp [ih, hq]; omega
      · obtain rfl : r = 0 := by omega
        rw [if_neg (fun h => hr h.1)]; simp [ih]
    · rw [if_neg (fun h => hq h.2)]; simp [ih, hq]; omega

/-- A share given lies between its quotient and its allocation capacity, at most 1 A above the quotient (R139). -/
theorem giveOut_bounds (r : Nat) (items : List (Group × Nat × Nat)) :
    ∀ y ∈ giveOut r items, ∃ a q, (y.1, a, q) ∈ items ∧ (y.2 = q ∨ y.2 = q + 1 ∧ q < a) := by
  induction items generalizing r with
  | nil => simp [giveOut]
  | cons x rest ih =>
    obtain ⟨g, a, q⟩ := x
    unfold giveOut
    intro y hy
    split at hy
    · rename_i h
      rcases List.mem_cons.mp hy with rfl | hy
      · exact ⟨a, q, by simp, .inr ⟨rfl, h.2⟩⟩
      · obtain ⟨a', q', h1, h2⟩ := ih _ y hy
        exact ⟨a', q', by simp [h1], h2⟩
    · rcases List.mem_cons.mp hy with rfl | hy
      · exact ⟨a, q, by simp, .inl rfl⟩
      · obtain ⟨a', q', h1, h2⟩ := ih _ y hy
        exact ⟨a', q', by simp [h1], h2⟩

end Sys2Proof.Machine
end

