-- ==== Sys2Proof/Laws/Settings.lean ====
section
/-! SUPPORT. The settings store: an item written reads back, the others stand, and the canonical form is
kept. -/

namespace Sys2Proof.Machine

theorem Item.mem_all (i : Item) : i ∈ Item.all := by
  have hg : ∀ g : Group, g ∈ Group.all := by intro g; cases g <;> decide
  have hgi : ∀ x : GroupItem, x ∈ GroupItem.all := by intro x; cases x <;> decide
  have hli : ∀ x : LoopItem, x ∈ LoopItem.all := by
    intro x; cases x <;> first | decide | (rename_i k; revert k; decide)
  unfold Item.all
  simp only [List.mem_append, List.mem_flatMap, List.mem_map, List.mem_finRange]
  cases i with
  | group g x => exact .inl (.inl (.inl (.inr ⟨g, hg g, x, hgi x, rfl⟩)))
  | loop g x => exact .inl (.inl (.inr ⟨g, hg g, x, hli x, rfl⟩))
  | offset n => exact .inl (.inr ⟨n, trivial, rfl⟩)
  | span n => exact .inr ⟨n, trivial, rfl⟩
  | telSlot k => refine .inl (.inl (.inl (.inl ?_))); revert k; decide
  | _ => exact .inl (.inl (.inl (.inl (by decide))))

theorem Item.ofId?_all : ∀ i ∈ Item.all, Item.ofId? i.id = some i := by decide +kernel

/-- An item's identifier names that item (11.6). -/
@[simp] theorem Item.ofId?_id (i : Item) : Item.ofId? i.id = some i := Item.ofId?_all i i.mem_all

theorem Item.id_of_ofId? {n : Nat} {i : Item} (h : Item.ofId? n = some i) : i.id = n := by
  simpa using List.find?_some h

/-- No two items share an identifier (11.6). -/
theorem Item.id_inj {i j : Item} (h : i.id = j.id) : i = j := by
  have := Item.ofId?_id i
  rw [h, Item.ofId?_id] at this
  exact (Option.some.inj this).symm

/-! ### Reading after writing -/

namespace Settings

@[simp] theorem find_insert_self (st : Settings) (k : Nat) (v : Int) : (st.insert k v).find k = some v := by
  induction st with
  | nil => simp [insert, find]
  | cons p rest ih =>
    obtain ⟨k', v'⟩ := p
    unfold insert
    split
    · simp [find]
    · split
      · simp [find]
      · rename_i h; simp [find, Ne.symm h, ih]

@[simp] theorem find_insert_ne (st : Settings) {k j : Nat} (v : Int) (h : j ≠ k) :
    (st.insert k v).find j = st.find j := by
  induction st with
  | nil => simp [insert, find, h.symm]
  | cons p rest ih =>
    obtain ⟨k', v'⟩ := p
    unfold insert
    split
    · simp [find, h.symm]
    · split
      · rename_i e; subst e; simp [find, h.symm]
      · simp [find, ih]

@[simp] theorem find_drop_ne (st : Settings) {k j : Nat} (h : j ≠ k) : (st.drop k).find j = st.find j := by
  induction st with
  | nil => simp [drop, find]
  | cons p rest ih =>
    obtain ⟨k', v'⟩ := p
    unfold drop
    split
    · rename_i e; subst e; simp [find, h.symm]
    · simp [find, ih]

/-- The canonical form, one entry at a time. -/
theorem wf_cons_eq (k : Nat) (v : Int) (rest : Settings) :
    Settings.wf ((k, v) :: rest)
      = ((match Item.ofId? k with
          | some i => decide (v ≠ i.row.dflt)
          | none => false)
        && (match rest with
            | [] => true
            | (k', _) :: _ => decide (k < k'))
        && Settings.wf rest) := by cases rest <;> rfl

/-- In the canonical form every identifier of the tail is above the head's. -/
theorem wf_head_lt {k : Nat} {v : Int} {rest : Settings} (h : Settings.wf ((k, v) :: rest) = true) :
    ∀ p ∈ rest, k < p.1 := by
  induction rest generalizing k v with
  | nil => simp
  | cons q more ih =>
    obtain ⟨k', v'⟩ := q
    rw [wf_cons_eq] at h
    simp only [Bool.and_eq_true, decide_eq_true_eq] at h
    obtain ⟨⟨_, hk⟩, hw⟩ := h
    intro p hp
    rcases List.mem_cons.mp hp with e | e
    · subst e; exact hk
    · exact hk.trans (ih hw p e)

theorem wf_tail {p : Nat × Int} {rest : Settings} (h : Settings.wf (p :: rest) = true) : rest.wf = true := by
  obtain ⟨k, v⟩ := p; rw [wf_cons_eq] at h; simp only [Bool.and_eq_true] at h; exact h.2

theorem find_none_of_lt {st : Settings} {k : Nat} (h : ∀ p ∈ st, k < p.1) : st.find k = none := by
  induction st with
  | nil => rfl
  | cons p rest ih =>
    have h1 := h p (by simp)
    rw [show (p :: rest) = ((p.1, p.2) :: rest) from rfl, Settings.find, if_neg (by omega)]
    exact ih fun q hq => h q (by simp [hq])

theorem find_drop_self {st : Settings} (k : Nat) (h : st.wf = true) : (st.drop k).find k = none := by
  induction st with
  | nil => rfl
  | cons p rest ih =>
    obtain ⟨k', v'⟩ := p
    unfold drop
    split
    · rename_i e; subst e; exact find_none_of_lt (wf_head_lt h)
    · rename_i e; simp [find, e, ih (wf_tail h)]

@[simp] theorem get_put_self {st : Settings} (i : Item) (v : Int) (h : st.wf = true) :
    (st.put i v).get i = v := by
  unfold put get
  split
  · rename_i e; rw [find_drop_self _ h, e]; rfl
  · rw [find_insert_self]; rfl

@[simp] theorem get_put_ne (st : Settings) {i j : Item} (v : Int) (h : j ≠ i) :
    (st.put i v).get j = st.get j := by
  have : j.id ≠ i.id := fun e => h (Item.id_inj e)
  unfold put get
  split
  · rw [find_drop_ne _ this]
  · rw [find_insert_ne _ _ this]

/-! ### The canonical form -/

/-- What one entry and the identifier after it must be for the canonical form. -/
theorem wf_cons {k : Nat} {v : Int} {rest : Settings} (hi : ∃ i, Item.ofId? k = some i ∧ v ≠ i.row.dflt)
    (hk : ∀ p ∈ rest, k < p.1) (hw : rest.wf = true) : Settings.wf ((k, v) :: rest) = true := by
  obtain ⟨i, e, hv⟩ := hi
  rw [wf_cons_eq, hw, e]
  cases rest with
  | nil => simp [hv]
  | cons q more =>
    obtain ⟨k', v'⟩ := q
    simp [hv, hk (k', v') (by simp)]

theorem wf_entry {k : Nat} {v : Int} {rest : Settings} (h : Settings.wf ((k, v) :: rest) = true) :
    ∃ i, Item.ofId? k = some i ∧ v ≠ i.row.dflt := by
  rw [wf_cons_eq] at h
  simp only [Bool.and_eq_true] at h
  cases e : Item.ofId? k with
  | none => simp [e] at h
  | some i => exact ⟨i, rfl, by simpa [e] using h.1.1⟩

theorem mem_drop {st : Settings} {k : Nat} {p : Nat × Int} (h : p ∈ st.drop k) : p ∈ st := by
  induction st with
  | nil => simp [drop] at h
  | cons q rest ih =>
    obtain ⟨k', v'⟩ := q
    unfold drop at h
    split at h
    · exact List.mem_cons_of_mem _ h
    · rcases List.mem_cons.mp h with e | e
      · subst e; simp
      · exact List.mem_cons_of_mem _ (ih e)

theorem mem_insert {st : Settings} {k : Nat} {v : Int} {p : Nat × Int} (h : p ∈ st.insert k v) :
    p = (k, v) ∨ p ∈ st := by
  induction st with
  | nil => simpa [insert] using h
  | cons q rest ih =>
    obtain ⟨k', v'⟩ := q
    unfold insert at h
    split at h
    · simpa using h
    · split at h
      · rcases List.mem_cons.mp h with e | e
        · exact .inl e
        · exact .inr (List.mem_cons_of_mem _ e)
      · rcases List.mem_cons.mp h with e | e
        · exact .inr (by subst e; simp)
        · exact (ih e).imp id (List.mem_cons_of_mem _)

theorem wf_drop {st : Settings} (k : Nat) (h : st.wf = true) : (st.drop k).wf = true := by
  induction st with
  | nil => rfl
  | cons p rest ih =>
    obtain ⟨k', v'⟩ := p
    unfold drop
    split
    · exact wf_tail h
    · exact wf_cons (wf_entry h) (fun p hp => wf_head_lt h p (mem_drop hp)) (ih (wf_tail h))

theorem wf_insert {st : Settings} {i : Item} {v : Int} (h : st.wf = true) (hv : v ≠ i.row.dflt) :
    (st.insert i.id v).wf = true := by
  induction st with
  | nil => exact wf_cons ⟨i, Item.ofId?_id i, hv⟩ (by simp) rfl
  | cons p rest ih =>
    obtain ⟨k', v'⟩ := p
    unfold insert
    split
    · rename_i hk
      refine wf_cons ⟨i, Item.ofId?_id i, hv⟩ (fun p hp => ?_) h
      rcases List.mem_cons.mp hp with e | e
      · subst e; exact hk
      · exact hk.trans (wf_head_lt h p e)
    · split
      · rename_i e
        exact wf_cons ⟨i, Item.ofId?_id i, hv⟩ (fun p hp => by rw [e]; exact wf_head_lt h p hp) (wf_tail h)
      · rename_i h1 h2
        refine wf_cons (wf_entry h) (fun p hp => ?_) (ih (wf_tail h))
        rcases mem_insert hp with e | e
        · subst e; simp only; omega
        · exact wf_head_lt h p e

/-- Writing an item keeps the canonical form. -/
@[simp] theorem wf_put {st : Settings} (i : Item) (v : Int) (h : st.wf = true) : (st.put i v).wf = true := by
  unfold put
  split
  · exact wf_drop _ h
  · rename_i hv; exact wf_insert h hv

/-- Applying a pair keeps the canonical form. -/
@[simp] theorem wf_apply {st : Settings} (i : Item) (v : Int) (h : st.wf = true) : (st.apply i v).wf = true := by
  unfold apply
  dsimp only
  split <;> simp [h]

end Settings

end Sys2Proof.Machine
end

