-- ==== Sys2Proof/Laws/Slots.lean ====
section
/-! SUPPORT. The command slots: what a completion does to the unit of its group (R98, R106). -/

namespace Sys2Proof.Machine

theorem setUnit_unit (s : State) (g : Group) : s.setUnit g (s.unit g) = s := by
  have h : s.link.units.set g (s.link.units.get g) = s.link.units := by cases g <;> rfl
  show s.setLink { s.link with units := s.link.units.set g (s.link.units.get g) } = s
  rw [h]; rfl

theorem setUnit_setUnit (s : State) (g : Group) (u v : GroupUnit) : (s.setUnit g u).setUnit g v = s.setUnit g v := by
  cases g <;> rfl

/-- What resolving an empty slot does: the unit is as `GroupUnit.resolved` says, and nothing else changes. -/
theorem resolveSlot_eq {s : State} {g : Group} (h : (s.unit g).command = none) :
    s.resolveSlot g = s.setUnit g ((s.unit g).resolved (s.coolOf g).cap.unloading) := by
  have hs := setUnit_unit s g
  unfold State.resolveSlot GroupUnit.resolved State.enterCoolingStop
  simp only [unit_setUnit_self, setUnit_setUnit]
  generalize s.unit g = u at *
  obtain ⟨r, c, f, p, sh, st, t⟩ := u
  subst h
  cases f with
  | some o => rfl
  | none =>
    cases p with
    | false => exact hs.symm
    | true =>
      obtain ⟨rs, _⟩ := r
      cases rs <;> rfl

/-- What completing a command does: its event, and the slot as `GroupUnit.resolved` says. -/
theorem complete_eq {s : State} {g : Group} {c : Command} (h : (s.unit g).command = some c) (o : Completion)
    (status : Nat) :
    s.complete g o status
      = ((s.setUnit g { s.unit g with command := none }).postCompletion g c o status).setUnit g
          ((s.unit g).resolved (s.coolOf g).cap.unloading) := by
  have hu : ∀ (s : State), (s.postCompletion g c o status).unit g = s.unit g ∧
      (s.postCompletion g c o status).coolOf g = s.coolOf g := by
    intro s; unfold State.postCompletion; split <;> exact ⟨rfl, rfl⟩
  unfold State.complete
  simp only [h]
  rw [resolveSlot_eq (by rw [(hu _).1, unit_setUnit_self]), (hu _).1, (hu _).2, unit_setUnit_self]
  rfl

end Sys2Proof.Machine
end

