-- ==== Sys2Proof/Laws/Stack.lean ====
section
/-! SUPPORT. The ceiling stack: the id that a push issues, the term of a stack with a given top, the removal of one
entry, and the eviction from a full stack. -/

namespace Sys2Proof.Machine

theorem idAfter_eq (n : Nat) (h1 : 1 ≤ n) (h2 : n ≤ 255) : idAfter n = n % 255 + 1 := by
  unfold idAfter; split <;> omega

theorem freeId_spec (used : List Nat) (base fuel k : Nat) (hprev : ∀ m < k, (base + m) % 255 + 1 ∈ used)
    (hex : ∃ n, n < k + fuel ∧ (base + n) % 255 + 1 ∉ used) :
    ∃ n, freeId used fuel ((base + k) % 255 + 1) = (base + n) % 255 + 1
      ∧ (base + n) % 255 + 1 ∉ used ∧ ∀ m < n, (base + m) % 255 + 1 ∈ used := by
  induction fuel generalizing k with
  | zero =>
    obtain ⟨n, h, h2⟩ := hex
    exact absurd (hprev n (by omega)) h2
  | succ fuel ih =>
    unfold freeId
    split
    · rename_i hm
      rw [idAfter_eq _ (by omega) (by omega)]
      rw [show ((base + k) % 255 + 1) % 255 + 1 = (base + (k + 1)) % 255 + 1 by omega]
      refine ih (k + 1) (fun m hmk => ?_) ?_
      · rcases Nat.lt_succ_iff_lt_or_eq.mp hmk with h | h
        · exact hprev m h
        · subst h; exact hm
      · obtain ⟨n, h, h2⟩ := hex
        exact ⟨n, by omega, h2⟩
    · rename_i hm
      exact ⟨k, rfl, hm, hprev⟩

theorem exists_free (used : List Nat) (base : Nat) (hl : used.length < 255) :
    ∃ n, n < 255 ∧ (base + n) % 255 + 1 ∉ used := by
  by_contra h
  have h' : ∀ n, n < 255 → (base + n) % 255 + 1 ∈ used := fun n hn => by_contra fun hc => h ⟨n, hn, hc⟩
  have hsub : (List.range 255).map (fun n => (base + n) % 255 + 1) ⊆ used := by
    intro x hx
    simp only [List.mem_map, List.mem_range] at hx
    obtain ⟨n, hn, rfl⟩ := hx
    exact h' n hn
  have hnd : ((List.range 255).map (fun n => (base + n) % 255 + 1)).Nodup := by
    refine List.Nodup.map_on (fun a ha b hb hab => ?_) List.nodup_range
    simp only [List.mem_range] at ha hb
    omega
  have := (List.subperm_of_subset hnd hsub).length_le
  simp only [List.length_map, List.length_range] at this
  omega

/-- A push issues the id that R112 gives. -/
theorem newId_issues (k : CeilingStack) (h1 : 1 ≤ k.nextId) (h2 : k.nextId ≤ 255) (h3 : k.entries.length < 255) :
    k.Issues k.newId := by
  have := freeId_spec (k.entries.map (·.id)) (k.nextId - 1) 255 0 (fun m h => absurd h (by omega)) (by
    obtain ⟨n, h⟩ := exists_free (k.entries.map (·.id)) (k.nextId - 1) (by simpa using h3)
    exact ⟨n, by omega, h.2⟩)
  rw [show (k.nextId - 1 + 0) % 255 + 1 = k.nextId by omega] at this
  obtain ⟨n, e1, e2, e3⟩ := this
  have e0 : k.newId = (k.nextId - 1 + n) % 255 + 1 := e1
  exact ⟨n, e0, e0 ▸ e2, e3⟩

theorem issues_range {k : CeilingStack} {id : Nat} (h : k.Issues id) : 1 ≤ id ∧ id ≤ 255 := by
  obtain ⟨n, h, _⟩ := h
  dsimp only at h
  omega

theorem foldl_leastOpt (l : List StackEntry) (a : Nat) :
    l.foldl (fun acc e => leastOpt acc e.ceiling) (some a) = some ((l.map (·.ceiling)).foldl min a) := by
  induction l generalizing a with
  | nil => rfl
  | cons x l ih => simp only [List.foldl_cons, List.map_cons]; exact ih _

theorem binding_eq (x : StackEntry) :
    x.source.binding = (x.source == .utility || x.source == .switching) := by cases x.source <;> rfl

/-- The term of a stack that is not empty (R113). -/
theorem term_cons (k : CeilingStack) (top : StackEntry) (l : List StackEntry) (h : k.entries = top :: l) :
    k.term = some (((l.filter fun x => x.source == .utility || x.source == .switching).map
      (·.ceiling)).foldl min top.ceiling) := by
  unfold CeilingStack.term
  rw [h]
  simp only [foldl_leastOpt, binding_eq]

/-- The first element that `p` picks, found and removed. -/
theorem find_append {α : Type} {p : α → Bool} {a : List α} {e : α} {b : List α} (h : ∀ x ∈ a, p x = false)
    (he : p e = true) : (a ++ e :: b).find? p = some e ∧ (a ++ e :: b).eraseP p = a ++ b := by
  constructor
  · rw [List.find?_append, List.find?_eq_none.mpr (by simpa using h)]; simp [he]
  · rw [List.eraseP_append_right _ (by simpa using h), List.eraseP_cons_of_pos he]

/-- The eviction from a full stack (R120). -/
theorem evict_spec (u : State) (hl : u.stack.entries.length = 8)
    (hnb : ∃ e ∈ u.stack.entries, e.source.binding = false) :
    ∃ above e below, u.stack.entries = above ++ e :: below ∧ e.source.binding = false
      ∧ (∀ x ∈ below, x.source.binding = true)
      ∧ u.evictOldest = (u.setStack { u.stack with entries := above ++ below }).postStack .evicted e := by
  obtain ⟨e0, he0, hb0⟩ := hnb
  have : ∃ e, u.stack.entries.reverse.find? (fun e => !e.source.binding) = some e := by
    rw [← Option.isSome_iff_exists, List.find?_isSome]
    exact ⟨e0, by simpa using he0, by simpa using hb0⟩
  obtain ⟨e, he⟩ := this
  obtain ⟨hp, as, bs, hab, has⟩ := List.find?_eq_some_iff_append.mp he
  have h2 := find_append (p := fun e : StackEntry => !e.source.binding) (a := as) (e := e) (b := bs)
    (by intro x hx; simpa using has x hx) hp
  refine ⟨bs.reverse, e, as.reverse, ?_, by simpa using hp, ?_, ?_⟩
  · have := congrArg List.reverse hab; simpa using this
  · intro x hx; simpa using has x (by simpa using hx)
  · unfold State.evictOldest
    simp only [hl, Config.stackSize, Nat.lt_irrefl, if_false, he]
    rw [hab, h2.2]
    simp

/-- Everything that the end of a pot switching procedure does (R123, R124). -/
theorem endSwitch_spec {s u : State} {cause : SwitchEnd} (hs : s.StackKept) (hu : u.stack = s.stack)
    (hip : s.stack.switching.phase ≠ .none) :
  ∃ above e below, s.stack.entries = above ++ e :: below ∧ e.source = .switching ∧
     let after := { s.stack with
       entries := above ++ below, switching := { s.stack.switching with phase := .none, lastEnd := cause } }
     u.endSwitch cause =
       (((u.setStack after).post .stackChange e.id
         [[6#8], [3#8], beBytes 3 e.ceiling, beBytes 3 (after.term.getD 0)]).post .switch
           s.stack.switching.pot [[3#8], beBytes 1 cause.code]) := by
  obtain ⟨hlen, hnd, hids, hnx, hut, hsw, hb⟩ := hs
  have hip' : s.stack.switching.inProgress = true := by simpa [Switching.inProgress] using hip
  rw [hip'] at hsw
  have h0 : (s.stack.entries.filter fun e => e.source == .switching).length = 1 := hsw
  have : ∃ e, s.stack.entries.find? (fun e => e.source == .switching) = some e := by
    rw [← Option.isSome_iff_exists, List.find?_isSome]
    have : 0 < (s.stack.entries.filter fun e => e.source == .switching).length := by omega
    obtain ⟨x, hx⟩ := List.exists_mem_of_length_pos this
    rw [List.mem_filter] at hx; exact ⟨x, hx.1, hx.2⟩
  obtain ⟨e, he⟩ := this
  obtain ⟨hp, as, bs, hab, has⟩ := List.find?_eq_some_iff_append.mp he
  have h2 := find_append (p := fun e : StackEntry => e.source == .switching) (a := as) (e := e) (b := bs)
    (by intro x hx; simpa using has x hx) hp
  have hp' : e.source = .switching := by simpa using hp
  refine ⟨as, e, bs, hab, hp', ?_⟩
  unfold State.endSwitch State.removeEntry
  simp only [hu, hab, h2.1, h2.2, State.postStack, hp']
  cases cause <;> rfl

end Sys2Proof.Machine
end

