-- ==== Sys2Proof/Tests/Slice0.lean ====
section
/-! SUPPORT. Tests: the checks of `Instr.wf`, the manual's tables and worked sequences, one or two per command,
and for every obligation with hypotheses a state and operands that meet them. Expected values are the manual's,
with the place they stand in. -/

set_option Elab.async false

namespace Sys2Proof.Tests

open Sys2Proof Sys2Proof.Machine

/-! ### The bench -/

/-- A request frame with TAG 0x41. -/
def frame (k : RequestKind) (eng : Bool) (payload : List Byte) : Frame :=
  ⟨BitVec.ofNat 8 k.code, 0x41#8, if eng then 1#8 else 0#8, payload⟩

/-- `s` with one request at the head of the receive queue and the key turned as the request asks. -/
def asked (k : RequestKind) (eng : Bool) (payload : List Byte) (s : State) : State :=
  s.setHost { s.host with queue := [frame k eng payload], keyLevel := eng }

/-- The state after one command. -/
def after (c : Instr) (s : State) : State :=
  match exec c s with
  | .next t => t
  | .fault _ => s
  | .refused _ => s

/-- The payload of the reply being sent. -/
def reply (s : State) : List Nat :=
  match s.host.transmitter with
  | .sendingReply f => ((f.drop 6).take (f.length - 8)).map (·.toNat)
  | .sendingReport _ => []
  | .idle => []

/-- The kinds and subjects of the queued events. -/
def told (s : State) : List (EventKind × Nat) := s.events.entries.map fun e => (e.kind, e.subject)

/-- Items at values other than their defaults. -/
def items (ps : List (Item × Int)) (s : State) : State :=
  s.setSettings (ps.foldl (fun st p => st.put p.1 p.2) s.settings)

def fit (gs : List Group) (s : State) : State := items (gs.map fun g => (.group g .fitted, 1)) s

def mode (st : SupState) (s : State) : State := s.setSup { s.sup with state := st }

/-- The supervisor in RUN with the cycle timer running and a previous target. -/
def running (amps : Nat) (s : State) : State :=
  (mode .run s).setReg { s.reg with cycleTimer := true, applied := amps, previous := amps }

def chan (n : Nat) (v : Int) (s : State) : State :=
  s.setFront { s.front with chans := s.front.chans.set n ⟨v, true, 0, 0⟩ }

def line (amps : Nat) (s : State) : State :=
  s.setFront { s.front with line := { s.front.line with state := .normal, current := amps, held := false } }

def group (g : Group) (st : GroupState) (s : State) : State :=
  s.setUnit g { s.unit g with record := { (s.unit g).record with state := st } }

/-- Group `g` RUNNING with capacity `c` and join credit `j`. -/
def carrying (g : Group) (c j : Nat) (s : State) : State :=
  (group g .running s).setCap g { (s.coolOf g).cap with capacity := c, credit := j }

/-- The order `o` to `g` in flight under SEQ 38. -/
def sent (g : Group) (o : Order) (s : State) : State :=
  s.setLink { s.link with bus := .awaiting { group := g, order := o, seq := 38, origin := none } }

/-- A command of the line computer. -/
def command (k : CmdKind) (st : CmdState) : Command :=
  { kind := k, origin := .linkRequest 0x41#8, state := st, seq := 38, firstSent := none, sendable := true }

/-- A command in the slot of `g`. -/
def holding (g : Group) (k : CmdKind) (st : CmdState) (s : State) : State :=
  s.setUnit g { s.unit g with command := some (command k st) }

/-- A fitted, CONNECTED, seeded pot. -/
def potAt (st : AeState) (filtered : Nat) : Pot :=
  { Pot.initial with fitted := true, seeded := true, filtered := filtered, ae := { PotAe.initial with state := st } }

/-- Pots 1 to 16 fitted, covered by one entry on module 1. -/
def scanned (s : State) : State :=
  (s.setPots (List.replicate 16 (potAt .normal 4200) ++ List.replicate 368 Pot.initial)).setScan
    { s.scan with table := [⟨1, 0, 16, 1⟩] }

/-- Pot 7 in an AE with v_ref 4,210, as R52 and R65 have it. -/
def inAe (s : State) : State :=
  let x := potAt .active 4210
  ((scanned s).setPot 7 { x with ae := { x.ae with frozen := true, vRef := 4210 } }).setAeFlag 7 true

def entry (id : Nat) (src : Source) (amps : Nat) (life : Option Nat) : StackEntry :=
  { id := id, source := src, ceiling := amps, rate := none, life := life, pushed := Time.epoch }

def stacked (es : List StackEntry) (next : Nat) (s : State) : State :=
  s.setStack { s.stack with entries := es, nextId := next }

/-- A pass running at its first entry. -/
def polling (s : State) : State :=
  s.setScan { s.scan with pass := some ⟨0, 0, Time.epoch⟩ }

/-- A boundary at which every conversion of the channels listed reads the number given, and 0 elsewhere. -/
def boundary (raw : List (Nat × Nat)) (safe utility key apart : Bool) : Boundary :=
  { conversions := raw.foldl (fun v x => v.setIfInBounds x.1 (Vector.replicate 16 (BitVec.ofNat 16 x.2)))
      (Vector.replicate 27 (Vector.replicate 16 0#16)),
    safe := safe, utility := utility, engKey := key, apart := apart }

/-- A clock reading of 4 March 2026. -/
def at_ (hour minute second : Nat) : Time := ⟨2026, 3, 4, hour, minute, second, 0⟩

/-- The pins SAFE, UTILITY and ENG_KEY read as other than registered at so many boundaries in a row. -/
def counted (safe utility key : Nat) (s : State) : State :=
  ((s.setSup { s.sup with safeRun := safe }).setStack
    { s.stack with assertCount := utility, releaseCount := utility }).setHost { s.host with keyRun := key }

/-! ### Well-formed commands: one ill-formed term for each check -/

theorem test_wf_frame_empty : (Instr.hostFrameReceived []).wf = false := by decide +kernel
theorem test_wf_frame_long : (Instr.hostFrameReceived (List.replicate 1208 0#8)).wf = false := by decide +kernel
theorem test_wf_len : (Instr.badLenAbandon 0x04#8 0xB0#8).wf = false := by decide +kernel
theorem test_wf_group_reply : (Instr.groupReply []).wf = false := by decide +kernel
theorem test_wf_module_reply : (Instr.moduleReply []).wf = false := by decide +kernel
theorem test_wf_quench_pot : (Instr.quenchRequest 385).wf = false := by decide +kernel
theorem test_wf_long_pot : (Instr.aeLong 0).wf = false := by decide +kernel
theorem test_wf_stack_id : (Instr.stackEntryExpired 256).wf = false := by decide +kernel
theorem test_wf_accepts : (Instr.badLenAbandon 0x04#8 0xB1#8).wf = true
    ∧ (Instr.hostFrameReceived (List.replicate 1207 0#8)).wf = true ∧ (Instr.aeLong 384).wf = true := by
  decide +kernel

/-! ### Encodings and tables -/

/-- R165: the CRC of the nine ASCII bytes "123456789" is 0x29B1. -/
theorem test_crc : crc [0x31#8, 0x32#8, 0x33#8, 0x34#8, 0x35#8, 0x36#8, 0x37#8, 0x38#8, 0x39#8] = 0x29B1#16 := by
  decide +kernel

/-- No row of the table gives bits, so no word spells a command. -/
theorem test_decode : decodeTableWord 8 0 = none := rfl

/-- 11.6: identifiers, defaults and authorities of some items. -/
theorem test_index :
    (Item.lineMax.id, Item.lineMax.row.dflt, Item.lineMax.row.engineer) = (0x0101, 600000, true)
    ∧ ((Item.group .g3 .joinRate).id, (Item.group .g3 .joinRate).row.dflt) = (0x0222, 2000)
    ∧ ((Item.loop .g2 (.derate 7)).id, (Item.loop .g6 .critDwell).id) = (0x0317, 0x035C)
    ∧ ((Item.offset 26).id, (Item.span 0).id) = (0x0834, 0x0801)
    ∧ Item.ofId? 0x0205 = none := by decide +kernel

/-- R144: 2000-01-01 is a Saturday; 2099-12-31 leads to 2000-01-01; February of a year divisible by 4. -/
theorem test_calendar : dayTypeOf [] Time.epoch = .weekend
    ∧ (Time.addTenths ⟨2099, 12, 31, 23, 59, 59, 9⟩ 1) = Time.epoch
    ∧ (Time.addTenths ⟨2024, 2, 28, 23, 59, 59, 9⟩ 1) = ⟨2024, 2, 29, 0, 0, 0, 0⟩ := by decide +kernel

/-- Chapter 5, worked cases: derating of loop 2. -/
theorem test_curve :
    ([250, 530, 557, 650, 725, 950].map
      (curveAt [(300, 1000), (450, 1000), (550, 950), (650, 800), (700, 600), (750, 400), (800, 200), (900, 0)]))
    = [1000, 960, 939, 800, 500, 0] := by decide +kernel

/-- Chapter 5, worked sequence on group 3: factors of the default curve. -/
theorem test_default_curve : ([560, 652, 640, 651, 648, 629].map (curveAt (State.reset.curve .g3)))
    = [940, 740, 800, 745, 760, 827] := by decide +kernel

/-- R148, the example: 02:00, 06:00, 18:30 and 23:10. -/
theorem test_buckets : ([120, 360, 1110, 1390].map
      (bucketAt [⟨360, 1⟩, ⟨1080, 3⟩, ⟨1260, 1⟩, ⟨1380, 2⟩])) = [2, 1, 3, 2] := by decide +kernel

/-- 3.8: the rotation register 0x0006 advances to 0x000C and then to 0x0018. -/
theorem test_rotation : rotate 0x0006#15 = 0x000C#15 ∧ rotate 0x000C#15 = 0x0018#15 := by decide +kernel

/-! ### Host link -/

theorem test_device_reset :
    let t := after (.deviceReset ⟨false, false, true, Six.const false, true, true⟩) (mode .run State.reset)
    t.sup.state = .setup ∧ t.host.baudCode = 3 ∧ t.host.keyLevel = true ∧ told t = [(.resetDone, 0)] := by
  decide +kernel

/-- R15, R180: from HOLD, with SAFE deasserted, the reply reports SETUP. -/
theorem test_line_reset :
    let t := after .lineReset (asked .lineReset true [] (mode .hold (inAe State.reset)))
    reply t = [0, 0] ∧ t.sup.cause = .lineReset ∧ t.ae.count = 0 ∧ (t.pot 7).ae.state = .normal
      ∧ told t = [(.resetDone, 0), (.aeEnd, 7)] := by decide +kernel

theorem test_sync : (after .hostSyncFound State.reset).host.receiver = .gathering [] := by decide +kernel

/-- R165 to R167: a RELEASE frame from its bytes. -/
theorem test_frame_received :
    let s := after .hostSyncFound State.reset
    let f := ((hostFrame 0x0B#8 0x41#8 0#8 []).drop 1)
    (after (.hostFrameReceived f) s).host.queue = [⟨0x0B#8, 0x41#8, 0#8, []⟩] := by decide +kernel

/-- R166: LEN 1,201 is abandoned and counted, LEN 1,200 is not. -/
theorem test_bad_len :
    let s := after .hostSyncFound State.reset
    (after (.badLenAbandon 0x04#8 0xB1#8) s).host.badLen = 1
      ∧ (after (.badLenAbandon 0x04#8 0xB0#8) s).host.receiver = .gathering [0x04#8, 0xB0#8] := by decide +kernel

theorem test_frame_timeout :
    let t := after .frameTimeout (after .hostSyncFound State.reset)
    t.host.receiver = .hunting ∧ t.host.timeouts = 1 := by decide +kernel

theorem test_frame_sent :
    (after .hostFrameSent (after .identify (asked .identify false [] State.reset))).host.transmitter = .idle := by
  decide +kernel

/-- R168 test 1: a request of KIND 0x45 is answered with KIND 0x7F, its TAG, BAD_KIND and the KIND. -/
theorem test_bad_kind :
    let s := State.reset.setHost { State.reset.host with queue := [⟨0x45#8, 0x41#8, 0#8, []⟩] }
    (after .badKindRequest s).host.transmitter
      = .sendingReply (hostFrame 0x7F#8 0x41#8 0#8 [0x10#8, 0x45#8]) := by decide +kernel

/-- R179: straps 0 are 57,600 baud. -/
theorem test_identify : reply (after .identify (asked .identify false [] State.reset))
    = [0, 0x5C, 0x08, 0x5C, 1, 0, 0, 0xE1, 0x00, 4, 64, 0x04, 0xB0] := by decide +kernel

theorem test_status_length : (reply (after .getStatus (asked .getStatus false [] State.reset))).length = 189 := by
  decide +kernel

/-- Chapter 10, one set of pairs at two authorities: the pairs. -/
def fivePairs : List Byte :=
  5#8 :: (beBytes 2 0x0103 ++ beBytes 4 620000 ++ beBytes 2 0x0104 ++ beBytes 4 25000 ++ beBytes 2 0x0401
    ++ beBytes 4 9000 ++ beBytes 2 0x0701 ++ beBytes 4 1 ++ beBytes 2 0x0101 ++ beBytes 4 550000)

/-- Chapter 10: the key not turned gives PARTIAL, skipped 0x14 and adjusted 0x03. -/
theorem test_set_items_operator :
    let t := after .setItems (asked .setItems false fivePairs (mode .run State.reset))
    reply t = [1, 0, 0, 0, 0x14, 2, 0, 0, 0, 3, 2] ∧ t.cfg .baseSetpoint = 600000 ∧ t.cfg .rampUp = 20000
      ∧ t.cfg .telEnable = 1 ∧ t.cfg .aeOn = 8000 ∧ t.cfg .lineMax = 600000 := by decide +kernel

/-- Chapter 10: the key turned gives LOCKED with pair index 4, and no pair is applied. -/
theorem test_set_items_engineer :
    let t := after .setItems (asked .setItems true fivePairs (mode .run State.reset))
    reply t = [0x14, 4, 0] ∧ t.settings = [] := by decide +kernel

/-- R175: LINE_MAX 600,000 and the OFFSET of TI_1, -200. -/
theorem test_get_items : reply (after .getItems (asked .getItems false
      (2#8 :: (beBytes 2 0x0101 ++ beBytes 2 0x0812)) State.reset))
    = [0, 0, 9, 0x27, 0xC0, 0xFF, 0xFF, 0xFF, 0x38] := by decide +kernel

/-- Chapter 10, coalescing and class order: the queue before the first GET_EVENT. -/
def threeEvents : State :=
  (((State.reset.setEvents ⟨[], false, false⟩).post .aeEnd 212 [beBytes 4 4118]).post .scanFault 9
    [[2#8], [0#8]]).post .quenchRequest 57 [beBytes 4 300]

theorem test_get_event :
    let t := after .getEvent (asked .getEvent false [] threeEvents)
    told t = [(.aeEnd, 212), (.scanFault, 9)] ∧ t.events.attn = true
      ∧ (reply t).take 15 = [0, 2, 0, 0x46, 2, 0, 57, 0, 0, 1, 0x2C, 0, 0, 0, 0] := by decide +kernel

/-- R170: two readings register a level. -/
theorem test_key : (after (.engKeyChange true) (counted 0 0 2 State.reset)).host.keyLevel = true
    ∧ (after (.engKeyChange true) (counted 0 0 1 State.reset)).host.keyLevel = false := by decide +kernel

/-! ### Line supervisor and line regulator -/

/-- 1.8: the line as RUN finds it, group 4 having answered. -/
def takeover : State :=
  let s := fit [.g1, .g2, .g3, .g4] (scanned State.reset)
  let s := carrying .g1 120000 0 (carrying .g2 120000 0 (carrying .g3 120000 0 (group .g4 .stopped s)))
  let s := chan 3 101200 (chan 4 99400 (chan 5 99900 (line 300000 s)))
  let s := s.setUnit .g3 { s.unit .g3 with record := { (s.unit .g3).record with isLocal := true } }
  s.setEnergy { s.energy with clockSet := true }

/-- 1.8: the RUN request a second later. -/
theorem test_run :
    let t := after .run (asked .run true [] takeover)
    reply t = [0] ∧ t.sup.state = .run ∧ t.sup.lastRun = .accepted ∧ t.reg.applied = 300200
      ∧ t.reg.governing = .base ∧ t.reg.frozenZ = 99900 ∧ t.reg.amount = 200300
      ∧ (t.coolOf .g3).cap.credit = 0 ∧ t.sup.lossTimer = none := by decide +kernel

/-- 1.8: the RUN request 300 ms after LINE_RESET, group 4 not yet polled. -/
theorem test_run_refused :
    let t := after .run (asked .run true [] (group .g4 .unknown takeover))
    reply t = [0x1A, 5] ∧ t.sup.state = .setup ∧ t.sup.lastRun = .adoptionIncomplete := by decide +kernel

theorem test_hold : (after .hold (asked .hold false [] (mode .run State.reset))).sup.state = .hold := by decide +kernel

/-- 2.8: RELEASE is refused NOT_READY with LINE_FAULT while the line measurement is in FAULT. -/
theorem test_release : reply (after .release (asked .release false [] (mode .hold State.reset))) = [0x1A, 6]
    ∧ (after .release (asked .release false [] (mode .hold (line 500000 State.reset)))).sup.state = .run := by
  decide +kernel

/-- R3: two readings register a level. -/
theorem test_safe_input :
    let t := after (.safeInputEvent true) (counted 2 0 0 (running 300000 State.reset))
    (after (.safeInputEvent true) (counted 1 0 0 (running 300000 State.reset))).sup.state = .run
      ∧ t.sup.state = .safe ∧ t.reg.applied = 0 ∧ t.reg.cycleTimer = false
      ∧ told t = [(.resetDone, 0), (.supState, 0), (.safe, 0)] := by decide +kernel

/-- R13: 5.0 s are 50 boundaries. -/
theorem test_group_loss :
    let s := running 300000 (State.reset.setTicks 57)
    let timed := fun start => s.setSup { s.sup with lossTimer := some start }
    (after .groupLossTimeout (timed 7)).sup.cause = .noGroup
      ∧ (after .groupLossTimeout (timed 8)).sup.state = .run
      ∧ (after .groupLossTimeout s).sup.state = .run := by decide +kernel

/-- 8.10: the line under curtailment with group 5 frozen. -/
def curtailed : State :=
  let s := items [(.baseSetpoint, 520000)] (fit Group.all State.reset)
  let s := carrying .g1 110000 110000 (carrying .g2 104500 104500 (group .g3 .tripped s))
  let s := carrying .g4 110000 110000 (chan 7 84000 (carrying .g5 110000 0 s))
  let s := carrying .g6 110000 110000 s
  let s := s.setUnit .g5 { s.unit .g5 with record := { (s.unit .g5).record with reachable := false } }
  running 512000 (stacked [entry 1 .utility 500000 none] 2 s)

theorem test_periodic_cycle :
    let t := after (.periodicCycle false) curtailed
    t.reg.applied = 510000 ∧ t.reg.governing = .utility ∧ t.reg.lastStep = .down
      ∧ t.reg.capacityC = 434500 ∧ t.reg.frozenZ = 84000
      ∧ t.reg.shares = ⟨some 107849, some 102455, none, some 107848, none, some 107848⟩ := by decide +kernel

/-- 8.11: the step under AE hold, for the rows with a top entry and with a UTILITY entry below it. -/
theorem test_ae_hold_step :
    let s := carrying .g1 600000 600000 (fit [.g1] (running 480000 State.reset))
    let s := s.setAe { s.ae with hold := true }
    let top := { entry 1 .operator 450000 none with rate := some 3000 }
    (after (.periodicCycle false) (stacked [top] 2 s)).reg.applied = 480000
      ∧ (after (.periodicCycle false) (stacked [top, entry 2 .utility 420000 none] 3 s)).reg.applied = 478000 := by
  decide +kernel

theorem test_tracking :
    let s := running 480000 State.reset
    let t := after .tracking (s.setReg { s.reg with outside := 10 })
    t.reg.tracking = true ∧ told t = [(.resetDone, 0), (.tracking, 0)] := by decide +kernel

/-! ### Ceiling stack and pot switching -/

/-- 7.5: entries 8 and 7, the counter at 9. -/
def twoEntries (s : State) : State :=
  stacked [entry 8 .engineer 460000 (some 36000), entry 7 .operator 480000 none] 9 (running 460000 s)

/-- R114: 700,000 A is clamped to LINE_MAX and 5 A/s to 10; ADJUSTED. -/
theorem test_push :
    let t := after .pushCeiling
      (asked .pushCeiling false (beBytes 4 700000 ++ beBytes 4 5 ++ beBytes 4 100) (twoEntries State.reset))
    reply t = [2, 9, 0, 9, 0x27, 0xC0, 0, 0, 0, 10, 1, 0, 9, 0x27, 0xC0]
      ∧ t.stack.entries.map (·.id) = [9, 8, 7] ∧ t.stack.nextId = 10 := by decide +kernel

/-- 7.5: an ENGINEER entry is not popped at OPERATOR authority, and at ENGINEER authority it is. -/
theorem test_pop :
    reply (after .popCeiling (asked .popCeiling false [] (twoEntries State.reset))) = [0x16]
    ∧ reply (after .popCeiling (asked .popCeiling true [] (twoEntries State.reset)))
      = [0, 8, 0, 7, 4, 0xE0, 1, 0, 7, 0x53, 0x00] := by decide +kernel

theorem test_remove :
    let t := after .removeCeiling (asked .removeCeiling true [7#8] (twoEntries State.reset))
    reply t = [0, 1, 0, 7, 4, 0xE0] ∧ t.stack.entries.map (·.id) = [8] := by decide +kernel

/-- R118: a lifetime of 36,000 tenths is 3,600 s. -/
theorem test_get_stack :
    (reply (after .getStack (asked .getStack false [] (twoEntries State.reset)))).take 21
      = [0, 2, 8, 1, 0, 7, 4, 0xE0, 0, 0, 0, 0, 0, 0, 0x0E, 0x10, 0, 0, 0, 0, 0] := by decide +kernel

/-- R117: an entry whose lifetime has run out goes, another stays. -/
theorem test_expired :
    let s := stacked [entry 8 .engineer 460000 (some 0), entry 7 .operator 480000 none] 9 State.reset
    ((after (.stackEntryExpired 8) s).stack.entries.map (·.id) = [7])
      ∧ after (.stackEntryExpired 7) s = s := by decide +kernel

/-- 7.6: on a full stack entry 33 is evicted and entry 41 pushed on top. -/
def fullStack : State :=
  stacked [entry 40 .operator 500000 none, entry 39 .operator 500000 none, entry 38 .switching 300000 none,
    entry 37 .engineer 500000 none, entry 36 .operator 500000 none, entry 35 .operator 500000 none,
    entry 34 .engineer 500000 none, entry 33 .operator 500000 none] 41
    (let s := scanned (running 500000 State.reset)
     s.setStack { s.stack with switching := { s.stack.switching with phase := .lowering, pot := 3, kind := .cutOut } })

theorem test_utility :
    let t := after (.utilityInputChange true) (counted 0 10 0 fullStack)
    (after (.utilityInputChange true) (counted 0 9 0 fullStack)).stack.utility = false ∧ t.stack.entries.map (·.id) = [41, 40, 39, 38, 37, 36, 35, 34] ∧ t.stack.nextId = 42
      ∧ told t = [(.resetDone, 0), (.utility, 0), (.stackChange, 33), (.stackChange, 41)] := by decide +kernel

/-- 7.5: the cut-out of a CONNECTED pot takes entry 9. -/
theorem test_pot_switch :
    let t := after .potSwitch (asked .potSwitch false [0#8, 3#8, 1#8] (twoEntries (scanned State.reset)))
    reply t = [0, 9] ∧ t.stack.switching.phase = .lowering ∧ t.stack.term = some 300000
      ∧ told t = [(.resetDone, 0), (.stackChange, 9), (.switch, 3)] := by decide +kernel

/-- 7.5: a procedure on pot 3 in READY. -/
def ready : State :=
  let s := scanned (running 300000 State.reset)
  s.setStack { s.stack with
    entries := [entry 11 .utility 420000 none, entry 9 .switching 300000 none, entry 8 .engineer 460000 none],
    nextId := 12, utility := true,
    switching := ⟨.ready, 3, .cutOut, 9, some Time.epoch, 9000, .none⟩ }

theorem test_switch_done :
    let t := after .potSwitchDone (asked .potSwitchDone false [] ready)
    reply t = [0, 0, 3, 1] ∧ (t.pot 3).cutOut = true ∧ (t.pot 3).ae.state = .out
      ∧ t.stack.entries.map (·.id) = [11, 8] ∧ t.stack.switching.lastEnd = .done
      ∧ t.stack.term = some 420000 := by decide +kernel

theorem test_switch_abort :
    let t := after .potSwitchAbort (asked .potSwitchAbort false [] ready)
    reply t = [0] ∧ (t.pot 3).cutOut = false ∧ t.stack.switching.lastEnd = .aborted := by decide +kernel

/-- R122: 900 s are 9,000 tenths. -/
theorem test_switch_timeout : (after .switchTimeout ready).stack.switching.lastEnd = .timeout
    ∧ (after .switchTimeout (ready.setSwitching { ready.stack.switching with timer := 8999 })).stack.switching.phase
      = .ready := by decide +kernel

theorem test_set_pot_state :
    let t := after .setPotState (asked .setPotState true [0#8, 3#8, 1#8] (scanned State.reset))
    reply t = [0] ∧ (t.pot 3).cutOut = true ∧ told t = [(.resetDone, 0), (.switch, 3)] := by decide +kernel

/-! ### Rectifier group link -/

/-- 6.11: groups 1, 2 and 4 carry 105,000, 100,000 and 105,000 A. -/
def threeGroups : State :=
  let s := fit [.g1, .g2, .g4] (running 310000 State.reset)
  let s := carrying .g1 120000 120000 (carrying .g2 120000 120000 (carrying .g4 120000 120000 s))
  let ack := fun (g : Group) (amps : Nat) (s : State) => s.setUnit g { s.unit g with
    record := { (s.unit g).record with ackShare := amps, senseDue := false, seq := 37 },
    share := ⟨amps, false, .absent⟩, senseTimer := true }
  let s := ack .g1 105000 (ack .g2 100000 (ack .g4 105000 s))
  s.setLink { s.link with lastServed := .g3 }

/-- A GROUP_ORDER for group 2. -/
def order (kind : Byte) (eng : Bool) (s : State) : State := asked .groupOrder eng [2#8, kind] s

/-- 6.11: the STOP waits, the share slots stand at 120,000, 0 and 120,000, and the target at 240,000. -/
theorem test_order_stop :
    let t := after .groupOrderStop (order 2#8 true threeGroups)
    reply t = [3, 2, 2] ∧ t.reg.applied = 240000 ∧ t.reg.limited = true
      ∧ t.reg.shares = ⟨some 120000, some 0, none, some 120000, none, none⟩
      ∧ (t.unit .g2).command.map (·.sendable) = some false ∧ (t.coolOf .g2).cap.origin = .linkRequest := by
  decide +kernel

theorem test_order_start : reply (after .groupOrderStart (order 1#8 true threeGroups)) = [3, 2, 1]
    ∧ reply (after .groupOrderStart (order 1#8 false threeGroups)) = [0x16]
    ∧ reply (after .groupOrderStart (order 1#8 true (mode .safe threeGroups))) = [0x15] := by decide +kernel

theorem test_order_reset_trip :
    ((after .groupOrderResetTrip (order 3#8 true threeGroups)).unit .g2).command.map (·.kind) = some .resetTrip := by
  decide +kernel

/-- 6.12: CAPTURE needs no ENGINEER authority. -/
theorem test_order_capture : reply (after .groupOrderCapture (order 4#8 false threeGroups)) = [3, 2, 4] := by
  decide +kernel

/-- 6.12: a GROUP_RESET behind a CAPTURE in flight goes into the reset flag. -/
theorem test_order_group_reset :
    let t := after .groupOrderGroupReset (order 5#8 true (holding .g2 .capture .sent threeGroups))
    reply t = [3, 2, 5] ∧ (t.unit .g2).resetFlag = some (.linkRequest 0x41#8)
      ∧ (t.unit .g2).command.map (·.kind) = some .capture := by decide +kernel

theorem test_get_group : reply (after .getGroup (asked .getGroup false [7#8] threeGroups)) = [0x13]
    ∧ (reply (after .getGroup (asked .getGroup false [2#8] threeGroups))).take 8 = [0, 3, 1, 0, 0, 0, 0, 0]
    ∧ ((reply (after .getGroup (asked .getGroup false [2#8] threeGroups))).drop 16).take 5 = [0, 0, 0, 0, 1] := by
  decide +kernel

/-- 6.11: counting from group 4, after the last served group 3. -/
theorem test_order_send :
    let t := after .orderSend (after .groupOrderStop (order 2#8 true threeGroups))
    t.link.lastServed = .g4 ∧ t.link.lastOrder.take 9 = [0x96#8, 4#8, 4#8, 38#8, 4#8, 0#8, 1#8, 0xD4#8, 0xC0#8] := by
  decide +kernel

/-- 6.11: the STOP accepted with state STOPPING. -/
theorem test_group_reply :
    let s := holding .g2 .stop .sent (sent .g2 (.command .stop) threeGroups)
    let t := after (.groupReply ([0x96#8] ++ withCrc [0x82#8, 3#8, 38#8, 0#8, 0#8, 4#8, 0#8, 0#8, 0x06#8, 0xA4#8])) s
    (t.unit .g2).record.state = .stopping ∧ (t.unit .g2).record.ackShare = 0 ∧ (t.unit .g2).record.current = 1700
      ∧ (t.unit .g2).command = none ∧ (t.coolOf .g2).cap.credit = 0 ∧ t.link.bus = .idle
      ∧ told t = [(.resetDone, 0), (.groupState, 2), (.orderDone, 2), (.capacityLimit, 0)] := by decide +kernel

/-- R105: the group becomes unreachable and the command completes LOST. -/
theorem test_window :
    let t := after .replyWindowExpiry (holding .g2 .stop .sent (sent .g2 (.command .stop) threeGroups))
    (t.unit .g2).record.reachable = false ∧ (t.unit .g2).command = none ∧ t.frozen .g2 = true
      ∧ (.orderFailed, 2) ∈ told t := by decide +kernel

theorem test_backoff :
    ((after (.backoffDeadline .g2 .command) (holding .g2 .stop (.backoff false) threeGroups)).unit .g2).command
      = some (command .stop (.backoff true)) := by decide +kernel

theorem test_sense : ((after (.senseTimerExpiry .g2) threeGroups).unit .g2).record.senseDue = true
    ∧ after (.senseTimerExpiry .g3) threeGroups = threeGroups := by decide +kernel

/-- 8.10: group 4's trip input brings the target to 408,500 and leaves its slot as it stands. -/
theorem test_trip :
    let t := after (.tripInputEvent .g4 true) (after (.periodicCycle false) curtailed)
    t.reg.applied = 408500 ∧ t.reg.limited = true ∧ (t.coolOf .g4).cap.credit = 0
      ∧ t.reg.shares = ⟨some 110000, some 104500, none, none, none, some 110000⟩
      ∧ (t.unit .g4).share.desired = 107848 ∧ told t = [(.resetDone, 0), (.groupTrip, 4), (.capacityLimit, 0)] := by
  decide +kernel

/-! ### Cooling -/

/-- Chapter 5, worked sequence, t = 95.0 s: loop 3 CRITICAL with dwell 200 at 651. -/
def critical : State :=
  let s := chan 17 651 (carrying .g3 89400 89400 (fit [.g3] (running 89400 State.reset)))
  (s.setLoop .g3 { (s.coolOf .g3).loop with state := .critical, dwell := some 200 }).setLeft .g3 .stop

theorem test_cooling_stop :
    let t := after (.coolingStop .g3) critical
    (t.coolOf .g3).cap.unloading = true ∧ (t.coolOf .g3).cap.origin = .cooling ∧ t.effective .g3 = 0
      ∧ (t.unit .g3).command.map (fun c => (c.kind, c.sendable)) = some (.stop, false)
      ∧ (.coolingStop, 3) ∈ told t := by decide +kernel

/-- R84: G_UNLOAD_TIME 30 is 300 samples. -/
theorem test_unload_time :
    let s := chan 5 3000 (critical.setCap .g3 ⟨89400, 89400, true, .cooling, 300, .none⟩)
    ((after (.unloadTimeEnd .g3) s).coolOf .g3).cap = ⟨89400, 89400, false, .cooling, 300, .time⟩ := by decide +kernel

/-- Chapter 5, derating: at the hundredth INVALID sample f_S is 800 and c_2 88,000. -/
theorem test_cooling_sensor :
    let s := items [(.group .g2 .rated, 110000)] (fit [.g2] (chan 16 300 (chan 22 1250 State.reset)))
    let s := s.setFront { s.front with chans := s.front.chans.set 22 ⟨1250, false, 100, 0⟩ }
    let t := after (.coolingSensor .g2) (s.setLeft .g2 .sensor)
    (t.coolOf .g2).loop.fault = true ∧ (t.coolOf .g2).loop.factor = 800 ∧ (t.coolOf .g2).cap.capacity = 88000
      ∧ (t.coolOf .g2).loop.stage = 3 ∧ told t = [(.resetDone, 0), (.coolingSensor, 2), (.coolingState, 2)] := by
  decide +kernel

/-! ### Pot scanning and anode effects -/

/-- R34: two entries that share pot 16. -/
theorem test_set_scan_table :
    let s := asked .setScanTable true [2#8, 1#8, 0#8, 16#8, 0#8, 1#8, 2#8, 0#8, 16#8, 0#8, 16#8] State.reset
    reply (after .setScanTable s) = [0x12, 1] := by decide +kernel

theorem test_set_scan_table_ok :
    let t := after .setScanTable (asked .setScanTable true [1#8, 1#8, 0#8, 16#8, 1#8, 0x71#8] State.reset)
    reply t = [0] ∧ (t.pot 384).ae.state = .unmonitored ∧ (t.pot 368).fitted = false := by decide +kernel

theorem test_get_scan_table : reply (after .getScanTable (asked .getScanTable false [] (scanned State.reset)))
    = [0, 1, 1, 0, 16, 0, 1] := by decide +kernel

theorem test_get_pots :
    reply (after .getPots (asked .getPots false [1#8, 0x80#8, 2#8] State.reset)) = [0x12]
    ∧ (reply (after .getPots (asked .getPots false [1#8, 0x80#8, 1#8] State.reset))).length = 59 := by decide +kernel

theorem test_get_ae_log :
    reply (after .getAeLog (asked .getAeLog false [0#8, 0#8, 0#8, 1#8, 32#8] State.reset))
      = [0, 0, 0, 0, 0, 0, 0, 0, 0, 0] := by decide +kernel

/-- R38, R185: the pass starts at entry 0 of one; the poll names module 1, channel 0, 16 channels. -/
theorem test_scan_period :
    let t := after .scanPeriodExpiry (scanned State.reset)
    t.scan.pass = some ⟨0, 0, Time.epoch⟩ ∧ t.scan.passNumber = 1 ∧ t.scan.rotation = 2#15
      ∧ t.scan.lastPoll.take 4 = [0x69#8, 1#8, 0#8, 16#8] := by decide +kernel

/-- A reply of module 1 with 16 good readings of `v`. -/
def good (v : Nat) : List Byte :=
  0x69#8 :: withCrc ([0x81#8, 16#8] ++ (List.replicate 16 (beBytes 2 v ++ [0#8])).flatten)

/-- 3.8: a reading of 4,171 on a filtered voltage of 4,200 gives 4,196, and 6,365 at 400,000 A. -/
theorem test_module_reply :
    let t := after (.moduleReply (good 4171)) (polling (scanned (line 400000 State.reset)))
    (t.pot 4).filtered = 4196 ∧ (t.pot 4).resistance = 6365 ∧ (t.pot 4).lastVoltage = 4171
      ∧ t.scan.pass = none := by decide +kernel

/-- 3.9: no reply leaves the pot stale and posts SCAN_FAULT. -/
theorem test_poll_window :
    let t := after .pollWindowExpiry (polling (scanned State.reset))
    (t.pot 16).stale = 1 ∧ (t.pot 16).filtered = 4200 ∧ (t.pot 17).stale = 0
      ∧ told t = [(.resetDone, 0), (.scanFault, 0)] := by decide +kernel

/-- 4.10, t = 0.0 s and t = 1.0 s: PENDING with the filter step undone, then the AE. -/
theorem test_ae_start :
    let s := (scanned (line 400000 State.reset)).setPot 12 (potAt .normal 4210)
    let t := (s.freshReading 12 31500 .ok).freshReading 12 35200 .ok
    ((s.freshReading 12 31500 .ok).pot 12).ae.state = .pending
      ∧ (t.pot 12).filtered = 4210 ∧ (t.pot 12).ae.state = .active ∧ (t.pot 12).ae.vRef = 4210
      ∧ (t.pot 12).ae.peak = 35200 ∧ (t.pot 12).ae.excess = 123960000000
      ∧ told t = [(.resetDone, 0), (.aeStart, 12)] := by decide +kernel

/-- 4.11: a spike leaves filtered voltage and events alone and counts. -/
theorem test_spike :
    let s := (scanned (line 400000 State.reset)).setPot 8 (potAt .normal 4150)
    let t := (s.freshReading 8 9100 .ok).freshReading 8 4160 .ok
    (t.pot 8).filtered = 4150 ∧ (t.pot 8).ae.state = .normal ∧ (t.pot 8).ae.spikes = 1
      ∧ t.events = s.events := by decide +kernel

/-- 4.10: QUENCH_REQUEST at a timer of 300. -/
theorem test_quench :
    let s := inAe State.reset
    let x := s.pot 7
    let t := after (.quenchRequest 7) (s.setPot 7 { x with ae := { x.ae with timer := 300 } })
    (t.pot 7).ae.quench = true ∧ told t = [(.resetDone, 0), (.quenchRequest, 7)]
      ∧ after (.quenchRequest 7) s = s := by decide +kernel

theorem test_ae_long :
    let s := inAe State.reset
    let x := s.pot 7
    let t := after (.aeLong 7) (s.setPot 7 { x with ae := { x.ae with timer := 3000 } })
    (t.pot 7).ae.long = true ∧ told t = [(.resetDone, 0), (.aeLong, 7)] := by decide +kernel

/-! ### Line samples -/

/-- R18, R19: 16 conversions of 32,768 on LCA are 325,004 A, and LCB stays INVALID: FAULT until recovered. -/
theorem test_line_sample :
    let t := after (.lineSample (boundary [(0, 32768)] false false false false)) State.reset
    t.chan 0 = ⟨325004, true, 0, 32768⟩ ∧ t.chan 1 = ⟨0, false, 1, 0⟩ ∧ t.front.line.selection = .single
      ∧ t.front.line.current = 325004 ∧ t.front.line.state = .fault ∧ t.front.line.recovery = 1
      ∧ t.energy.time = ⟨2000, 1, 1, 0, 0, 0, 1⟩ := by decide +kernel

/-- R26: taken with the recovery count at 9. -/
theorem test_recovery :
    let s := State.reset.setFront { State.reset.front with line := { State.reset.front.line with recovery := 9 } }
    let t := after (.lineMeasRecovery (boundary [(0, 32768)] false false false false)) s
    t.front.line.state = .single ∧ t.front.line.recovery = 0 ∧ told t = [(.resetDone, 0), (.lineMeas, 0)] := by
  decide +kernel

/-- 2.9: a disagreement that the group sum cannot settle, and one that it settles for LCB. -/
theorem test_disagree :
    let s := chan 0 352000 (chan 1 368000 (line 360000 (fit [.g1, .g2, .g3] State.reset)))
    s.selectCurrent = (360000, .fault)
      ∧ (chan 3 120500 (chan 4 119800 (chan 5 121900 s))).selectCurrent = (368000, .disagree) := by decide +kernel

/-! ### Energy -/

/-- 9.10: the interval at t = 6,000. -/
def sixThousand : State :=
  items [(.contractKw, 480000)] (State.reset.setEnergy { Energy.initial with
    ring := List.replicate 100 ⟨480000000000, 950000⟩,
    interval := { Energy.initial.interval with t := 6000, energy := 2856000000000000 } })

theorem test_demand_evaluation :
    let t := after .demandEvaluation sixThousand
    t.energy.limiter = ⟨true, some 497894, 477333, 6000, 950000⟩ ∧ t.energy.interval.flags.limited = true
      ∧ told t = [(.resetDone, 0), (.demandLimit, 0)] := by decide +kernel

/-- 9.10: the interval end, 475,000 kW and LIMITED. -/
theorem test_interval_end :
    let e := sixThousand.energy
    let s := sixThousand.setEnergy { e with
      limiter := ⟨true, some 497894, 475000, 8900, 950000⟩, period := { e.period with maximum := 471200 },
      interval := { e.interval with t := 9000, energy := 4275000000000000,
                                    flags := ⟨false, true, false, false, false⟩ } }
    let t := after .demandIntervalEnd s
    t.energy.demandLog = [⟨⟨2000, 1, 1, 0, 15, 0, 0⟩, 9000, 475000, ⟨false, true, false, false, false⟩⟩]
      ∧ t.energy.period.maximum = 475000 ∧ t.energy.limiter.trim = none
      ∧ t.energy.interval.stop = ⟨2000, 1, 1, 0, 30, 0, 0⟩ := by decide +kernel

/-- R147: at a minute boundary the pending set comes into force. -/
theorem test_minute :
    let w : Tariff := ⟨[⟨0, 1⟩], [⟨0, 2⟩], [⟨0, 3⟩], []⟩
    let s := State.reset.setEnergy { Energy.initial with tariffPending := some w, clockSet := true }
    let t := after .tariffMinuteEvaluation s
    t.energy.tariff = w ∧ t.energy.tariffPending = none ∧ t.energy.bucket = 2 := by decide +kernel

/-- 9.11: SET_TIME 10:14:05.0 at 10:07:30.0. -/
theorem test_set_time :
    let s := State.reset.setEnergy { Energy.initial with
      time := at_ 10 7 30, clockSet := true,
      interval := ⟨at_ 10 0 0, at_ 10 15 0, 9000, 4500, 2070000000000000, IntervalFlags.clear, false⟩ }
    let t := after .setTime (asked .setTime true [0x07#8, 0xEA#8, 3#8, 4#8, 10#8, 14#8, 5#8, 0#8] s)
    t.energy.interval = ⟨at_ 10 14 5, at_ 10 30 0, 9550, 0, 0, ⟨true, false, false, false, false⟩, false⟩
      ∧ t.energy.demandLog = [⟨at_ 10 7 30, 4500, 460000, ⟨true, false, false, false, false⟩⟩]
      ∧ t.energy.period.maximum = 460000 ∧ told t = [(.resetDone, 0), (.clockSet, 0)] := by decide +kernel

/-- The tariff set of the example of R148. -/
def tariffBytes : List Byte :=
  [4#8, 1#8, 0x68#8, 1#8, 4#8, 0x38#8, 3#8, 4#8, 0xEC#8, 1#8, 5#8, 0x64#8, 2#8, 1#8, 0#8, 0#8, 2#8,
   1#8, 0#8, 0#8, 0#8, 1#8, 0x07#8, 0xEA#8, 12#8, 25#8]

theorem test_set_tariff :
    let t := after .setTariff (asked .setTariff true tariffBytes State.reset)
    reply t = [0] ∧ t.energy.tariffPending
      = some ⟨[⟨360, 1⟩, ⟨1080, 3⟩, ⟨1260, 1⟩, ⟨1380, 2⟩], [⟨0, 2⟩], [⟨0, 0⟩], [⟨2026, 12, 25⟩]⟩ := by decide +kernel

theorem test_get_energy : (reply (after .getEnergy (asked .getEnergy false [] State.reset))).take 9
    = [0, 0, 0, 0, 0, 0, 0, 1, 0] := by decide +kernel

/-- R163, R182: the period flags ESTIMATED and CLOCK_NOT_SET as a byte each, before the two numbers of records. -/
theorem test_get_energy_flags :
    let s := after (.lineSample (boundary [] false false false false)) State.reset
    ((reply (after .getEnergy (asked .getEnergy false [] s))).reverse.take 6).reverse = [0, 1, 1, 0, 0, 0] := by
  decide +kernel

theorem test_get_demand_log :
    reply (after .getDemandLog (asked .getDemandLog false [0#8, 33#8] State.reset)) = [0x12]
    ∧ reply (after .getDemandLog (asked .getDemandLog false [0#8, 32#8] State.reset)) = [0, 0, 0] := by decide +kernel

/-- R160: 2 kWh and 5 counts in bucket 1 close into 2 kWh, the remainder of 5 staying. -/
theorem test_close_period :
    let s := State.reset.setEnergy { Energy.initial with accounts := [⟨0, false⟩, ⟨72000000005, false⟩, ⟨0, false⟩, ⟨0, false⟩] }
    let t := after .closePeriod (asked .closePeriod true [] s)
    t.energy.accounts = [⟨0, false⟩, ⟨5, false⟩, ⟨0, false⟩, ⟨0, false⟩]
      ∧ t.energy.history.map (fun r => (r.kwh, r.total)) = [([0, 2, 0, 0], 2)] := by decide +kernel

theorem test_get_periods :
    reply (after .getPeriods (asked .getPeriods false [0#8, 13#8] State.reset)) = [0x12]
    ∧ reply (after .getPeriods (asked .getPeriods false [0#8, 12#8] State.reset)) = [0, 0, 0] := by decide +kernel

/-! ### Witnesses: states and operands that meet the hypotheses of the obligations, clause by clause -/

/-- The request that `asked` puts at the head of the queue is admitted. -/
abbrev Admitted (k : RequestKind) (eng : Bool) (payload : List Byte) (s : State) : Prop :=
  (asked k eng payload s).Admits k (frame k eng payload) []

def event (k : EventKind) (n : Nat) : Event := ⟨k, n, 0#64, Time.epoch, Time.epoch, 1⟩

def queued (es : List Event) (s : State) : State := s.setEvents ⟨es, false, true⟩

def hostFrameOf (kind : Nat) (s : State) : State :=
  s.setHost { s.host with queue := [⟨BitVec.ofNat 8 kind, 0#8, 0#8, []⟩] }

def receiving (r : Receiver) (s : State) : State := s.setHost { s.host with receiver := r }

theorem test_witness_StepRunsTheFrontCommand :
    ({ State.reset with pending := [.tracking, .orderSend] } : State).pending = .tracking :: [.orderSend]
      ∧ State.reset.pending = [] := ⟨rfl, rfl⟩

theorem test_witness_PostingMergesAppendsOrOverruns :
    let full := queued ((List.range 64).map (event .aeEnd)) State.reset
    let same := fun e : Event => e.kind = .aeEnd ∧ e.subject = 63
    (∃ e ∈ full.events.entries, same e)
      ∧ ((∀ e ∈ State.reset.events.entries, ¬ same e) ∧ State.reset.events.entries.length < 64)
      ∧ ((∀ e ∈ full.events.entries, ¬ (e.kind = .aeEnd ∧ e.subject = 64)) ∧ 64 ≤ full.events.entries.length) := by
  decide +kernel

theorem test_witness_ReplyIsFormedAndHandedOver : State.reset.host.waiting = none
    ∧ State.reset.host.transmitter = .idle := by decide +kernel

theorem test_witness_RequestsPassTheirTestsInOrder :
    (Instr.run.requestKind? = some .run ∧ (asked .run false [] State.reset).Offers (frame .run false []) []
      ∧ (frame .run false []).kind.toNat = RequestKind.run.code ∧ RequestKind.run.engineerOnly = true
      ∧ (asked .run false [] State.reset).engineer (frame .run false []) = false)
    ∧ ((asked .run true [0#8] State.reset).engineer (frame .run true [0#8]) = true
      ∧ RequestKind.run.lengthOk [0#8] = false)
    ∧ (RequestKind.setTime.lengthOk (List.replicate 7 0#8) = false
      ∧ RequestKind.setTime.lengthOk (List.replicate 9 0#8) = false)
    ∧ ((hostFrameOf 0 State.reset).Offers ⟨0#8, 0#8, 0#8, []⟩ [] ∧ ∀ k ∈ RequestKind.all, k.code ≠ 0)
    ∧ ((hostFrameOf 0x34 State.reset).Offers ⟨0x34#8, 0#8, 0#8, []⟩ [] ∧ ∀ k ∈ RequestKind.all, k.code ≠ 0x34) := by
  decide +kernel

theorem test_witness_FrameReceivedIsTheFrameSent :
    (List.replicate 1200 0xC3#8).length ≤ 1200
      ∧ (receiving (.gathering []) State.reset).host.receiver = .gathering []
      ∧ (receiving (.gathering []) State.reset).host.queue.length < 4
      ∧ ¬ (receiving (.gathering []) (State.reset.setHost { State.reset.host with
        queue := List.replicate 4 ⟨1#8, 0#8, 0#8, []⟩ })).host.queue.length < 4 := by decide +kernel

theorem test_witness_ReceiverFramesOrDropsTheBytes :
    State.reset.host.receiver = .hunting ∧ (0x96#8 : Byte) ≠ 0xC3#8
      ∧ (receiving (.gathering []) State.reset).host.receiver = .gathering []
      ∧ (receiving (.gathering [0xC3#8]) State.reset).host.receiver = .gathering [0xC3#8]
      ∧ 1200 < 256 * (0x04#8 : Byte).toNat + (0xB1#8 : Byte).toNat
      ∧ (0#16 : Word16) ≠ crc (beBytes 2 0 ++ [1#8, 0#8, 0#8] ++ []) := by decide +kernel

theorem test_witness_SentFrameGivesWayToTheNext :
    let busy := fun t : Transmitter => State.reset.setHost { State.reset.host with transmitter := t }
    (busy (.sendingReply [0#8])).host.transmitter = .sendingReply [0#8]
      ∧ (busy (.sendingReport [0#8])).host.transmitter = .sendingReport [0#8] := by decide +kernel

theorem test_witness_GetEventTakesTheEarliestOfTheHighestClass :
    let s := queued [event .aeEnd 1, event .quenchRequest 2, event .aeLong 3, event .scanFault 4] State.reset
    let none_ := State.reset.setEvents ⟨[], false, false⟩
    (Admitted .getEvent false [] s ∧ (asked .getEvent false [] s).QueueKept
      ∧ s.events.entries = [event .aeEnd 1] ++ event .quenchRequest 2 :: [event .aeLong 3, event .scanFault 4]
      ∧ (∀ x ∈ [event .aeEnd 1], x.kind.cls < EventKind.quenchRequest.cls)
      ∧ (∀ x ∈ [event .aeLong 3, event .scanFault 4], x.kind.cls ≤ EventKind.quenchRequest.cls))
    ∧ (Admitted .getEvent false [] none_ ∧ none_.events.entries = []) := by decide +kernel

theorem test_witness_IdentityScanTableAndStackAreReported :
    Admitted .identify false [] State.reset
      ∧ (State.reset.host.baudCode, 57600) ∈ [(0, 57600), (1, 115200), (2, 460800), (3, 921600)]
      ∧ Admitted .getScanTable false [] (scanned State.reset) ∧ Admitted .getStack false [] ready := by decide +kernel

theorem test_witness_StatusFieldsStandInTheirPlaces :
    Admitted .getStatus false [] State.reset ∧ State.reset.ae.map.length = 12 := by decide +kernel

/-- A log with the records 4,117 and 4,118. -/
def logged (s : State) : State :=
  let r := fun n : Nat => (⟨n, 212, Time.epoch, 330, 38400, 3157080000000, .normalEnd, true⟩ : AeRecord)
  s.setAe { s.ae with closed := 4118, log := [r 4117, r 4118] }

theorem test_witness_RunsOfRecordsAreReported :
    let log := (logged State.reset).ae.log
    (Admitted .getPots false [1#8, 0x6C#8, 21#8] State.reset ∧ 0x16C + 21 - 1 = 384)
      ∧ (Admitted .getItems false [0#8] State.reset ∧ Admitted .getItems false (33#8 :: List.replicate 66 0#8) State.reset)
      ∧ (Admitted .getItems false [1#8, 1#8, 1#8] State.reset
        ∧ [Item.lineMax].map (·.id) = (List.range 1).map fun k => field [1#8, 1#8, 1#8] (1 + 2 * k) 2)
      ∧ (Admitted .getDemandLog false [0#8, 32#8] State.reset ∧ Admitted .getPeriods false [0#8, 12#8] State.reset)
      ∧ (Admitted .getAeLog false [0#8, 0#8, 0x10#8, 0x16#8, 32#8] (logged State.reset)
        ∧ Admitted .getAeLog false [0#8, 0#8, 0#8, 0#8, 0#8] State.reset ∧ State.reset.ae.log = []
        ∧ log.head?.map (·.number) = some 4117 ∧ log.getLast?.map (·.number) = some 4118
        ∧ (log = log.take 1 ++ log.drop 1 ∧ (log.drop 1).map (·.number) = [4118] ∧ ∀ x ∈ log.take 1, x.number ≠ 4118)
        ∧ ((∀ x ∈ log, x.number ≠ 4119) ∧ (logged State.reset).ae.closed + 1 = 4119)
        ∧ (∀ x ∈ log, x.number ≠ 4000)) := by
  dsimp only
  and_intros <;> decide +kernel

/-- GET_ITEMS of an identifier that the part does not know (R175). -/
theorem test_witness_unknown_item : ∀ i : Item, i.id ≠ field [1#8, 1#8, 9#8] (1 + 2 * 0) 2 := fun i =>
  (by decide +kernel : ∀ i ∈ Item.all, i.id ≠ field [1#8, 1#8, 9#8] (1 + 2 * 0) 2) i i.mem_all

/-- A SET_ITEMS payload. -/
def pairs (ps : List (Item × Int)) : List Byte :=
  BitVec.ofNat 8 ps.length :: ps.flatMap fun p => beBytes 2 p.1.id ++ beSigned 4 p.2

/-- A SET_ITEMS request of the pairs is admitted, names their items, and their values pass check 3. -/
abbrev Named (eng : Bool) (ps : List (Item × Int)) (s : State) : Prop :=
  Admitted .setItems eng (pairs ps) s ∧ 1 ≤ ps.length ∧ ps.length ≤ 32 ∧ field (pairs ps) 0 1 = ps.length
    ∧ readPairs ps.length ((pairs ps).drop 1) = ps.map (fun p => (p.1.id, p.2))

/-- The settings after a list of pairs. -/
def stored (ps : List (Item × Int)) : Settings := ps.foldl (fun st p => st.apply p.1 p.2) []

theorem test_witness_SetItemsIsRefusedWhole :
    let low := fun g : Group => [(Item.loop g (.derate 0), packDerate 500 1000)]
    let rising := fun (ps : List (Item × Int)) (g : Group) => ∀ k : Fin 7,
      derateTemp ((stored ps).get (.loop g (.derate k.castSucc)))
        < derateTemp ((stored ps).get (.loop g (.derate k.succ)))
    (Admitted .setItems false [0#8] State.reset
      ∧ Admitted .setItems false (33#8 :: List.replicate 198 0#8) State.reset)
    ∧ (Named true [(.lineMax, 500000), (.aeOn, 4000)] State.reset ∧ Item.lineMax.accepts 500000 = true
      ∧ Item.aeOn.accepts 4000 = false)
    ∧ (Named true [(.aeOn, 9000), (.lineMax, 550000)] (mode .run State.reset) ∧ Item.aeOn.accepts 9000 = true
      ∧ Item.lineMax.accepts 550000 = true ∧ Item.lineMax.row.setupOnly = true ∧ Item.aeOn.row.setupOnly = false)
    ∧ (Named true [(.lineMax, 349999)] State.reset ∧ Item.lineMax.accepts 349999 = true
      ∧ (stored [(.lineMax, 349999)]).get .lineMax < (stored [(.lineMax, 349999)]).get .lineFloor)
    ∧ (Named true [(.aeOn, 6499)] State.reset ∧ Item.aeOn.accepts 6499 = true
      ∧ (stored [(.aeOn, 6499)]).get .aeOn - 500 < (stored [(.aeOn, 6499)]).get .aeOff
      ∧ (stored [(.aeOn, 6499)]).get .lineFloor ≤ (stored [(.aeOn, 6499)]).get .lineMax)
    ∧ (∀ g ∈ [Group.g1, Group.g6], Named true (low g) State.reset ∧ (∀ p ∈ low g, p.1.accepts p.2 = true)
      ∧ ¬ rising (low g) g ∧ (∀ g' ∈ Group.all, g'.num < g.num → rising (low g) g')
      ∧ (stored (low g)).get .lineFloor ≤ (stored (low g)).get .lineMax
      ∧ (stored (low g)).get .aeOff ≤ (stored (low g)).get .aeOn - 500) := by
  dsimp only
  and_intros <;> decide +kernel

theorem test_witness_SetItemsAppliesItsPairsInOrder :
    let ps : List (Item × Int) := [(.baseSetpoint, 620000), (.rampUp, 25000), (.aeOn, 9000), (.telData, 6)]
    let owned : List (Item × Int) := [(.telEnable, 1), (.attnLevel, 0), (.group .g2 .fitted, 1), (.demandMinutes, 60)]
    (Named true owned State.reset ∧ (asked .setItems true (pairs owned) State.reset).settings.wf = true
      ∧ (asked .setItems true (pairs owned) State.reset).refusePairs (owned.map fun p => (p.1.id, p.2)) true = none)
    ∧ Named false ps (mode .run State.reset)
      ∧ (asked .setItems false (pairs ps) (mode .run State.reset)).refusePairs (ps.map fun p => (p.1.id, p.2)) false
        = none := by decide +kernel

theorem test_witness_AppliedPairReadsBackClamped : Settings.wf [] = true
    ∧ Settings.get [] .lineFloor ≤ Settings.get [] .lineMax
    ∧ (stored [(.lineMax, 350000)]).get .lineFloor ≤ (stored [(.lineMax, 350000)]).get .lineMax
    ∧ Item.lineMax.row.clamps = false ∧ Item.rampUp.row.admits = .range 10 20000 ∧ Item.rampUp.row.clamps = true := by
  decide +kernel

theorem test_witness_OperatorRequestsKeepEngineerItems :
    let s := asked .setItems false (pairs [(.aeOn, 9000)]) State.reset
    Instr.setItems.requestKind? = some .setItems ∧ s.settings.wf = true
      ∧ s.host.queue = [frame .setItems false (pairs [(.aeOn, 9000)])]
      ∧ s.engineer (frame .setItems false (pairs [(.aeOn, 9000)])) = false
      ∧ exec .setItems s = .next (after .setItems s) ∧ Item.aeOn.row.engineer = true := by
  refine ⟨?_, ?_, ?_, ?_, rfl, ?_⟩ <;> decide +kernel

/-! Supervisor and regulator -/

theorem test_witness_RunIsRefusedForTheFirstConditionThatFails :
    let clock := fun s : State => s.setEnergy { s.energy with clockSet := true }
    let some_ := fit [.g1] (clock State.reset)
    (Admitted .run true [] (mode .hold State.reset) ∧ (mode .hold State.reset).sup.state ≠ .setup)
      ∧ (Admitted .run true [] State.reset ∧ State.reset.sup.state = .setup ∧ State.reset.energy.clockSet = false)
      ∧ (∀ g ∈ Group.all, (clock State.reset).fitted g ≠ true)
      ∧ (some_.fitted .g1 = true ∧ some_.scan.table = [])
      ∧ ((scanned some_).scan.table ≠ [] ∧ ((scanned some_).unit .g1).record.state = .unknown)
      ∧ ((∀ g ∈ Group.all, (scanned (group .g1 .stopped some_)).fitted g = true →
          ((scanned (group .g1 .stopped some_)).unit g).record.state ≠ .unknown)
        ∧ (scanned (group .g1 .stopped some_)).front.line.state = .fault) := by decide +kernel

theorem test_witness_AcceptedRunTakesOverTheLineWithoutAStep :
    let s := asked .run true [] takeover
    let held := s.setAe { s.ae with hold := true }
    let high := s.setFront { s.front with line := { s.front.line with current := 600001 } }
    (Admitted .run true [] takeover ∧ s.TargetKept ∧ s.sup.state = .setup ∧ s.energy.clockSet = true
      ∧ s.fitted .g1 = true ∧ s.scan.table ≠ []
      ∧ (∀ g ∈ Group.all, s.fitted g = true → (s.unit g).record.state ≠ .unknown) ∧ s.front.line.state ≠ .fault)
    ∧ min s.front.line.current s.lineMax < (after .run s).reg.desired ∧ s.ae.hold = false
    ∧ (held.TargetKept ∧ held.ae.hold = true ∧ min held.front.line.current held.lineMax < (after .run held).reg.desired)
    ∧ (high.TargetKept ∧ (after .run high).reg.desired ≤ min high.front.line.current high.lineMax) := by
  dsimp only
  and_intros <;> decide +kernel

theorem test_witness_HoldAndReleaseMoveBetweenRunAndHold :
    (∀ st ∈ [SupState.setup, .run, .hold, .safe], Admitted .hold false [] (mode st State.reset)
      ∧ Admitted .release false [] (mode st State.reset) ∧ (mode st State.reset).sup.state = st)
      ∧ (mode .hold (line 500000 State.reset)).front.line.state ≠ .fault
      ∧ (mode .hold State.reset).front.line.state = .fault := by decide +kernel

/-- Group 2 with a GROUP_RESET in the reset flag (`flag`) and a cooling stop pending. -/
def behind (flag : Bool) (s : State) : State :=
  s.setUnit .g2 { s.unit .g2 with resetFlag := if flag then some (.linkRequest 0x77#8) else none, coolPending := true }

/-- A START of group 2 withdrawn at entry to SAFE gives way to the GROUP_RESET behind it, or to the cooling STOP. -/
theorem test_witness_EntryToSafe_resolves :
    let s := fun flag => counted 2 0 0 (behind flag (holding .g2 .start .waiting threeGroups))
    let t := fun flag => ((after (.safeInputEvent true) (s flag)).unit .g2).command.map fun c => (c.kind, c.sendable)
    ((s true).unit .g2).command = some (command .start .waiting) ∧ t true = some (.groupReset, true)
      ∧ t false = some (.stop, true) := by decide +kernel

theorem test_witness_EntryToSafeGivesUpControl :
    let s := counted 2 0 0 (holding .g1 .start .waiting (running 300000 (State.reset.setTicks 57)))
    let timed := fun start => s.setSup { s.sup with lossTimer := some start }
    (s.sup.safeLevel = false ∧ 2 ≤ s.sup.safeRun ∧ s.sup.state ≠ .safe) ∧ State.reset.sup.safeRun < 2
      ∧ ((timed 7).sup.lossTimer = some 7 ∧ 7 + 50 ≤ (timed 7).ticks ∧ (timed 7).sup.state = .run)
      ∧ (timed 8).ticks < 8 + 50
      ∧ ((s.unit .g1).command = some (command .start .waiting) ∧ (s.unit .g1).resetFlag = none
        ∧ (s.unit .g1).coolPending = false)
      ∧ ((mode .safe s).sup.state = .safe ∧ (mode .safe s).sup.safeLevel = false ∧ 2 ≤ (mode .safe s).sup.safeRun)
      ∧ ((s.setSup { s.sup with safeLevel := true }).sup.safeLevel = true ∧ 2 ≤ s.sup.safeRun) := by decide +kernel

/-- The ranges of `State.SettingsKept` as a test that evaluates. -/
def inRange (s : State) (i : Item) : Bool :=
  match i.row.admits with
  | .range lo hi => decide (lo ≤ s.cfg i ∧ s.cfg i ≤ hi)
  | .oneOf codes => decide (s.cfg i ∈ codes)
  | .deratePoint => decide (-200 ≤ derateTemp (s.cfg i) ∧ derateTemp (s.cfg i) ≤ 1500
      ∧ 0 ≤ derateFactor (s.cfg i) ∧ derateFactor (s.cfg i) ≤ 1000)
  | .floorToMax => decide (s.cfg .lineFloor ≤ s.cfg i ∧ s.cfg i ≤ s.cfg .lineMax)
  | .zeroToMax => decide (0 ≤ s.cfg i ∧ s.cfg i ≤ 650000)

theorem settingsKept_of {s : State} (h : s.settings.wf = true) (hr : ∀ i ∈ Item.all, inRange s i = true)
    (ha : s.cfg .aeOff ≤ s.cfg .aeOn - 500)
    (hd : ∀ g ∈ Group.all, ∀ k : Fin 7,
      derateTemp (s.cfg (.loop g (.derate k.castSucc))) < derateTemp (s.cfg (.loop g (.derate k.succ)))) :
    s.SettingsKept := by
  refine ⟨h, fun i hi => ?_, ha, hd⟩
  have := hr i hi
  unfold inRange at this
  split at this <;> simp_all

/-- The flags of a map against the pots from number `p` on, as a test that evaluates. -/
def agrees (m : AeMonitor) : Nat → List Pot → Bool
  | _, [] => true
  | p, x :: rest => (m.flag p == x.ae.state.inAe) && (!x.cutOut || x.ae.state == .out)
      && (x.fitted || x.ae.state == .out) && agrees m (p + 1) rest

theorem agrees_at {m : AeMonitor} {xs : List Pot} : ∀ {p k : Nat}, agrees m p xs = true → k < xs.length →
    m.flag (p + k) = (xs.getD k Pot.initial).ae.state.inAe
      ∧ ((xs.getD k Pot.initial).cutOut = true → (xs.getD k Pot.initial).ae.state = .out)
      ∧ ((xs.getD k Pot.initial).fitted = false → (xs.getD k Pot.initial).ae.state = .out) := by
  induction xs with
  | nil => intro p k _ hk; simp at hk
  | cons x rest ih =>
    intro p k h hk
    simp only [agrees, Bool.and_eq_true, beq_iff_eq, Bool.or_eq_true, Bool.not_eq_true'] at h
    cases k with
    | zero => exact ⟨h.1.1.1, fun hc => h.1.1.2.resolve_left (by simp_all), fun hf => h.1.2.resolve_left (by simp_all)⟩
    | succ k =>
      have := ih (p := p + 1) (k := k) h.2 (by simpa using hk)
      simpa [Nat.add_assoc, Nat.add_comm 1 k] using this

theorem mapKept_of {s : State}
    (h : s.ae.map.length = 12 ∧ s.pots.length = 384 ∧ s.ae.count = aeMapCount s.ae.map
      ∧ s.ae.lamp = decide (0 < s.ae.count) ∧ s.ae.hold = decide (s.cfgN .aeHoldCount ≤ s.ae.count))
    (ha : agrees s.ae 1 s.pots = true)
    (hw : s.stack.switching.inProgress = true → s.sup.state ≠ .setup ∧ s.stack.switching.pot ∈ potNumbers
      ∧ s.stack.switching.kind ≠ .none ∧ (s.pot s.stack.switching.pot).fitted = true
      ∧ (s.stack.switching.kind = .cutIn → (s.pot s.stack.switching.pot).cutOut = true)) : s.MapKept := by
  have at_ : ∀ p ∈ potNumbers, s.ae.flag p = (s.pot p).ae.state.inAe
      ∧ ((s.pot p).cutOut = true → (s.pot p).ae.state = .out)
      ∧ ((s.pot p).fitted = false → (s.pot p).ae.state = .out) := by
    intro p hp
    obtain ⟨k, hk, rfl⟩ : ∃ k < 384, k + 1 = p := by simpa [potNumbers, Config.pots] using hp
    have := agrees_at (k := k) ha (by omega)
    simpa [State.pot, Nat.add_comm 1 k] using this
  exact ⟨h.1, h.2.1, h.2.2.1, h.2.2.2.1, h.2.2.2.2, fun p hp => (at_ p hp).1, fun p hp => (at_ p hp).2.1,
    fun p hp => (at_ p hp).2.2, hw⟩

theorem test_witness_settings : (asked .lineReset true [] (inAe (fit Group.all State.reset))).SettingsKept :=
  settingsKept_of (by decide +kernel) (by decide +kernel) (by decide +kernel) (by decide +kernel)

theorem test_witness_LineResetReturnsTheLineToSetup :
    Admitted .lineReset true [] (inAe (fit Group.all State.reset))
      ∧ (asked .lineReset true [] (inAe (fit Group.all State.reset))).MapKept :=
  ⟨by decide +kernel, mapKept_of (by decide +kernel) (by decide +kernel) (by decide +kernel)⟩

theorem test_witness_LineReset_closing :
    let s := inAe (fit Group.all State.reset)
    (potNumbers.filter fun p => (s.pot p).ae.state.inAe) = [7]
      ∧ (potNumbers.filter fun p => (State.reset.pot p).ae.state.inAe) = []
      ∧ s.ae.log.length ≤ 128 ∧ s.ae.closed ≤ 4294967295
      ∧ ready.stack.utility = true ∧ s.stack.utility = false := by decide +kernel

theorem test_witness_PeriodicCycleRampsAndClampsTheTarget :
    State.reset.reg.cycleTimer = false ∧ State.reset.sup.state = .setup
      ∧ curtailed.reg.cycleTimer = true ∧ curtailed.sup.state = .run ∧ (mode .hold curtailed).sup.state = .hold := by
  decide +kernel

/-- `s` under AE hold, with a trim of 480,000 A and no entry on the stack. -/
def trimmed (s : State) : State :=
  (stacked [] 1 (s.setAe { s.ae with hold := true })).setEnergy
    { s.energy with limiter := { s.energy.limiter with active := true, trim := some 480000 } }

/-- A trim-governed step withheld marks the interval (R135); the clamp to a smaller capacity is told (R137). -/
theorem test_witness_PeriodicCycle_told :
    let t := after (.periodicCycle true) (trimmed curtailed)
    let short := carrying .g1 90000 90000 curtailed
    let u := after (.periodicCycle true) short
    t.reg.governing = .trim ∧ t.reg.lastStep = .heldAe ∧ t.energy.interval.flags.aeHeld = true
      ∧ short.reg.limited = false ∧ u.reg.limited = true
      ∧ (u.events.entries.map fun e => (e.kind, e.subject, e.value))
        = [(.resetDone, 0, 0x0100000000000000#64), (.capacityLimit, 0, 0x000005DC00000000#64)] := by decide +kernel

theorem test_witness_SharesSumToTheAllocationAmount : curtailed.sup.state = .run
    ∧ curtailed.allocatable .g1 = true ∧ curtailed.allocatable .g3 = false := by decide +kernel

theorem test_witness_TrackingFollowsTenCyclesInARow :
    let count := fun (flag : Bool) (o i : Nat) =>
      curtailed.setReg { curtailed.reg with tracking := flag, outside := o, inside := i }
    (curtailed.reg.cycleTimer = true ∧ curtailed.sup.state = .run)
      ∧ ((count false 10 0).reg.tracking = false ∧ 10 ≤ (count false 10 0).reg.outside)
      ∧ ((count true 0 10).reg.tracking = true ∧ 10 ≤ (count true 0 10).reg.inside)
      ∧ ¬ 10 ≤ (count false 9 0).reg.outside
      ∧ (after (.periodicCycle false) (line 400000 (count false 9 0))).reg.tracking = true := by decide +kernel

/-! Cooling -/

theorem test_witness_BoundaryEvaluatesEveryFittedLoop :
    let due := critical.setLoop .g3 { (critical.coolOf .g3).loop with dwell := some 199 }
    let lost := due.setFront { due.front with chans := due.front.chans.set 17 ⟨651, false, 99, 0⟩ }
    let hot := (List.range 27).map fun n => (n, 33000)
    critical.fitted .g3 = true ∧ critical.fitted .g1 = false
      ∧ ((after (.lineSample (boundary [] false false false true)) lost).chan 17).invalidRun = 100
      ∧ (after (.lineSample (boundary [] false false false true)) lost).coolOf .g3
        = { lost.coolOf .g3 with left := .sensor }
      ∧ ((after (.lineSample (boundary hot false false false true)) due).coolOf .g3).left = .stop
      ∧ ((after (.lineSample (boundary hot false false false false)) due).coolOf .g3).loop.begun = true := by
  dsimp only
  and_intros <;> decide +kernel

theorem test_witness_DerateCurveInterpolatesDownward : State.reset.settings = []
    ∧ [((300 : Int), (1000 : Int)), (450, 0)] ≠ []
    ∧ List.Pairwise (fun a b => a.1 < b.1) [((300 : Int), (1000 : Int)), (450, 0)]
    ∧ (∀ q ∈ [((300 : Int), (1000 : Int)), (450, 0)], 0 ≤ q.2 ∧ q.2 ≤ 1000)
    ∧ [((300 : Int), (1000 : Int)), (450, 0)] = [] ++ (300, 1000) :: (450, 0) :: []
    ∧ [((300 : Int), (1000 : Int)), (450, 0)] = [(300, 1000)] ++ [(450, 0)] := by decide +kernel

/-- Channel `n` INVALID for `run` samples. -/
def invalid (n run : Nat) (s : State) : State :=
  s.setFront { s.front with chans := s.front.chans.set n ⟨0, false, run, 0⟩ }

theorem test_witness_SensorFaultFollowsTheInvalidRuns :
    let due := (invalid 15 100 (fit [.g1] State.reset)).setLeft .g1 .sensor
    let early := (invalid 15 99 (fit [.g1] State.reset)).setLeft .g1 .sensor
    (due.fitted .g1 = true ∧ (due.coolOf .g1).left = .sensor ∧ 100 ≤ (due.chan 15).invalidRun
      ∧ (due.coolOf .g1).loop.fault = false)
      ∧ (State.reset.coolOf .g1).left ≠ .sensor
      ∧ (¬ 100 ≤ (early.chan 15).invalidRun ∧ ¬ 100 ≤ (early.chan 21).invalidRun) ∧ due.fitted .g2 = false := by
  decide +kernel

/-- R77: a loop that leaves CRITICAL at 300 with all factors 1,000 posts COOLING_STATE. -/
theorem test_witness_Boundary_cooling_state :
    let s := fit [.g3] (running 89400 State.reset)
    let s := s.setLoop .g3 { (s.coolOf .g3).loop with state := .critical, dwell := some 3 }
    let cold := (List.range 27).map fun n => (n, 19275)
    let t := after (.lineSample (boundary cold false false false false)) s
    (t.coolOf .g3).loop.state = .normal ∧ (.coolingState, 3) ∈ told t := by decide +kernel

theorem test_witness_CoolingStopUnloadsAndHandsOverAStop :
    (critical.fitted .g3 = true ∧ (critical.coolOf .g3).left = .stop ∧ (critical.coolOf .g3).loop.begun = false
      ∧ (critical.coolOf .g3).loop.dwell = some 200 ∧ critical.cfgN (.loop .g3 .critDwell) * 10 ≤ 200)
    ∧ ((critical.unit .g3).record.state = .running ∧ (critical.unit .g3).command = none
      ∧ (critical.unit .g3).resetFlag = none)
    ∧ ((holding .g3 .stop .waiting critical).unit .g3).command = some (command .stop .waiting)
    ∧ ((holding .g3 .capture .waiting critical).unit .g3).command = some (command .capture .waiting)
    ∧ ((holding .g3 .start .sent critical).unit .g3).command = some (command .start .sent)
    ∧ ((holding .g3 .groupReset .waiting critical).unit .g3).command = some (command .groupReset .waiting)
    ∧ ((group .g3 .stopping critical).unit .g3).record.state = .stopping
    ∧ critical.fitted .g1 = false := by decide +kernel

theorem test_witness_CoolingStop_flag_set :
    let s := (holding .g3 .start (.backoff false) critical)
    let s := s.setUnit .g3 { s.unit .g3 with resetFlag := some (.linkRequest 0x77#8) }
    (s.unit .g3).command = some (command .start (.backoff false)) ∧ (s.unit .g3).resetFlag ≠ none
      ∧ ((after (.coolingStop .g3) s).unit .g3).coolPending = true := by decide +kernel

theorem test_witness_UnloadingEndsByTime :
    let s := fun timer => chan 5 3000 (critical.setCap .g3 ⟨89400, 89400, true, .cooling, timer, .none⟩)
    ((s 300).fitted .g3 = true ∧ ((s 300).coolOf .g3).cap.unloading = true ∧ ((s 300).chan 5).valid = true
      ∧ ¬ ((s 300).chan 5).value ≤ (s 300).cfg (.group .g3 .unloadLevel)
      ∧ (s 300).cfgN (.group .g3 .unloadTime) * 10 ≤ ((s 300).coolOf .g3).cap.timer
      ∧ (s 300).allocatable .g3 = true)
    ∧ ¬ (s 299).cfgN (.group .g3 .unloadTime) * 10 ≤ ((s 299).coolOf .g3).cap.timer
    ∧ (mode .safe (s 300)).regulating = false := by decide +kernel

/-! The group link -/

theorem test_witness_GroupOrderEntersTheSlot :
    (∀ x ∈ [((1#8 : Byte), true), (3#8, true), (4#8, false), (5#8, true)],
      Admitted .groupOrder x.2 [2#8, x.1] threeGroups
        ∧ (asked .groupOrder x.2 [2#8, x.1] threeGroups).engineer (frame .groupOrder x.2 [2#8, x.1]) = x.2)
      ∧ (2#8 : Byte).toNat = Group.g2.num ∧ threeGroups.fitted .g2 = true ∧ (threeGroups.unit .g2).command = none
      ∧ threeGroups.sup.state ≠ .safe ∧ (threeGroups.unit .g2).resetFlag = none
      ∧ ((holding .g2 .capture .sent threeGroups).unit .g2).command = some (command .capture .sent)
      ∧ ((holding .g2 .capture .waiting threeGroups).unit .g2).command = some (command .capture .waiting) := by
  decide +kernel

theorem test_witness_GroupOrderEntersTheSlot_flag_set :
    let s := fun st => behind true (holding .g2 .capture st threeGroups)
    let slots := fun st => let u := (after .groupOrderGroupReset (order 5#8 true (s st))).unit .g2
      (u.command.map (·.kind), u.resetFlag)
    ((s .sent).unit .g2).resetFlag = some (.linkRequest 0x77#8)
      ∧ slots .sent = (some .capture, some (.linkRequest 0x41#8))
      ∧ slots (.backoff false) = (some .groupReset, none) := by decide +kernel

theorem test_witness_StopOrderUnloadsAnAllocatableGroup :
    Admitted .groupOrder true [2#8, 2#8] threeGroups ∧ threeGroups.allocatable .g2 = true
      ∧ (asked .groupOrder true [2#8, 2#8] threeGroups).engineer (frame .groupOrder true [2#8, 2#8]) = true
      ∧ (group .g2 .starting threeGroups).allocatable .g2 = false
      ∧ threeGroups.regulating = true ∧ (threeGroups.coolOf .g2).cap.unloading = false := by decide +kernel

theorem test_witness_GroupOrdersAreRefusedInOrder :
    Instr.groupOrderStart.orderKind? = some .start
      ∧ (∀ code ∈ [(0#8 : Byte), 6#8, 1#8], Admitted .groupOrder true [2#8, code] threeGroups
        ∧ field [2#8, code] 1 1 = code.toNat)
      ∧ CmdKind.start.code = 1
      ∧ (Admitted .groupOrder true [7#8, 1#8] threeGroups ∧ ∀ g ∈ Group.all, g.num ≠ 7)
      ∧ (Group.g3.num = 3 ∧ threeGroups.fitted .g3 = false)
      ∧ (asked .groupOrder false [2#8, 1#8] threeGroups).engineer (frame .groupOrder false [2#8, 1#8]) = false
      ∧ (mode .safe threeGroups).sup.state = .safe
      ∧ ((holding .g2 .stop .sent threeGroups).unit .g2).command.isSome = true := by decide +kernel

theorem test_witness_ArbiterServesTheNextOffer :
    let wanting := threeGroups.setUnit .g2 { threeGroups.unit .g2 with share := ⟨0, false, .absent⟩ }
    let stage := threeGroups.setUnit .g2 { threeGroups.unit .g2 with stage := ⟨2, false, .passed⟩ }
    let sensing := after (.senseTimerExpiry .g2) threeGroups
    let urgent := holding .g2 .stop .waiting wanting
    (threeGroups.fitted .g3 = false ∧ threeGroups.fitted .g2 = true)
      ∧ (urgent.offer .g2 = some (.command .stop) ∧ wanting.offer .g2 = some (.setShare 0)
        ∧ stage.offer .g2 = some (.setStage 2) ∧ sensing.offer .g2 = some .sense ∧ threeGroups.offer .g2 = none)
      ∧ (∀ g ∈ Group.all, threeGroups.offer g = none)
      ∧ (urgent.link.bus = .idle ∧ urgent.link.lastServed = .g3
        ∧ ([Group.g4, .g5, .g6, .g1, .g2, .g3].map fun x => (x.num + 5 - Group.g3.num) % 6) = [0, 1, 2, 3, 4, 5]
        ∧ ∀ x ∈ [Group.g4, .g5, .g6, .g1], urgent.offer x = none)
      ∧ ((∀ x ∈ [Group.g4, .g5, .g6, .g1], wanting.offer x = none) ∧ wanting.offer .g3 = none)
      ∧ (sent .g1 .sense threeGroups).link.bus ≠ .idle := by decide +kernel

/-- An order to group 2 under SEQ 38. -/
def flight (o : Order) : InFlight := { group := .g2, order := o, seq := 38, origin := none }

theorem test_witness_ValidReplyUpdatesTheGroupRecord :
    let s := fun o : Order => sent .g2 o (threeGroups.setCap .g2 ⟨120000, 120000, true, .cooling, 5, .none⟩)
    (∀ o ∈ [Order.sense, .setShare 0, .setStage 3, .command .start, .command .stop],
      (s o).link.bus = .awaiting (flight o)
        ∧ (flight o).Answers 0#8 3#8 .running 100000 [] ∧ (flight o).Answers 2#8 5#8 .tripped 0 [])
      ∧ ((s (.command .capture)).link.bus = .awaiting (flight (.command .capture))
        ∧ (flight (.command .capture)).Answers 0#8 1#8 .stopped (2 ^ 32 - 1) (List.replicate 9 0#8)
        ∧ (flight (.command .capture)).Answers 1#8 1#8 .stopped 0 [])
      ∧ (GroupState.tripped ≠ ((s .sense).unit .g2).record.state ∧ ((s .sense).unit .g2).record.state = .running
        ∧ ((s .sense).coolOf .g2).cap.unloading = true) := by decide +kernel

theorem test_witness_ReplySettlesTheItemSent :
    let o := Order.command .start
    let s := holding .g2 .start .sent (sent .g2 o threeGroups)
    let first := fun (tick now : Nat) => (s.setTicks now).setUnit .g2 { s.unit .g2 with
      command := some { command .start .sent with firstSent := some ⟨Time.epoch, tick⟩ } }
    (s.link.bus = .awaiting (flight o) ∧ (s.unit .g2).command = some (command .start .sent)
      ∧ (command .start .sent).state = .sent ∧ (s.unit .g2).resetFlag = none ∧ (s.unit .g2).coolPending = false
      ∧ ∀ c ∈ [(0#8 : Byte), 1#8, 2#8], (flight o).Answers c 3#8 .running 100000 [])
    ∧ (((first 5 25).unit .g2).command.bind (·.firstSent) = some ⟨Time.epoch, 5⟩ ∧ 5 + 20 ≤ (first 5 25).ticks
      ∧ ¬ 5 + 20 ≤ (first 5 24).ticks)
    ∧ (mode .safe s).sup.state = .safe
    ∧ ((sent .g2 (.setShare 0) threeGroups).link.bus = .awaiting (flight (.setShare 0))
      ∧ (sent .g2 (.setStage 1) threeGroups).link.bus = .awaiting (flight (.setStage 1))
      ∧ (threeGroups.unit .g2).record.state = .running
      ∧ (threeGroups.unit .g2).record.isLocal = (0x04#8 : Byte).getLsbD 3
      ∧ (threeGroups.unit .g2).record.reachable = true
      ∧ (flight (.setShare 0)).Answers 1#8 3#8 .running 100000 []
      ∧ (flight (.setStage 1)).Answers 2#8 3#8 .running 100000 []) := by
  dsimp only
  and_intros <;> decide +kernel

/-- What waits behind a command is resolved with the state that the reply carries: STOPPED drops a cooling stop. -/
theorem test_witness_ReplySettlesTheItemSent_resolves :
    let s := fun flag => behind flag (holding .g2 .start .sent (sent .g2 (.command .start) threeGroups))
    let slot := fun (u : State) (state : Byte) =>
      let t := after (.groupReply ((flight (.command .start)).reply 1#8 0#8 state 0 [])) u
      ((t.unit .g2).command.map (·.kind), (t.unit .g2).resetFlag.isSome, (t.unit .g2).coolPending)
    slot (s true) 3#8 = (some .groupReset, false, true) ∧ slot (s false) 3#8 = (some .stop, false, false)
      ∧ slot (s false) 1#8 = (none, false, false) := by decide +kernel

theorem test_witness_WindowWithoutAValidReply_resolves :
    let s := fun flag => behind flag (holding .g2 .stop .sent (sent .g2 (.command .stop) threeGroups))
    let slot := fun u : State => ((after .replyWindowExpiry u).unit .g2).command.map fun c => (c.kind, c.origin)
    slot (s true) = some (.groupReset, .linkRequest 0x77#8) ∧ slot (s false) = some (.stop, .cooling) := by
  decide +kernel

theorem test_witness_WindowWithoutAValidReplyMakesTheGroupUnreachable :
    let s := holding .g2 .stop .sent (sent .g2 (.command .stop) threeGroups)
    (threeGroups.link.bus = .idle ∧ s.link.bus = .awaiting (flight (.command .stop)))
      ∧ (([] : List Byte).getD 0 0#8 ≠ 0x96#8)
      ∧ (threeGroups.setLink { threeGroups.link with bus := .draining }).link.bus = .draining
      ∧ ((s.unit .g2).command = some (command .stop .sent) ∧ (s.unit .g2).record.reachable = true
        ∧ (s.unit .g2).resetFlag = none ∧ (s.unit .g2).coolPending = false ∧ s.allocatable .g2 = true)
      ∧ (sent .g2 .sense threeGroups).link.bus = .awaiting (flight .sense) := by decide +kernel

theorem test_witness_LinkTimersMakeOffersDue :
    let slots := threeGroups.setUnit .g2 { threeGroups.unit .g2 with
      share := ⟨0, false, .running⟩, stage := ⟨0, false, .running⟩ }
    ((holding .g2 .stop (.backoff false) threeGroups).unit .g2).command = some (command .stop (.backoff false))
      ∧ (slots.unit .g2).share.deadline = .running ∧ (slots.unit .g2).stage.deadline = .running
      ∧ threeGroups.fitted .g2 = true ∧ (threeGroups.unit .g2).senseTimer = true
      ∧ threeGroups.fitted .g3 = false := by decide +kernel

theorem test_witness_TripInputCancelsTheUnloading :
    let s := holding .g2 .stop .waiting (threeGroups.setCap .g2 ⟨120000, 120000, true, .cooling, 5, .none⟩)
    false = (s.unit .g2).record.trip ∧ true ≠ (s.unit .g2).record.trip ∧ s.fitted .g2 = true
      ∧ (s.coolOf .g2).cap.unloading = true ∧ (s.unit .g2).command = some (command .stop .waiting)
      ∧ s.allocatable .g2 = true ∧ s.fitted .g3 = false ∧ true ≠ (s.unit .g3).record.trip := by decide +kernel

/-! Pots -/

theorem test_witness_map_scan_table : (asked .setScanTable true [1#8, 1#8, 0#8, 16#8, 0#8, 1#8] (inAe State.reset)).MapKept :=
  mapKept_of (by decide +kernel) (by decide +kernel) (by decide +kernel)

theorem test_witness_ScanTableIsInstalledOrRefused :
    let two := [2#8, 1#8, 0#8, 16#8, 0#8, 1#8, 2#8, 0#8, 16#8, 1#8, 0x71#8]
    let clash := [2#8, 1#8, 0#8, 16#8, 0#8, 1#8, 2#8, 0#8, 16#8, 0#8, 16#8]
    let wrong := [1#8, 1#8, 0#8, 16#8, 1#8, 0x72#8]
    let s := inAe State.reset
    Admitted .setScanTable true two s
      ∧ (mode .run s).sup.state ≠ .setup ∧ s.sup.state = .setup
      ∧ (Admitted .setScanTable true [0#8] s ∧ Admitted .setScanTable true (33#8 :: List.replicate 165 0#8) s)
      ∧ readScanEntries 2 (two.drop 1) = [⟨1, 0, 16, 1⟩, ⟨2, 0, 16, 369⟩]
      ∧ (Admitted .setScanTable true clash s ∧ readScanEntries 2 (clash.drop 1) = [⟨1, 0, 16, 1⟩, ⟨2, 0, 16, 16⟩])
      ∧ (Admitted .setScanTable true wrong s ∧ readScanEntries 1 (wrong.drop 1) = [⟨1, 0, 16, 370⟩]) := by
  dsimp only
  and_intros <;> decide +kernel

/-- Pass in progress, at the first of two entries. -/
def firstOfTwo : State :=
  let s := polling (scanned State.reset)
  s.setScan { s.scan with table := [⟨1, 0, 16, 1⟩, ⟨2, 0, 16, 17⟩] }

theorem test_witness_PassesPollEveryEntryInTurn :
    (polling (scanned State.reset)).scan.pass = some ⟨0, 0, Time.epoch⟩
      ∧ (State.reset.scan.pass = none ∧ State.reset.scan.table = [])
      ∧ ((scanned State.reset).scan.pass = none ∧ (scanned State.reset).scan.table ≠ [])
      ∧ ¬ 0 + 1 < (polling (scanned State.reset)).scan.table.length
      ∧ 0 + 1 < firstOfTwo.scan.table.length := by decide +kernel

theorem test_witness_PassesPollEveryEntryInTurn_telemetry :
    (items [(.telEnable, 1)] State.reset).cfg .telEnable = 1 ∧ State.reset.cfg .telEnable ≠ 1
      ∧ (polling (scanned State.reset)).scan.segments = []
      ∧ ((polling (scanned State.reset)).scan.table.map (·.count)).sum ≤ 384 := by decide +kernel

/-- The last poll of a pass that began at the second entry, telemetry enabled. -/
def reporting : State :=
  let s := items [(.telEnable, 1)] firstOfTwo
  s.setScan { s.scan with pass := some ⟨1, 1, Time.epoch⟩ }

theorem test_witness_PassesPollEveryEntryInTurn_reports :
    reporting.scan.pass = some ⟨1, 1, Time.epoch⟩ ∧ 1 < reporting.scan.table.length
      ∧ reporting.scan.table.length ≤ 1 + 1
      ∧ ((after .pollWindowExpiry reporting).scan.segments.map (·.entries.length)) = [32] := by decide +kernel

theorem test_witness_PassesPollEveryEntryInTurn_timer :
    let left := fun n : Nat => (scanned State.reset).setScan { (scanned State.reset).scan with periodLeft := n }
    2 ≤ (left 2).scan.periodLeft ∧ (left 1).scan.periodLeft ≤ 1 ∧ (left 1).scan.pass = none
      ∧ (boundary [] false false false true).apart = true
      ∧ (boundary [] false false false false).apart = false := by decide +kernel

theorem test_witness_PassesPollEveryEntryInTurn_values :
    (List.replicate 16 ((4171#16 : Word16), (0#8 : Byte))).length = 16
      ∧ ∀ x ∈ List.replicate 16 ((4171#16 : Word16), (0#8 : Byte)), x.2 = 0#8 ∨ x.2 = 2#8 :=
  ⟨rfl, fun _ h => .inl (by rw [List.eq_of_mem_replicate h])⟩

/-- Pot 7 in an AE and twice stale, its entry being polled. -/
def twiceStale : State :=
  let s := polling (inAe State.reset)
  s.setPot 7 { s.pot 7 with stale := 2 }

theorem test_witness_map_poll : twiceStale.MapKept :=
  mapKept_of (by decide +kernel) (by decide +kernel) (by decide +kernel)

/-- The last entry of a table, 16 pots from address 369, being polled. -/
def lastEntry : State :=
  let s := polling (inAe State.reset)
  s.setScan { s.scan with table := [⟨31, 0, 16, 369⟩] }

theorem test_witness_PollWithoutReadingsMakesItsPotsStale :
    (polling (inAe State.reset)).scan.pass = some ⟨0, 0, Time.epoch⟩
      ∧ (polling (inAe State.reset)).scan.table.getD 0 ⟨0, 0, 0, 0⟩ = ⟨1, 0, 16, 1⟩
      ∧ lastEntry.scan.table.getD 0 ⟨0, 0, 0, 0⟩ = ⟨31, 0, 16, 369⟩
      ∧ ([] : List Byte).length ≠ 3 * 16 + 5 := by decide +kernel

theorem test_witness_PollWithoutReadings_third :
    (twiceStale.pot 7).stale + 1 = 3 := by decide +kernel

theorem test_witness_PollWithoutReadings_one_reading :
    ((List.replicate 3 ((0#16 : Word16), (0#8 : Byte)) ++ List.replicate 13 (0#16, 1#8)).getD 3 (0#16, 0#8)).2
        = 1#8 := by decide +kernel

/-- A pot in each state of the AE machine, with the map in step. -/
def potIn (st : AeState) : State :=
  let s := (scanned (line 400000 State.reset)).setPot 7 (potAt st 4210)
  s.setAeFlag 7 st.inAe

/-- Pot 7 CUT_OUT. -/
def cutOut : State := (scanned State.reset).setPot 7 { potAt .out 4210 with cutOut := true }

theorem test_witness_map_fresh : (potIn .suspect).MapKept ∧ (potIn .active).MapKept
    ∧ (potIn .recovering).MapKept :=
  ⟨mapKept_of (by decide +kernel) (by decide +kernel) (by decide +kernel),
   mapKept_of (by decide +kernel) (by decide +kernel) (by decide +kernel),
   mapKept_of (by decide +kernel) (by decide +kernel) (by decide +kernel)⟩

theorem test_witness_map_cut_out : cutOut.MapKept :=
  mapKept_of (by decide +kernel) (by decide +kernel) (by decide +kernel)

theorem test_witness_FreshReadingDrivesTheAnodeEffectMachine :
    let low := items [(.suspectRes, 6600)] (potIn .normal)
    (∀ st ∈ [AeState.normal, .unmonitored, .suspect, .pending, .active, .recovering],
      ((potIn st).pot 7).fitted = true ∧ ((potIn st).pot 7).cutOut = false
        ∧ ((potIn st).pot 7).ae.state = st)
      ∧ ((potIn .normal).cfgN .aeOn ≤ 8000 ∧ ¬ (potIn .normal).cfgN .aeOn ≤ 7999)
      ∧ (5999 < (potIn .normal).cfgN .aeOff ∧ ¬ 6000 < (potIn .normal).cfgN .aeOff)
      ∧ (0 < low.cfgN .suspectRes ∧ (potIn .normal).cfgN .suspectRes = 0)
      ∧ ((potIn .recovering).pot 7).ae.recover + 1 < (potIn .recovering).cfgN .recoverScans
      ∧ (cutOut.pot 7).fitted = true ∧ (cutOut.pot 7).cutOut = true := by
  dsimp only
  and_intros <;> decide +kernel

/-- R66: the second AE of the line, with AE_HOLD_COUNT 2, sets the hold flag. -/
theorem test_witness_FreshReading_hold :
    let s := items [(.aeHoldCount, 2)] (inAe State.reset)
    let s := s.setPot 3 { potAt .pending 4210 with ae := { (potAt .pending 4210).ae with frozen := true } }
    let t := s.freshReading 3 9000 .ok
    s.ae.hold = false ∧ t.ae.hold = true ∧ t.ae.count = 2 ∧ (.aeHold, 0) ∈ told t := by decide +kernel

theorem test_witness_QuenchAndLongAreReportedOncePerAe :
    let s := fun timer : Nat => (inAe State.reset).setPot 7
      { (inAe State.reset).pot 7 with ae := { ((inAe State.reset).pot 7).ae with timer := timer } }
    ((s 300).pot 7).ae.state = .active ∧ ((s 300).pot 7).ae.quench = false
      ∧ (s 300).cfgN .quenchDelay * 10 ≤ ((s 300).pot 7).ae.timer
      ∧ ¬ (s 299).cfgN .quenchDelay * 10 ≤ ((s 299).pot 7).ae.timer
      ∧ ((s 3000).pot 7).ae.long = false ∧ (s 3000).cfgN .aeLong * 10 ≤ ((s 3000).pot 7).ae.timer
      ∧ ((s 299).pot 7).ae.timer < 4294967295
      ∧ (s 299).cfgN .quenchDelay * 10 ≤ ((s 299).pot 7).ae.timer + 1
      ∧ (s 2999).cfgN .aeLong * 10 ≤ ((s 2999).pot 7).ae.timer + 1 := by decide +kernel

/-! Line samples -/

theorem test_witness_LineSampleFormsTheLineMeasurement :
    let b := boundary [(0, 16), (1, 65534), (2, 15), (3, 65535)] true true true false
    let s := State.reset.setStack { State.reset.stack with assertCount := 9 }
    let s := s.setSup { s.sup with safeRun := 1 }
    let s := s.setHost { s.host with keyRun := 1 }
    let out := State.reset.setStack { State.reset.stack with utility := true, releaseCount := 1 }
    (∀ n ∈ [(0 : Fin 27), 1], ∀ x ∈ b.conversions[n].toList.map (·.toNat), 16 ≤ x ∧ x ≤ 65534)
      ∧ (∀ n ∈ [(2 : Fin 27), 3], ¬ ∀ x ∈ b.conversions[n].toList.map (·.toNat), 16 ≤ x ∧ x ≤ 65534)
      ∧ (b.apart = false ∧ b.safe = !s.sup.safeLevel ∧ 1 ≤ s.sup.safeRun)
      ∧ (b.engKey = !s.host.keyLevel ∧ 1 ≤ s.host.keyRun)
      ∧ (b.utility = true ∧ s.stack.utility = false ∧ 9 ≤ s.stack.assertCount)
      ∧ (out.stack.utility = true ∧ 1 ≤ out.stack.releaseCount)
      ∧ (s.sup.safeLevel = false ∧ (after (.lineSample b) s).sup.safeLevel = true)
      ∧ ((running 300000 State.reset).sup.state = .run
        ∧ (after (.lineSample (boundary [] false false false true)) (running 300000 State.reset)).front.line.state
          = .fault)
      ∧ (let fault := boundary [] false false false false
         fault.apart = false ∧ fault.safe = false
          ∧ (after (.lineSample fault) (running 300000 State.reset)).sup.cause = .measurement) := by
  dsimp only
  and_intros <;> decide +kernel

/-! The ceiling stack -/

theorem test_witness_CeilingsArePushedPoppedRemovedAndExpired :
    let s := twoEntries State.reset
    let push := fun life : Nat => beBytes 4 650000 ++ beBytes 4 50001 ++ beBytes 4 life
    (Admitted .pushCeiling false (push 86400) s ∧ (asked .pushCeiling false (push 86400) s).StackKept
      ∧ field (push 86400) 8 4 ≤ 86400 ∧ 86400 < field (push 86401) 8 4 ∧ s.stack.entries.length < 8)
      ∧ (Admitted .pushCeiling true (push 0) fullStack ∧ (asked .pushCeiling true (push 0) fullStack).StackKept
        ∧ fullStack.stack.entries.length = 8)
      ∧ (Admitted .popCeiling false [] s ∧ State.reset.stack.entries = []
        ∧ s.stack.entries = entry 8 .engineer 460000 (some 36000) :: [entry 7 .operator 480000 none])
      ∧ (Admitted .removeCeiling true [7#8] s ∧ (∀ e ∈ s.stack.entries, e.id ≠ field [9#8] 0 1)
        ∧ s.stack.entries = [entry 8 .engineer 460000 (some 36000)] ++ entry 7 .operator 480000 none :: []
        ∧ Source.operator.binding = false ∧ Source.utility.binding = true)
      ∧ (stacked [entry 8 .engineer 460000 (some 0)] 9 State.reset).StackKept
      ∧ (let last := stacked [entry 8 .engineer 460000 (some 1), entry 7 .operator 480000 (some 2)] 9 State.reset
         last.StackKept ∧ false = last.stack.utility ∧ last.stack.switching.phase = .none
           ∧ (last.stack.entries.map fun e => e.life.map (· - 1)) = [some 0, some 1]) := by
  dsimp only
  and_intros <;> decide +kernel

theorem test_witness_KeyAndUtilityChangesAreRegistered :
    let on := fun n => counted 0 n 0 fullStack
    let off := fun n => counted 0 n 0 ready
    let key := fun n => counted 0 0 n State.reset
    false = State.reset.stack.utility
      ∧ (true ≠ (on 10).stack.utility ∧ 10 ≤ (on 10).stack.assertCount ∧ (on 10).StackKept
        ∧ (on 10).stack.entries.length = 8 ∧ ¬ 10 ≤ (on 9).stack.assertCount)
      ∧ (false ≠ (off 2).stack.utility ∧ 2 ≤ (off 2).stack.releaseCount ∧ (off 2).StackKept
        ∧ ¬ 2 ≤ (off 1).stack.releaseCount)
      ∧ (true ≠ (key 2).host.keyLevel ∧ 2 ≤ (key 2).host.keyRun ∧ ¬ 2 ≤ (key 1).host.keyRun)
      ∧ ((on 8).stack.utility = false ∧ (on 8).stack.assertCount + 1 < 10)
      ∧ ((off 0).stack.utility = true ∧ (off 0).stack.releaseCount + 1 < 2) := by
  dsimp only
  and_intros <;> decide +kernel

theorem test_witness_PotSwitchIsAcceptedOrRefusedInOrder :
    let s := twoEntries (scanned State.reset)
    let ask := fun (p code : Byte) => Admitted .potSwitch false [0#8, p, code] s
      ∧ (asked .potSwitch false [0#8, p, code] s).StackKept
    ask 3#8 0#8 ∧ ask 3#8 3#8 ∧ ask 3#8 1#8 ∧ ask 0#8 1#8 ∧ ask 17#8 2#8
      ∧ (s.pot 3).fitted = true ∧ (s.pot 17).fitted = false
      ∧ (s.sup.state = .run ∧ (s.pot 3).cutOut = false ∧ s.ae.flag 3 = false)
      ∧ ready.stack.switching.phase ≠ .none ∧ s.stack.switching.phase = .none ∧ s.stack.entries.length < 8 := by
  dsimp only
  and_intros <;> decide +kernel

theorem test_witness_map_switch : (asked .potSwitchDone false [] ready).MapKept ∧ (scanned State.reset).MapKept :=
  ⟨mapKept_of (by decide +kernel) (by decide +kernel) (by decide +kernel),
   mapKept_of (by decide +kernel) (by decide +kernel) (by decide +kernel)⟩

theorem test_witness_PotSwitchEndsWithItsCause :
    Admitted .potSwitchDone false [] ready ∧ (asked .potSwitchDone false [] ready).StackKept
      ∧ ready.stack.switching.phase = .ready
      ∧ Admitted .potSwitchAbort false [] ready ∧ State.reset.stack.switching.phase = .none
      ∧ ready.cfgN .switchTimeout * 10 ≤ ready.stack.switching.timer ∧ ready.sup.state ≠ .setup
      ∧ (let s := ready.setSwitching { ready.stack.switching with timer := 8998 }
         s.stack.switching.phase = .ready ∧ ¬ s.cfgN .switchTimeout * 10 ≤ s.stack.switching.timer + 1
           ∧ (after (.lineSample (boundary [] false true false false)) s).stack.switching.phase = .lowering) := by
  dsimp only
  and_intros <;> decide +kernel

theorem test_witness_SetPotState : Admitted .setPotState true [0#8, 3#8, 0#8] (scanned State.reset)
    ∧ Admitted .setPotState true [0#8, 3#8, 1#8] (scanned State.reset)
    ∧ Admitted .setPotState true [0#8, 3#8, 2#8] (scanned State.reset)
    ∧ Admitted .setPotState true [0#8, 17#8, 1#8] (scanned State.reset)
    ∧ Admitted .setPotState true [0#8, 0#8, 1#8] (scanned State.reset) := by decide +kernel

theorem test_witness_SetPotState_pots : (scanned State.reset).StackKept
    ∧ ((scanned State.reset).pot 3).fitted = true ∧ ((scanned State.reset).pot 17).fitted = false
    ∧ ((scanned State.reset).pot 3).cutOut = false := by decide +kernel

/-! Energy -/

theorem test_witness_LineSampleAccruesItsEnergy :
    let e := { Energy.initial with accounts := List.replicate 4 ⟨2 ^ 64 - 1, false⟩ }
    (e.accounts.getD e.bucket ⟨0, false⟩).saturated = false ∧ e.bucket < 4
      ∧ (boundary [(0, 32768), (1, 32768), (2, 32768)] false false false true).apart = true
      ∧ (after (.lineSample (boundary [(0, 32768), (1, 32768), (2, 32768)] false false false true))
          (State.reset.setEnergy e)).energy.accounts.map (·.saturated) = [true, false, false, false] := by
  decide +kernel

theorem test_witness_DemandEvaluationEngagesAndReleasesTheLimiter :
    let i := sixThousand.energy.interval
    let at_ := fun (t : Nat) => decide (t % 100 = 0 ∧ 300 ≤ t ∧ t < i.length)
    i.length = 9000 ∧ at_ 6000 = true ∧ at_ 300 = true ∧ at_ 8900 = true ∧ at_ 200 = false ∧ at_ 9000 = false
      ∧ (State.reset.cfgN .contractKw = 0 ∧ sixThousand.cfgN .contractKw ≠ 0)
      ∧ (sixThousand.energy.limiter.active = false
        ∧ sixThousand.cfgN .contractKw - sixThousand.cfgN .marginKw < sixThousand.energy.projection)
      ∧ sixThousand.cfgN .vValidMin ≤ sixThousand.energy.meanVoltage := by decide +kernel

theorem test_witness_MinuteAndIntervalEndsAreTaken :
    let e := sixThousand.energy
    (e.time.second = 0 ∧ e.time.tenth = 0) ∧ ¬ ((at_ 0 0 1).second = 0 ∧ (at_ 0 0 1).tenth = 0)
      ∧ ¬ (e.time = e.interval.stop ∨ e.interval.length ≤ e.interval.t)
      ∧ ({ e.interval with t := 9000 } : Interval).length ≤ 9000
      ∧ (⟨2000, 1, 1, 0, 15, 0, 0⟩ : Time) = e.interval.stop := by decide +kernel

theorem test_witness_TimeTariffAndPeriodAreSet :
    let time := fun x : Time => beBytes 2 x.year ++ [BitVec.ofNat 8 x.month, BitVec.ofNat 8 x.day,
      BitVec.ofNat 8 x.hour, BitVec.ofNat 8 x.minute, BitVec.ofNat 8 x.second, BitVec.ofNat 8 x.tenth]
    (∀ x ∈ [(⟨2000, 1, 1, 0, 0, 0, 0⟩ : Time), ⟨2099, 12, 31, 23, 59, 59, 9⟩, ⟨2024, 2, 29, 0, 0, 0, 0⟩,
        ⟨2023, 2, 29, 0, 0, 0, 0⟩, ⟨2100, 1, 1, 0, 0, 0, 0⟩], Admitted .setTime true (time x) State.reset)
      ∧ (Admitted .setTariff true tariffBytes State.reset ∧ tariffBytes = (readTariff tariffBytes).bytes)
      ∧ Admitted .setTariff true Tariff.initial.bytes State.reset
      ∧ Admitted .setTariff true (Tariff.bytes ⟨[], [⟨0, 0⟩], [⟨0, 0⟩], []⟩) State.reset
      ∧ Admitted .closePeriod true [] State.reset := by decide +kernel

theorem test_witness_EnergyAndGroupAreReported :
    Admitted .getEnergy false [] State.reset ∧ Admitted .getGroup false [2#8] threeGroups
      ∧ Group.g2.num = field [2#8] 0 1 ∧ (∀ g ∈ Group.all, g.num ≠ field [0#8] 0 1)
      ∧ (∀ g ∈ Group.all, g.num ≠ field [7#8] 0 1)
      ∧ curtailed.frozen .g5 = true ∧ threeGroups.frozen .g2 = false := by decide +kernel

/-! What every step keeps: states that meet a law and in which something happens -/

/-- `s` with one command waiting. -/
def waiting (c : Instr) (s : State) : State := { s with pending := [c] }

theorem test_witness_EveryStepKeepsTheEventQueue :
    (waiting .getEvent threeEvents).QueueKept := by decide +kernel

theorem test_witness_EveryStepKeepsTheCeilingStack : (waiting (.utilityInputChange true) (counted 0 10 0 fullStack)).StackKept := by
  decide +kernel

theorem test_witness_EveryStepKeepsTheAeMap : (waiting .pollWindowExpiry (polling (potIn .active))).MapKept :=
  mapKept_of (by decide +kernel) (by decide +kernel) (by decide +kernel)

/-- A cut-in of pot 7 in READY. -/
def cutIn : State :=
  let s := (scanned (running 300000 State.reset)).setPot 7 { potAt .out 4210 with cutOut := true }
  s.setStack { s.stack with entries := [entry 9 .switching 300000 none], nextId := 10,
                            switching := ⟨.ready, 7, .cutIn, 9, some Time.epoch, 0, .none⟩ }

theorem test_witness_EveryStepKeepsTheAeMap_cut_in : (waiting .potSwitchDone (asked .potSwitchDone false [] cutIn)).MapKept
    ∧ ((after .potSwitchDone (asked .potSwitchDone false [] cutIn)).pot 7).ae.state = .normal :=
  ⟨mapKept_of (by decide +kernel) (by decide +kernel) (by decide +kernel), by decide +kernel⟩

theorem test_witness_EveryStepKeepsTheTargets : (waiting (.periodicCycle false) (line 512000 curtailed)).TargetKept := by
  decide +kernel

/-- The STOP of group 2 in flight. -/
def stopInFlight : State := holding .g2 .stop .sent (sent .g2 (.command .stop) State.reset)

theorem test_witness_EveryStepKeepsOneOrderInFlight : stopInFlight.FlightKept := by
  intro g k
  cases g <;> cases k <;> simp [stopInFlight, holding, sent, command, State.unit, State.setUnit, State.setLink,
    State.reset, State.afterReset, Six.get, Six.set, Six.ofFn, GroupUnit.initial]

/-- Each of the steps above answers a next state. -/
theorem test_witness_steps_answer :
    step (waiting .pollWindowExpiry (polling (potIn .active)))
        = .next (after .pollWindowExpiry (polling (potIn .active)))
      ∧ step stopInFlight = .next stopInFlight := ⟨rfl, rfl⟩

end Sys2Proof.Tests
end

section
/-! PROOFS. The regulator: what the cycle reads of the state, what it stores (R131 to R142), and what it leaves. -/

open Sys2Proof Sys2Proof.Machine

theorem Sys2Proof.Group.mem_all (g : Group) : g ∈ Group.all := by cases g <;> decide

theorem Sys2Proof.Group.num_inj {g h : Group} (e : g.num = h.num) : g = h := by
  have named : ∀ g : Group, groupOfNum? g.num = some g := by intro g; cases g <;> rfl
  exact Option.some.inj ((named g).symm.trans (e ▸ named h))

namespace Sys2Proof.Machine

/-! ### What is read of the state depends on a few blocks only -/

theorem regulating_congr {s t : State} (h : t.sup = s.sup) : t.regulating = s.regulating := by
  simp only [State.regulating, h]

theorem regulating_iff {s : State} : s.regulating = true ↔ s.sup.state = .run ∨ s.sup.state = .hold := by
  simp [State.regulating]

theorem lineMax_congr {s t : State} (h : t.settings = s.settings) : t.lineMax = s.lineMax := by
  simp only [State.lineMax, State.cfgN, State.cfg, h]

theorem cfg_congr {s t : State} (h : t.settings = s.settings) (i : Item) : t.cfg i = s.cfg i := by
  simp only [State.cfg, h]

theorem cfgN_congr {s t : State} (h : t.settings = s.settings) (i : Item) : t.cfgN i = s.cfgN i := by
  simp only [State.cfgN, cfg_congr h]

/-! ### One operation for every group -/

/-- When an operation works on one group at a time, and reads of the others' groups nothing, what it makes of group
`g` shows in every state in which it has been done for every group. -/
theorem eachGroup_view {α : Type} {view : State → Group → α} {f : State → Group → State} {l : List Block} {s : State}
    {val : Group → α} (hf : ∀ t g, Touches l t (f t g)) (hne : ∀ t {g h}, h ≠ g → view (f t g) h = view t h)
    (hself : ∀ t g, Touches l s t → view t g = view s g → view (f t g) g = val g) (g : Group) :
    view (s.eachGroup f) g = val g := by
  have key : ∀ (xs : List Group), xs.Nodup → ∀ t, Touches l s t → (∀ h ∈ xs, view t h = view s h) →
      view (xs.foldl f t) g = if g ∈ xs then val g else view t g := by
    intro xs
    induction xs with
    | nil => intros; rfl
    | cons x xs ih =>
      intro hnd t ht hv
      obtain ⟨hx, hnd⟩ := List.nodup_cons.mp hnd
      have hrest : ∀ h ∈ xs, view (f t x) h = view s h := fun h hh =>
        (hne t (ne_of_mem_of_not_mem hh hx)).trans (hv h (List.mem_cons_of_mem _ hh))
      rw [List.foldl_cons, ih hnd _ (ht.trans (hf t x)) hrest]
      by_cases hg : g = x
      · subst hg
        rw [if_neg hx, if_pos List.mem_cons_self, hself t g ht (hv g List.mem_cons_self)]
      · rw [hne t hg]
        simp only [List.mem_cons, hg, false_or]
  unfold State.eachGroup
  rw [key Group.all (by decide) s (Touches.refl _ _) fun _ _ => rfl, if_pos g.mem_all]

/-- When an operation works on one group at a time, what it brings about for group `g`, and does not undo for another
group, holds once it has been done for every group. -/
theorem eachGroup_holds {α : Type} {view : State → Group → α} {f : State → Group → State} {l : List Block}
    {s : State} {g : Group} {Q : State → Prop} (hf : ∀ t g, Touches l t (f t g))
    (hne : ∀ t {g h}, h ≠ g → view (f t g) h = view t h)
    (hself : ∀ t, Touches l s t → view t g = view s g → Q (f t g)) (hkeep : ∀ t h, h ≠ g → Q t → Q (f t h)) :
    Q (s.eachGroup f) := by
  have after : ∀ (xs : List Group) t, g ∉ xs → Q t → Q (xs.foldl f t) := by
    intro xs
    induction xs with
    | nil => exact fun _ _ h => h
    | cons x xs ih =>
      intro t hg hq
      obtain ⟨hx, hxs⟩ := List.ne_and_not_mem_of_not_mem_cons hg
      exact ih _ hxs (hkeep t x (Ne.symm hx) hq)
  have key : ∀ (xs : List Group), xs.Nodup → g ∈ xs → ∀ t, Touches l s t → view t g = view s g →
      Q (xs.foldl f t) := by
    intro xs
    induction xs with
    | nil => exact fun _ hg => absurd hg List.not_mem_nil
    | cons x xs ih =>
      intro hnd hg t ht hv
      obtain ⟨hx, hnd⟩ := List.nodup_cons.mp hnd
      by_cases hgx : g = x
      · subst hgx
        exact after xs _ hx (hself t ht hv)
      · exact ih hnd ((List.mem_cons.mp hg).resolve_left hgx) _ (ht.trans (hf t x)) ((hne t hgx).trans hv)
  exact key Group.all (by decide) g.mem_all s (Touches.refl _ _) rfl

/-! ### The target of a cycle -/

theorem ramp_up {s : State} {d : Nat} {gov : Governing} (h : s.reg.previous < d) (hold : s.ae.hold = false) :
    (s.ramp d gov).target = min d (s.reg.previous + rampAmps (s.cfgN .rampUp)) := by
  simp [State.ramp, h, hold]

/-- While the AE hold stands the target does not rise (R135). -/
theorem ramp_held {s : State} {d : Nat} {gov : Governing} (h : s.reg.previous < d) (hold : s.ae.hold = true) :
    (s.ramp d gov).target = s.reg.previous := by
  simp [State.ramp, h, hold]

theorem ramp_le {s : State} {d : Nat} {gov : Governing} (h : d ≤ s.reg.previous) :
    (s.ramp d gov).target ≤ s.reg.previous := by
  unfold State.ramp
  dsimp only
  repeat' split
  all_goals dsimp only; omega

theorem newTarget_of_run {s : State} {d : Nat} {gov : Governing} (h : s.sup.state = .run) :
    s.newTarget true d gov = s.ramp d gov := by
  simp [State.newTarget, h]

/-- D* never exceeds LINE_MAX (R132). -/
theorem desiredTarget_le_lineMax (s : State) : s.desiredTarget ≤ s.lineMax := by
  have h : ∀ (a : Nat) (o : Option Nat), minWith a o ≤ a := by
    intro a o
    cases o with
    | none => exact Nat.le_refl a
    | some b => exact Nat.min_le_left a b
  unfold State.desiredTarget
  exact (h _ _).trans ((h _ _).trans (Nat.min_le_right _ _))

/-- No cycle moves the target above both the previous target and the desired one (R133 to R136). -/
theorem newTarget_le {s : State} {periodic : Bool} {d b : Nat} {gov : Governing} (hp : s.reg.previous ≤ b)
    (hd : d ≤ b) : (s.newTarget periodic d gov).target ≤ b := by
  unfold State.newTarget State.ramp
  dsimp only
  repeat' split
  all_goals dsimp only; omega

/-- The target that a cycle stores: the new target clamped to C + Z (R136, R138). -/
def State.cycleTarget (s : State) (periodic : Bool) : Nat :=
  min (s.newTarget periodic s.desiredTarget (s.governingTerm s.desiredTarget)).target
    (s.sumAllocation + s.sumFrozen)

theorem cycleTarget_le {s : State} {periodic : Bool} (h : s.reg.previous ≤ s.lineMax) :
    s.cycleTarget periodic ≤ s.lineMax :=
  (Nat.min_le_left _ _).trans (newTarget_le h (desiredTarget_le_lineMax s))

/-- The shares that a cycle gives to the allocatable groups (R139). -/
def State.cycleShares (s : State) (periodic : Bool) : List (Group × Nat) :=
  s.allocate (s.cycleTarget periodic - s.sumFrozen) s.sumAllocation

/-- The writes of the share slots touch nothing but the link (R140). -/
theorem touches_writeShares {xs : List (Group × Nat)} {s : State} :
    Touches [.link] s (xs.foldl (fun s x => s.writeShare x.1 x.2) s) :=
  (touches_foldl fun _ _ => (touches_writeShare (by decide)).mpr (Touches.refl _ _)).mpr (Touches.refl _ _)

/-- The regulator record that steps 2 to 6 of a cycle leave (R131). -/
def State.cycleRecord (s : State) (periodic : Bool) : Regulator :=
  let ramp := s.newTarget periodic s.desiredTarget (s.governingTerm s.desiredTarget)
  { s.reg with
    applied := s.cycleTarget periodic, previous := s.cycleTarget periodic, desired := s.desiredTarget,
    governing := s.governingTerm s.desiredTarget, lastStep := ramp.step,
    limited := decide (s.sumAllocation + s.sumFrozen < ramp.target),
    capacityC := s.sumAllocation, frozenZ := s.sumFrozen, amount := s.cycleTarget periodic - s.sumFrozen,
    shares := (s.cycleShares periodic).foldl (fun v x => v.set x.1 (some x.2)) (Six.const none) }

/-- What steps 2 to 6 of a cycle report before they store: an AE hold of a trim to the energy unit, and
CAPACITY_LIMIT (R135, R138). -/
def State.cycleReported (s : State) (periodic : Bool) : State :=
  let ramp := s.newTarget periodic s.desiredTarget (s.governingTerm s.desiredTarget)
  (s.when ramp.report State.markAeHeld).when
    (decide (s.sumAllocation + s.sumFrozen < ramp.target) && !s.reg.limited) fun t =>
      t.post .capacityLimit 0 [beSigned 4 ((s.desiredTarget : Int) - (s.cycleTarget periodic : Int))]

theorem touches_cycleReported {s : State} {periodic : Bool} :
    Touches [.energy, .events] s (s.cycleReported periodic) := by
  unfold State.cycleReported
  exact (touches_when fun _ => (touches_post (by decide)).mpr (Touches.refl _ _)).mpr
    ((touches_when fun _ => (touches_markAeHeld (by decide)).mpr (Touches.refl _ _)).mpr (Touches.refl _ _))

/-- Steps 2 to 6 of a cycle: the reports, the record, and the share slots (R131). -/
theorem setTarget_eq (s : State) (periodic : Bool) :
    s.setTarget periodic
      = (s.cycleShares periodic).foldl (fun s x => s.writeShare x.1 x.2)
          ((s.cycleReported periodic).setReg (s.cycleRecord periodic)) := by
  have hr := touches_cycleReported (s := s) (periodic := periodic) |>.reg (by decide)
  unfold State.cycleRecord
  dsimp only
  rw [← hr]
  rfl

theorem setTarget_reg (s : State) (periodic : Bool) : (s.setTarget periodic).reg = s.cycleRecord periodic := by
  rw [setTarget_eq, touches_writeShares.reg (by decide)]; rfl

/-! ### A cycle -/

theorem cycle_of_not_regulating {s : State} {periodic apart : Bool} (h : s.regulating = false) :
    s.cycle periodic apart = s := by
  simp [State.cycle, h]

theorem outOfTurn_of_not_regulating {s : State} (h : s.regulating = false) : s.outOfTurn = s :=
  cycle_of_not_regulating h

theorem outOfTurn_of_regulating {s : State} (h : s.regulating = true) : s.outOfTurn = s.setTarget false := by
  simp [State.outOfTurn, State.cycle, h, State.when]

/-- The state in which a periodic cycle works out its target: the join credits have grown (R81, R131 step 1). -/
def State.grown (s : State) : State := s.eachGroup State.growCredit

theorem touches_grown {s : State} : Touches [.cool] s s.grown :=
  (touches_eachGroup fun _ _ => (touches_growCredit (by decide)).mpr (Touches.refl _ _)).mpr (Touches.refl _ _)

/-- What a periodic cycle in RUN or HOLD leaves of the loops' records: the credits grown (R81). -/
theorem periodicCycle_cool {s : State} (apart : Bool) (h : s.regulating = true) :
    (s.cycle true apart).cool = s.grown.cool := by
  have e : s.cycle true apart = (s.grown.setTarget true).countTracking.when (!apart) State.evalTracking := by
    simp [State.cycle, h, State.when, State.grown]
  have ht : Touches [.energy, .events, .reg, .link] s.grown (s.cycle true apart) := by
    rw [e, touches_when fun _ => (touches_evalTracking (by decide)).mpr (Touches.refl _ _),
      touches_countTracking (by decide), touches_setTarget (by decide)]
    exact Touches.refl _ _
  exact ht.cool (by decide)

theorem countTracking_reg (s : State) :
    ∃ o i, s.countTracking.reg = { s.reg with outside := o, inside := i } := by
  unfold State.countTracking
  dsimp only
  split
  · exact ⟨_, _, rfl⟩
  · exact ⟨_, _, rfl⟩

theorem evalTracking_reg (s : State) : ∃ f, s.evalTracking.reg = { s.reg with tracking := f } := by
  unfold State.evalTracking
  dsimp only
  split <;> split
  all_goals exact ⟨_, rfl⟩

/-- Tracking supervision changes nothing of what a periodic cycle has stored but its own three fields (R141). -/
theorem periodicCycle_reg {s : State} (apart : Bool) (h : s.regulating = true) :
    ∃ f o i, (s.cycle true apart).reg
      = { (s.grown.setTarget true).reg with tracking := f, outside := o, inside := i } := by
  have e : s.cycle true apart = (s.grown.setTarget true).countTracking.when (!apart) State.evalTracking := by
    simp [State.cycle, h, State.when, State.grown]
  obtain ⟨o, i, hc⟩ := countTracking_reg (s.grown.setTarget true)
  rw [e]
  cases apart
  · obtain ⟨f, hf⟩ := evalTracking_reg (s.grown.setTarget true).countTracking
    exact ⟨f, o, i, by simp only [State.when, Bool.not_false, if_true, hf, hc]⟩
  · exact ⟨_, o, i, hc⟩

end Sys2Proof.Machine
end

section
/-! PROOFS. The supervisor's transitions: what entry to RUN and entry to SAFE leave in the supervisor and regulator
records (R7, R11, R142). -/

open Sys2Proof Sys2Proof.Machine

namespace Sys2Proof.Machine

theorem fitted_congr {s t : State} (h : t.settings = s.settings) (g : Group) : t.fitted g = s.fitted g := by
  simp only [State.fitted, cfg_congr h]

theorem unit_congr {s t : State} (h : t.link = s.link) (g : Group) : t.unit g = s.unit g := by
  simp only [State.unit, h]

theorem coolOf_congr {s t : State} (h : t.cool = s.cool) (g : Group) : t.coolOf g = s.coolOf g := by
  simp only [State.coolOf, h]

theorem chan_congr {s t : State} (h : t.front = s.front) (n : Nat) : t.chan n = s.chan n := by
  simp only [State.chan, h]

/-- Whether a group is allocatable is read from its record and G_FITTED (R91). -/
theorem allocatable_congr {s t : State} {g : Group} (hset : t.settings = s.settings)
    (hrec : (t.unit g).record = (s.unit g).record) : t.allocatable g = s.allocatable g := by
  simp only [State.allocatable, fitted_congr hset, hrec]

theorem frozen_congr {s t : State} {g : Group} (hset : t.settings = s.settings)
    (hrec : (t.unit g).record = (s.unit g).record) : t.frozen g = s.frozen g := by
  simp only [State.frozen, fitted_congr hset, hrec]

theorem anyCarrier_congr {s t : State} (hset : t.settings = s.settings)
    (hrec : ∀ g, (t.unit g).record = (s.unit g).record) : t.anyCarrier = s.anyCarrier := by
  unfold State.anyCarrier
  simp only [allocatable_congr hset (hrec _), frozen_congr hset (hrec _)]

/-- The group loss timer in RUN or HOLD (R13). -/
theorem evalLossTimer_of_regulating {s : State} (h : s.regulating = true) :
    s.evalLossTimer = s.setSup { s.sup with
      lossTimer := if s.anyCarrier then none else some (s.sup.lossTimer.getD s.ticks) } := by
  unfold State.evalLossTimer
  rw [if_pos h]
  split <;> rfl

theorem evalLossTimer_of_not_regulating {s : State} (h : s.regulating = false) : s.evalLossTimer = s := by
  simp [State.evalLossTimer, h]

/-! ### The notices of a change (R91) -/

/-- The join credits aligned for a change since `before` (R80). -/
def State.aligned (s : State) (before : Six Bool) : State := s.eachGroup fun s g => s.alignIfChanged before g

theorem touches_aligned {s : State} {before : Six Bool} : Touches [.cool] s (s.aligned before) :=
  (touches_eachGroup fun _ _ => (touches_alignIfChanged (by decide)).mpr (Touches.refl _ _)).mpr (Touches.refl _ _)

/-- The state in which the out-of-turn cycle of a change is run: credits and group loss timer are settled. -/
def State.settled (s : State) (before : Carriage) : State :=
  (s.aligned before.alloc).when (s.carriage != before) State.evalLossTimer

theorem notice_eq (s : State) (before : Carriage) (cause : Bool) :
    s.notice before cause = (s.settled before).when (s.carriage != before || cause) State.outOfTurn := by
  unfold State.notice State.settled State.aligned
  dsimp only

theorem touches_settled {s : State} {before : Carriage} : Touches [.cool, .sup] s (s.settled before) :=
  (touches_when fun _ => (touches_evalLossTimer (by decide)).mpr (Touches.refl _ _)).mpr
    (touches_aligned.mono (by decide))

/-- The group loss timer is started or stopped at a change in RUN or HOLD, and stands otherwise (R13). -/
theorem settled_sup (s : State) (before : Carriage) :
    (s.settled before).sup = { s.sup with lossTimer :=
      if (s.regulating && s.carriage != before) = true then
        if s.anyCarrier then none else some (s.sup.lossTimer.getD s.ticks)
      else s.sup.lossTimer } := by
  have ht := touches_aligned (s := s) (before := before.alloc)
  have hsup := ht.sup (by decide)
  have hr := regulating_congr hsup
  have hany := anyCarrier_congr (ht.settings (by decide)) fun g => by rw [unit_congr (ht.link (by decide))]
  unfold State.settled State.when
  split
  · rename_i hc
    cases hreg : s.regulating
    · rw [evalLossTimer_of_not_regulating (hr.trans hreg), hsup]
      rfl
    · rw [evalLossTimer_of_regulating (hr.trans hreg), State.setSup_sup, hsup, hany, ht.ticks (by decide)]
      simp [hc]
  · rename_i hc
    rw [hsup]
    simp [hc]

theorem notice_sup (s : State) (before : Carriage) (cause : Bool) :
    (s.notice before cause).sup = (s.settled before).sup := by
  have ht : Touches [.cool, .energy, .events, .reg, .link] (s.settled before) (s.notice before cause) := by
    rw [notice_eq]
    exact (touches_when fun _ => (touches_outOfTurn (by decide)).mpr (Touches.refl _ _)).mpr (Touches.refl _ _)
  exact ht.sup (by decide)

/-- Outside RUN and HOLD a change is told to the join credits alone (R13, R91, R142). -/
theorem notice_of_not_regulating {s : State} {before : Carriage} {cause : Bool} (h : s.regulating = false) :
    s.notice before cause = s.aligned before.alloc := by
  have hr : (s.aligned before.alloc).regulating = false := by
    rw [regulating_congr (touches_aligned.sup (by decide)), h]
  have hl : s.settled before = s.aligned before.alloc := by
    unfold State.settled State.when
    split
    · exact evalLossTimer_of_not_regulating hr
    · rfl
  rw [notice_eq, hl]
  unfold State.when
  split
  · exact outOfTurn_of_not_regulating hr
  · rfl

/-! ### Entry to RUN (R7) -/

/-- The state at entry to RUN in which the ramp's start has been laid down (R7 step 2). -/
def State.rampStarted (s : State) : State :=
  let s1 := s.enter .run .runRequest
  s1.setReg { s1.reg with previous := min s1.front.line.current s1.lineMax }

/-- The state at entry to RUN before its first cycle (R7 steps 1 to 4). -/
def State.runPrepared (s : State) : State := (s.rampStarted.eachGroup State.alignCredit).evalLossTimer

theorem runEntry_eq (s : State) :
    s.runEntry = ((s.runPrepared.cycle true false).setReg
      { (s.runPrepared.cycle true false).reg with cycleTimer := true }).postSupState .setup := by
  unfold State.runEntry State.runPrepared State.rampStarted
  dsimp only

@[simp] theorem postSupState_sup (s : State) (left : SupState) : (s.postSupState left).sup = s.sup := rfl
@[simp] theorem postSupState_reg (s : State) (left : SupState) : (s.postSupState left).reg = s.reg := rfl
@[simp] theorem postSupState_cool (s : State) (left : SupState) : (s.postSupState left).cool = s.cool := rfl
@[simp] theorem postSupState_link (s : State) (left : SupState) : (s.postSupState left).link = s.link := rfl

theorem touches_alignCredits {s : State} : Touches [.cool] s (s.eachGroup State.alignCredit) :=
  (touches_eachGroup fun _ _ => (touches_alignCredit (by decide)).mpr (Touches.refl _ _)).mpr (Touches.refl _ _)

/-- The credits aligned are all that differs, but for the loss timer, between the two states of entry to RUN. -/
theorem touches_runPrepared {s : State} : Touches [.cool, .sup] s.rampStarted s.runPrepared :=
  (touches_evalLossTimer (by decide)).mpr (touches_alignCredits.mono (by decide))

theorem runPrepared_sup (s : State) :
    s.runPrepared.sup = { s.sup with
      state := .run, cause := .runRequest,
      lossTimer := if s.anyCarrier then none else some (s.sup.lossTimer.getD s.ticks) } := by
  have ht := touches_alignCredits (s := s.rampStarted)
  have hsup : (s.rampStarted.eachGroup State.alignCredit).sup
      = { s.sup with state := .run, cause := .runRequest } := ht.sup (by decide)
  have hlink : (s.rampStarted.eachGroup State.alignCredit).link = s.link := ht.link (by decide)
  have hset : (s.rampStarted.eachGroup State.alignCredit).settings = s.settings := ht.settings (by decide)
  have hticks : (s.rampStarted.eachGroup State.alignCredit).ticks = s.ticks := ht.ticks (by decide)
  unfold State.runPrepared
  rw [evalLossTimer_of_regulating (by simp [State.regulating, hsup]), State.setSup_sup, hsup, hticks,
    anyCarrier_congr hset fun g => by rw [unit_congr hlink]]

theorem runPrepared_regulating (s : State) : s.runPrepared.regulating = true := by
  simp [State.regulating, runPrepared_sup]

theorem runEntry_sup (s : State) : s.runEntry.sup = s.runPrepared.sup := by
  have ht : Touches [.cool, .energy, .events, .reg, .link] s.runPrepared (s.runPrepared.cycle true false) :=
    (touches_cycle (by decide)).mpr (Touches.refl _ _)
  rw [runEntry_eq, postSupState_sup, State.setReg_sup, ht.sup (by decide)]

/-- The regulator record at entry to RUN is that of the first periodic cycle, and the cycle timer runs. -/
theorem runEntry_reg (s : State) :
    ∃ f o i, s.runEntry.reg = { s.runPrepared.grown.cycleRecord true with
      tracking := f, outside := o, inside := i, cycleTimer := true } := by
  obtain ⟨f, o, i, e⟩ := periodicCycle_reg (s := s.runPrepared) false (runPrepared_regulating s)
  refine ⟨f, o, i, ?_⟩
  rw [runEntry_eq, postSupState_reg, State.setReg_reg, e, setTarget_reg]

/-! ### The RUN request (R4, R5) -/

/-- The last RUN outcome noted (R1, R5). -/
def State.runNoted (s : State) (o : RunOutcome) : State := s.setSup { s.sup with lastRun := o }

theorem runRequest_of_not_setup {s : State} (hs : s.sup.state ≠ .setup) :
    s.runRequest = (Reply.bare .wrongState, s) := by simp [State.runRequest, hs]

theorem runRequest_of_refused {s : State} (hs : s.sup.state = .setup) (hv : s.runValidation ≠ .accepted) :
    s.runRequest = (⟨.notReady, beBytes 1 s.runValidation.code⟩, s.runNoted s.runValidation) := by
  simp [State.runRequest, hs, hv, State.runNoted]

theorem runRequest_of_accepted {s : State} (hs : s.sup.state = .setup) (hv : s.runValidation = .accepted) :
    s.runRequest = (Reply.bare .ok, (s.runNoted .accepted).runEntry) := by
  simp [State.runRequest, hs, hv, State.runNoted]

theorem adopted_iff {s : State} :
    s.adopted = true ↔ ∀ g, s.fitted g = true → (s.unit g).record.state ≠ .unknown := by
  simp only [State.adopted, List.all_eq_true, Bool.or_eq_true, Bool.not_eq_true', bne_iff_ne]
  constructor
  · intro h g hf
    exact (h g g.mem_all).resolve_left (by simp [hf])
  · intro h g _
    cases hf : s.fitted g
    · exact .inl rfl
    · exact .inr (h g hf)

theorem anyFitted_iff {s : State} : Group.all.any s.fitted = true ↔ ∃ g, s.fitted g = true := by
  simp [Group.mem_all]

/-- RUN is accepted when the five conditions hold (R5). -/
theorem runValidation_accepted_iff {s : State} :
    s.runValidation = .accepted ↔ s.energy.clockSet = true ∧ (∃ g, s.fitted g = true) ∧ s.scan.table ≠ []
      ∧ (∀ g, s.fitted g = true → (s.unit g).record.state ≠ .unknown) ∧ s.front.line.state ≠ .fault := by
  rw [← adopted_iff, ← anyFitted_iff]
  unfold State.runValidation
  repeat' split
  all_goals simp_all

/-! ### Entry to SAFE (R11, R107, R142) -/

/-- The state at entry to SAFE, with SUP_STATE and SAFE posted, before the STARTs are withdrawn (R11). -/
def State.safeAnnounced (s : State) (cause : EntryCause) : State :=
  ((s.setSup { s.sup with state := .safe, cause := cause, lossTimer := none }).postSupState s.sup.state).post
    .safe 0 [beBytes 1 cause.code]

theorem enterSafe_eq (s : State) (cause : EntryCause) :
    s.enterSafe cause = ((s.safeAnnounced cause).eachGroup State.withdrawStart).setReg s.reg.cleared := by
  have ht : Touches [.link, .events] (s.safeAnnounced cause)
      ((s.safeAnnounced cause).eachGroup State.withdrawStart) :=
    (touches_eachGroup fun _ _ => (touches_withdrawStart (by decide)).mpr (Touches.refl _ _)).mpr (Touches.refl _ _)
  have hreg : ((s.safeAnnounced cause).eachGroup State.withdrawStart).reg = s.reg := ht.reg (by decide)
  unfold State.enterSafe
  rw [← hreg]
  rfl

theorem enterSafe_reg (s : State) (cause : EntryCause) : (s.enterSafe cause).reg = s.reg.cleared := by
  rw [enterSafe_eq, State.setReg_reg]

theorem enterSafe_sup (s : State) (cause : EntryCause) :
    (s.enterSafe cause).sup = { s.sup with state := .safe, cause := cause, lossTimer := none } := by
  have ht : Touches [.link, .events] (s.safeAnnounced cause)
      ((s.safeAnnounced cause).eachGroup State.withdrawStart) :=
    (touches_eachGroup fun _ _ => (touches_withdrawStart (by decide)).mpr (Touches.refl _ _)).mpr (Touches.refl _ _)
  rw [enterSafe_eq, State.setReg_sup, ht.sup (by decide)]
  rfl

end Sys2Proof.Machine
end

section
/-! PROOFS. The line reset (R15, R180) stage by stage, in the order of log 17. -/

open Sys2Proof Sys2Proof.Machine

namespace Sys2Proof.Machine

/-- The host link, the supervisor and the regulator reset (R15, R127, R180). -/
def State.resetBegun (s : State) : State := s.hostLineReset.supLineReset.setReg Regulator.initial

/-- Then the anode effects closed and the pass abandoned (R40, R49, R70). -/
def State.resetPots (s : State) : State := s.resetBegun.aeLineReset.scanLineReset

/-- Then the loops (R86). -/
def State.resetLoops (s : State) : State := s.resetPots.eachGroup State.coolingLineReset

/-- Then the slots, with the stages written anew (R86, R109). -/
def State.resetLink (s : State) : State := s.resetLoops.linkLineReset.eachGroup State.rewriteStage

theorem lineResetBlocks_eq (s : State) :
    s.lineResetBlocks = s.resetLink.stackLineReset.energyLineReset := by
  unfold State.lineResetBlocks State.resetLink State.resetLoops State.resetPots State.resetBegun
  dsimp only

theorem lineReset_eq (s : State) :
    s.lineReset = (⟨.ok, beBytes 1 s.lineResetBlocks.safeIfAsserted.sup.state.code⟩,
      s.lineResetBlocks.safeIfAsserted) := by
  unfold State.lineReset
  dsimp only

theorem touches_resetBegun {s : State} : Touches [.host, .events, .sup, .reg] s s.resetBegun :=
  (touches_setReg (by decide)).mpr ((touches_supLineReset (by decide)).mpr
    ((touches_hostLineReset (by decide)).mpr (Touches.refl _ _)))

theorem resetBegun_sup (s : State) : s.resetBegun.sup
    = { s.sup with state := .setup, cause := .lineReset, lastRun := .none, lossTimer := none } := by
  have h : s.hostLineReset.sup = s.sup :=
    Touches.sup (l := [.host, .events]) ((touches_hostLineReset (by decide)).mpr (Touches.refl _ _)) (by decide)
  unfold State.resetBegun State.supLineReset
  rw [State.setReg_sup, State.setSup_sup, h]

theorem touches_resetPots {s : State} : Touches [.pots, .ae, .events, .scan] s.resetBegun s.resetPots :=
  (touches_scanLineReset (by decide)).mpr ((touches_aeLineReset (by decide)).mpr (Touches.refl _ _))

theorem touches_resetLoops {s : State} : Touches [.cool] s.resetPots s.resetLoops :=
  (touches_eachGroup fun _ _ => (touches_coolingLineReset (by decide)).mpr (Touches.refl _ _)).mpr (Touches.refl _ _)

theorem resetLoops_sup (s : State) : s.resetLoops.sup
    = { s.sup with state := .setup, cause := .lineReset, lastRun := .none, lossTimer := none } := by
  rw [touches_resetLoops.sup (by decide), touches_resetPots.sup (by decide), resetBegun_sup]

/-- The slots of every group reset, and an order in flight discarded (R109 steps 1 to 4). -/
def State.slotsReset (s : State) : State :=
  s.setLink { s.link with units := Six.ofFn fun g => (s.unit g).lineReset, bus := s.link.bus.discard }

/-- The controller's part in a line reset, in the SETUP that the supervisor has entered (R15, R109). -/
theorem linkLineReset_of_not_regulating {s : State} (h : s.regulating = false) :
    s.linkLineReset = s.slotsReset.aligned s.carriage.alloc := by
  have hr : s.slotsReset.regulating = false := (regulating_congr (s := s) rfl).trans h
  rw [← notice_of_not_regulating (cause := false) hr]
  unfold State.linkLineReset State.slotsReset
  dsimp only

theorem resetLink_eq (s : State) :
    s.resetLink = (s.resetLoops.slotsReset.aligned s.resetLoops.carriage.alloc).eachGroup State.rewriteStage := by
  unfold State.resetLink
  rw [linkLineReset_of_not_regulating (by simp [State.regulating, resetLoops_sup])]

theorem touches_resetLink {s : State} : Touches [.cool, .link] s.resetLoops s.resetLink := by
  rw [resetLink_eq, touches_eachGroup fun _ _ => (touches_rewriteStage (by decide)).mpr (Touches.refl _ _)]
  exact Touches.trans ((touches_setLink (by decide)).mpr (Touches.refl _ _)) (touches_aligned.mono (by decide))

theorem touches_resetStack {s : State} : Touches [.stack, .events, .energy] s.resetLink s.lineResetBlocks := by
  rw [lineResetBlocks_eq]
  exact (touches_energyLineReset (by decide)).mpr ((touches_stackLineReset (by decide)).mpr (Touches.refl _ _))

/-- What the line reset does to the blocks after the regulator (log 17). -/
theorem touches_resetRest {s : State} :
    Touches [.pots, .ae, .events, .scan, .cool, .link, .stack, .energy] s.resetBegun s.lineResetBlocks :=
  (touches_resetPots.mono (by decide)).trans ((touches_resetLoops.mono (by decide)).trans
    ((touches_resetLink.mono (by decide)).trans (touches_resetStack.mono (by decide))))

theorem lineResetBlocks_sup (s : State) : s.lineResetBlocks.sup
    = { s.sup with state := .setup, cause := .lineReset, lastRun := .none, lossTimer := none } := by
  rw [touches_resetRest.sup (by decide), resetBegun_sup]

theorem lineResetBlocks_reg (s : State) : s.lineResetBlocks.reg = Regulator.initial := by
  rw [touches_resetRest.reg (by decide)]; rfl

end Sys2Proof.Machine
end

section
/-! PROOFS. The stages of a 100 ms boundary, in the order of log 2. -/

open Sys2Proof Sys2Proof.Machine

namespace Sys2Proof.Machine

/-- The boundary up to the level inputs: the line sample, the energy unit and the ceiling stack. -/
def State.boundarySampled (s : State) (b : Boundary) : State :=
  ((s.lineSample b).energySample b.apart).stackSample b.apart

/-- The boundary once the level inputs have been read. -/
def State.boundaryRead (s : State) (b : Boundary) : State := (s.boundarySampled b).readInputs b

theorem boundary_eq (s : State) (b : Boundary) :
    s.boundary b = (((s.boundaryRead b).aeSample b.apart).scanSample b.apart).evalLoops b.apart := by
  unfold State.boundary State.boundaryRead State.boundarySampled
  dsimp only

theorem touches_boundarySampled {s : State} {b : Boundary} :
    Touches [.energy, .events, .stack] (s.lineSample b) (s.boundarySampled b) := by
  unfold State.boundarySampled
  exact (touches_stackSample (by decide)).mpr ((touches_energySample (by decide)).mpr (Touches.refl _ _))

theorem touches_boundaryRead {s : State} {b : Boundary} :
    Touches [.stack, .host, .sup, .events, .link, .reg] (s.boundarySampled b) (s.boundaryRead b) :=
  (touches_readInputs (by decide)).mpr (Touches.refl _ _)

theorem touches_aeScan {s : State} {a : Bool} :
    Touches [.pots, .events, .scan] s ((s.aeSample a).scanSample a) :=
  (touches_scanSample (by decide)).mpr ((touches_aeSample (by decide)).mpr (Touches.refl _ _))

theorem touches_boundaryLoops {s : State} {b : Boundary} :
    Touches [.pots, .events, .scan, .cool, .energy, .reg, .link] (s.boundaryRead b) (s.boundary b) := by
  rw [boundary_eq]
  exact (touches_evalLoops (by decide)).mpr (touches_aeScan.mono (by decide))

end Sys2Proof.Machine
end

section
/-! PROOFS. Every step keeps the law of the targets (O58; R2, R10, R12, R132, R142): each operation that touches the
supervisor, the regulator, the front end or the settings store keeps it. -/

open Sys2Proof Sys2Proof.Machine

namespace Sys2Proof.Machine

/-! ### Requests and invariants -/

/-- A property that the host link's own bookkeeping keeps is kept by the taking of a request when its handler
keeps it. -/
theorem takeRequest_keeps {P : State → Prop} {s : State} {mine : Frame → Bool}
    {handler : Frame → Bool → State → Reply × State} (hh : ∀ u v : State, Touches [.host] u v → P u → P v)
    (hr : ∀ f eng u, P u → P (handler f eng u).2) (h : P s) : P (s.takeRequest mine handler) := by
  unfold State.takeRequest
  split
  · exact h
  · split
    · exact h
    · refine hh _ _ ((touches_answer (by decide)).mpr (Touches.refl _ _)) (hr _ _ _ ?_)
      exact hh _ _ ((touches_setHost (by decide)).mpr (Touches.refl _ _)) h

/-- The same for a request of a known kind, whose tests change nothing (R168). -/
theorem serve_keeps {P : State → Prop} {s : State} {k : RequestKind}
    {rule : List Byte → Bool → State → Reply × State} (hh : ∀ u v : State, Touches [.host] u v → P u → P v)
    (hr : ∀ payload eng u, P u → P (rule payload eng u).2) (h : P s) : P (s.serve k rule) := by
  refine takeRequest_keeps hh (fun f eng u hu => ?_) h
  unfold RequestKind.handle
  split
  · exact hu
  · split
    · exact hu
    · exact hr _ _ _ hu

/-! ### When the law passes from one state to another -/

namespace State.TargetKept

variable {s t : State}

/-- The law speaks of the supervisor, the front end, LINE_MAX, and of three fields of the regulator. -/
theorem congr (h : s.TargetKept) (hsup : t.sup = s.sup) (hfront : t.front = s.front) (hmax : t.lineMax = s.lineMax)
    (happlied : t.reg.applied = s.reg.applied) (hprev : t.reg.previous = s.reg.previous)
    (htimer : t.reg.cycleTimer = s.reg.cycleTimer) : t.TargetKept := by
  unfold State.TargetKept at *
  rw [regulating_congr hsup, hsup, hfront, hmax, happlied, hprev, htimer]
  exact h

theorem of_touches {l : List Block} (h : s.TargetKept) (ht : Touches l s t) (hsup : .sup ∉ l) (hreg : .reg ∉ l)
    (hfront : .front ∉ l) (hset : .settings ∉ l) : t.TargetKept :=
  h.congr (ht.sup hsup) (ht.front hfront) (lineMax_congr (ht.settings hset)) (by rw [ht.reg hreg])
    (by rw [ht.reg hreg]) (by rw [ht.reg hreg])

theorem of_host (h : s.TargetKept) (ht : Touches [.host] s t) : t.TargetKept :=
  h.of_touches ht (by decide) (by decide) (by decide) (by decide)

theorem previous_le (h : s.TargetKept) : s.reg.previous ≤ s.lineMax := by
  obtain ⟨_, hp, _⟩ := h
  exact hp

/-- In SETUP no SAFE level is registered ASSERTED, and the regulator and the group loss timer stand still. -/
theorem in_setup (h : s.TargetKept) (hs : s.sup.state = .setup) :
    s.sup.safeLevel = false ∧ s.sup.lossTimer = none ∧ s.reg.applied = 0 ∧ s.reg.previous = 0 := by
  obtain ⟨_, _, hoff, _, _, hsafe⟩ := h
  obtain ⟨ha, hp, hl⟩ := hoff (by simp [State.regulating, hs])
  refine ⟨?_, hl, ha, hp⟩
  cases hlev : s.sup.safeLevel
  · rfl
  · have := hsafe hlev
    rw [hs] at this
    cases this

/-! ### Regulation -/

/-- A target that stays within LINE_MAX may be stored while the supervisor regulates. -/
theorem store (h : s.TargetKept) (hr : s.regulating = true) (hsup : t.sup = s.sup) (hfront : t.front = s.front)
    (hset : t.settings = s.settings) (happlied : t.reg.applied ≤ s.lineMax) (hprev : t.reg.previous ≤ s.lineMax)
    (htimer : t.reg.cycleTimer = s.reg.cycleTimer) : t.TargetKept := by
  obtain ⟨_, _, _, hcycle, hrun, hsafe⟩ := h
  unfold State.TargetKept
  rw [regulating_congr hsup, lineMax_congr hset, hsup, hfront, htimer]
  exact ⟨happlied, hprev, fun hn => by simp [hr] at hn, hcycle, hrun, hsafe⟩

theorem setTarget (h : s.TargetKept) (hr : s.regulating = true) (periodic : Bool) :
    (s.setTarget periodic).TargetKept := by
  have ht : Touches [.energy, .events, .reg, .link] s (s.setTarget periodic) :=
    (touches_setTarget (by decide)).mpr (Touches.refl _ _)
  have hle := cycleTarget_le (periodic := periodic) h.previous_le
  refine h.store hr (ht.sup (by decide)) (ht.front (by decide)) (ht.settings (by decide)) ?_ ?_ ?_
  all_goals rw [setTarget_reg]
  · exact hle
  · exact hle
  · rfl

theorem outOfTurn (h : s.TargetKept) : s.outOfTurn.TargetKept := by
  by_cases hr : s.regulating = true
  · rw [outOfTurn_of_regulating hr]; exact h.setTarget hr false
  · rw [outOfTurn_of_not_regulating (by simpa using hr)]; exact h

theorem periodicCycle (h : s.TargetKept) (apart : Bool) : (s.cycle true apart).TargetKept := by
  by_cases hr : s.regulating = true
  · have hg : s.grown.TargetKept := h.of_touches touches_grown (by decide) (by decide) (by decide) (by decide)
    have hgr : s.grown.regulating = true := by rw [regulating_congr (touches_grown.sup (by decide)), hr]
    have hst := hg.setTarget hgr true
    have htc : Touches [.cool, .energy, .events, .reg, .link] s (s.cycle true apart) :=
      (touches_cycle (by decide)).mpr (Touches.refl _ _)
    have hts : Touches [.cool, .energy, .events, .reg, .link] s (s.grown.setTarget true) :=
      (touches_setTarget (by decide)).mpr (touches_grown.mono (by decide))
    obtain ⟨f, o, i, e⟩ := periodicCycle_reg apart hr
    refine hst.congr ?_ ?_ (lineMax_congr ?_) (by rw [e]) (by rw [e]) (by rw [e])
    · rw [htc.sup (by decide), hts.sup (by decide)]
    · rw [htc.front (by decide), hts.front (by decide)]
    · rw [htc.settings (by decide), hts.settings (by decide)]
  · rw [cycle_of_not_regulating (by simpa using hr)]; exact h

theorem evalTracking (h : s.TargetKept) : s.evalTracking.TargetKept := by
  have ht : Touches [.reg, .events] s s.evalTracking := (touches_evalTracking (by decide)).mpr (Touches.refl _ _)
  obtain ⟨f, e⟩ := evalTracking_reg s
  exact h.congr (ht.sup (by decide)) (ht.front (by decide)) (lineMax_congr (ht.settings (by decide)))
    (by rw [e]) (by rw [e]) (by rw [e])

/-! ### The notices of a change (R91) -/

theorem evalLossTimer (h : s.TargetKept) : s.evalLossTimer.TargetKept := by
  have key : s.regulating = true → ∀ l, (s.setSup { s.sup with lossTimer := l }).TargetKept := by
    intro hr l
    obtain ⟨ha, hp, _, hcycle, hrun, hsafe⟩ := h
    have hr' : (s.setSup { s.sup with lossTimer := l }).regulating = s.regulating := rfl
    exact ⟨ha, hp, fun hn => by simp [hr', hr] at hn, hcycle, hrun, hsafe⟩
  unfold State.evalLossTimer
  split
  · split
    · exact key ‹_› _
    · exact key ‹_› _
  · exact h

theorem when_ {f : State → State} (h : s.TargetKept) (c : Bool) (hf : ∀ u : State, u.TargetKept → (f u).TargetKept) :
    (s.when c f).TargetKept := by
  cases c
  · exact h
  · exact hf s h

theorem notice (h : s.TargetKept) (before : Carriage) (cause : Bool) : (s.notice before cause).TargetKept := by
  unfold State.notice
  refine when_ (when_ ?_ _ fun _ hu => hu.evalLossTimer) _ fun _ hu => hu.outOfTurn
  refine h.of_touches (l := [.cool]) ?_ (by decide) (by decide) (by decide) (by decide)
  exact (touches_eachGroup fun _ _ => (touches_alignIfChanged (by decide)).mpr (Touches.refl _ _)).mpr
    (Touches.refl _ _)

theorem withUnloadCycle {head tail : State → State} (h : s.TargetKept)
    (hh : ∀ u, Touches [.cool, .link, .events] u (head u)) (ht : ∀ u, Touches [.cool, .link, .events] u (tail u)) :
    (s.withUnloadCycle head tail).TargetKept := by
  unfold State.withUnloadCycle
  refine when_ ?_ _ fun _ hu => hu.outOfTurn
  exact h.of_touches ((hh s).trans (ht _)) (by decide) (by decide) (by decide) (by decide)

/-! ### Supervisor -/

/-- Entry to SAFE establishes the law, whatever stood before (R11, R142). -/
theorem of_enterSafe (s : State) (cause : EntryCause) : (s.enterSafe cause).TargetKept := by
  have hr : (s.enterSafe cause).regulating = false := by simp [State.regulating, enterSafe_sup]
  unfold State.TargetKept
  rw [hr, enterSafe_sup, enterSafe_reg]
  simp [Regulator.cleared]

/-- The test of the SAFE level establishes the last clause of the law (R12). -/
theorem safeIfAsserted (h : s.sup.safeLevel = false ∨ s.sup.state = .safe → s.TargetKept) :
    s.safeIfAsserted.TargetKept := by
  unfold State.safeIfAsserted
  split
  · exact of_enterSafe s .safeInput
  · rename_i hn
    refine h ?_
    by_cases hs : s.sup.state = .safe
    · exact .inr hs
    · exact .inl (by simpa [hs] using hn)

theorem registerSafe (h : s.TargetKept) (level : Bool) : (s.registerSafe level).TargetKept := by
  refine safeIfAsserted fun hs => ?_
  obtain ⟨ha, hp, hoff, hcycle, hrun, _⟩ := h
  refine ⟨ha, hp, hoff, hcycle, hrun, fun hl => ?_⟩
  rcases hs with hs | hs
  · rw [hl] at hs; cases hs
  · exact hs

theorem readSafe (h : s.TargetKept) (pin apart : Bool) : (s.readSafe pin apart).TargetKept := by
  unfold State.readSafe
  extract_lets n
  split
  · exact h.registerSafe pin
  · exact h

/-- A change between RUN and HOLD with a measurement that allows it keeps the law (R8 to R10). -/
theorem move (h : s.TargetKept) (hr : s.regulating = true) {st : SupState} {cause : EntryCause}
    (hsup : t.sup = { s.sup with state := st, cause := cause }) (hreg : t.reg = s.reg)
    (hset : t.settings = s.settings) (hst : st = .hold ∨ st = .run ∧ t.front.line.state ≠ .fault) :
    t.TargetKept := by
  obtain ⟨ha, hp, hoff, hcycle, _, hsafe⟩ := h
  have hr' : t.regulating = true := by
    rw [regulating_iff, hsup]
    rcases hst with rfl | ⟨rfl, _⟩
    · exact .inr rfl
    · exact .inl rfl
  unfold State.TargetKept
  rw [hr', lineMax_congr hset, hreg, hsup]
  refine ⟨ha, hp, nofun, hcycle.trans hr, fun hrun => ?_, fun hl => ?_⟩
  · rcases hst with rfl | ⟨_, hf⟩
    · cases hrun
    · exact hf
  · simp [State.regulating, hsafe hl] at hr

theorem postSupState (h : s.TargetKept) (left : SupState) : (s.postSupState left).TargetKept :=
  h.of_touches (l := [.events]) ((touches_postSupState (by decide)).mpr (Touches.refl _ _)) (by decide) (by decide)
    (by decide) (by decide)

/-- A new line measurement, and the HOLD that a FAULT in RUN brings (R10). -/
theorem measured (h : s.TargetKept) (hsup : t.sup = s.sup) (hreg : t.reg = s.reg)
    (hset : t.settings = s.settings) : t.measurementHold.TargetKept := by
  unfold State.measurementHold
  split
  · rename_i hf
    obtain ⟨hrun, _⟩ := hf
    refine postSupState (h.move (t := t.enter .hold .measurement) (st := .hold) (cause := .measurement)
      (regulating_iff.mpr (.inl (hsup ▸ hrun))) ?_ hreg hset (.inl rfl)) _
    rw [← hsup]
    rfl
  · rename_i hf
    obtain ⟨ha, hp, hoff, hcycle, _, hsafe⟩ := h
    unfold State.TargetKept
    rw [regulating_congr hsup, lineMax_congr hset, hsup, hreg]
    exact ⟨ha, hp, hoff, hcycle, fun hr hfault => hf ⟨hsup ▸ hr, hfault⟩, hsafe⟩

theorem lossTimeout (h : s.TargetKept) : s.lossTimeout.TargetKept := by
  unfold State.lossTimeout
  split
  · exact of_enterSafe s .noGroup
  · exact h

/-! ### The requests of the line computer -/

theorem holdRequest (h : s.TargetKept) : s.holdRequest.2.TargetKept := by
  unfold State.holdRequest
  split
  · rename_i hs
    exact postSupState (h.move (t := s.enter .hold .holdRequest) (st := .hold) (cause := .holdRequest)
      (regulating_iff.mpr (.inl hs)) rfl rfl rfl (.inl rfl)) _
  all_goals exact h

theorem releaseRequest (h : s.TargetKept) : s.releaseRequest.2.TargetKept := by
  unfold State.releaseRequest
  split
  · rename_i hs
    split
    · exact h
    · rename_i hf
      exact postSupState (h.move (t := s.enter .run .releaseRequest) (st := .run) (cause := .releaseRequest)
        (regulating_iff.mpr (.inr hs)) rfl rfl rfl (.inr ⟨rfl, hf⟩)) _
  · exact h

/-- Entry to RUN from SETUP establishes the law: the first cycle keeps the target within LINE_MAX (R7). -/
theorem runEntry (h : s.TargetKept) (hs : s.sup.state = .setup) (hf : s.front.line.state ≠ .fault) :
    s.runEntry.TargetKept := by
  have ht : Touches [.cool, .sup, .energy, .events, .reg, .link] s s.runEntry :=
    (touches_runEntry (by decide)).mpr (Touches.refl _ _)
  have hprep : Touches [.cool, .sup] s.rampStarted s.runPrepared.grown :=
    touches_runPrepared.trans (touches_grown.mono (by decide))
  have hle : s.runPrepared.grown.cycleTarget true ≤ s.lineMax := by
    have hmax : s.runPrepared.grown.lineMax = s.lineMax := lineMax_congr (hprep.settings (by decide))
    rw [← hmax]
    refine cycleTarget_le ?_
    rw [hmax, hprep.reg (by decide)]
    exact Nat.min_le_right _ _
  obtain ⟨hlev, _⟩ := h.in_setup hs
  obtain ⟨f, o, i, e⟩ := runEntry_reg s
  have hsup : s.runEntry.sup.state = .run ∧ s.runEntry.sup.safeLevel = false := by
    rw [runEntry_sup, runPrepared_sup]
    exact ⟨rfl, hlev⟩
  have hr : s.runEntry.regulating = true := regulating_iff.mpr (.inl hsup.1)
  unfold State.TargetKept
  rw [hr, lineMax_congr (ht.settings (by decide)), e, ht.front (by decide), hsup.1, hsup.2]
  exact ⟨hle, hle, nofun, rfl, fun _ => hf, nofun⟩

theorem runRequest (h : s.TargetKept) : s.runRequest.2.TargetKept := by
  have hnoted : ∀ o : RunOutcome, (s.runNoted o).TargetKept := fun o => h
  by_cases hs : s.sup.state = .setup
  · by_cases hv : s.runValidation = .accepted
    · obtain ⟨_, _, _, _, hf⟩ := runValidation_accepted_iff.mp hv
      rw [runRequest_of_accepted hs hv]
      dsimp only
      exact (hnoted .accepted).runEntry hs hf
    · rw [runRequest_of_refused hs hv]
      exact hnoted _
  · rw [runRequest_of_not_setup hs]
    exact h

/-! ### Resets -/

theorem deviceReset (s : State) (p : Pins) : (s.deviceReset p).TargetKept := by
  unfold State.deviceReset
  refine safeIfAsserted fun hs => ?_
  have hl : p.safe = false := by simpa [State.afterReset] using hs
  unfold State.TargetKept
  simp [State.afterReset, State.regulating, Regulator.initial, hl]

/-- A line reset establishes the law: SETUP, or SAFE, with the regulator cleared (R15, R127). -/
theorem lineReset (s : State) : s.lineReset.2.TargetKept := by
  rw [lineReset_eq]
  dsimp only
  refine safeIfAsserted fun hs => ?_
  have hr : s.lineResetBlocks.regulating = false := by simp [State.regulating, lineResetBlocks_sup]
  rw [lineResetBlocks_sup] at hs
  unfold State.TargetKept
  rw [hr, lineResetBlocks_reg, lineResetBlocks_sup]
  simpa [Regulator.initial] using hs

/-! ### The group link and the loops -/

theorem takeReply (h : s.TargetKept) (o : InFlight) (x : GroupReply) : (s.takeReply o x).TargetKept := by
  unfold State.takeReply
  dsimp only
  refine notice (h.of_touches (l := [.cool, .link, .events]) ?_ (by decide) (by decide) (by decide) (by decide)) _ _
  simp

theorem groupReply (h : s.TargetKept) (bytes : List Byte) : (s.groupReply bytes).TargetKept := by
  unfold State.groupReply
  split
  · exact h
  · exact h
  · split
    · exact h.takeReply _ _
    · exact h

theorem windowExpiry (h : s.TargetKept) : s.windowExpiry.TargetKept := by
  unfold State.windowExpiry
  split
  · exact h
  · exact h
  · dsimp only
    refine notice (h.of_touches (l := [.link, .events]) ?_ (by decide) (by decide) (by decide) (by decide)) _ _
    rw [touches_outcomeTaken (by decide)]
    split <;> simp

theorem tripEvent (h : s.TargetKept) (g : Group) (level : Bool) : (s.tripEvent g level).TargetKept := by
  unfold State.tripEvent
  dsimp only
  split
  · exact h
  · split
    · refine notice (h.of_touches (l := [.link, .pins, .events, .cool]) ?_ (by decide) (by decide) (by decide)
        (by decide)) _ _
      simp
    · exact h.of_touches (l := [.link, .pins]) (by simp) (by decide) (by decide) (by decide) (by decide)

theorem takeOrder (h : s.TargetKept) (g : Group) (kind : CmdKind) (o : Origin) :
    (s.takeOrder g kind o).TargetKept := by
  by_cases hk : kind = .stop
  · subst hk
    exact h.withUnloadCycle (fun _ => by simp) (fun _ => Touches.refl _ _)
  · refine h.of_touches (l := [.link, .events]) ?_ (by decide) (by decide) (by decide) (by decide)
    cases kind <;> first | exact absurd rfl hk | simp [State.takeOrder]

theorem groupOrder (h : s.TargetKept) (num : Nat) (kind : CmdKind) (tag : Byte) (eng : Bool) :
    (s.groupOrder num kind tag eng).2.TargetKept := by
  unfold State.groupOrder
  split
  · exact h
  · repeat' split
    all_goals first | exact h | exact h.takeOrder _ _ _

theorem serveGroupOrder (h : s.TargetKept) (kind : CmdKind) : (s.serveGroupOrder kind).TargetKept := by
  refine takeRequest_keeps (fun _ _ ht hu => hu.of_host ht) (fun f eng u hu => ?_) h
  unfold RequestKind.handle
  dsimp only
  repeat' split
  all_goals first | exact hu | exact hu.groupOrder _ _ _ _

theorem coolingStep (h : s.TargetKept) (g : Group) :
    (s.sensorChange g).TargetKept ∧ (s.coolingStop g).TargetKept ∧ (s.unloadTimeEnd g).TargetKept := by
  refine ⟨?_, ?_, ?_⟩
  · unfold State.sensorChange
    split
    · exact h.withUnloadCycle (fun _ => by simp) (fun _ => by simp)
    · exact h
  · unfold State.coolingStop
    split
    · exact h.withUnloadCycle (fun _ => by simp) (fun _ => by simp)
    · exact h
  · unfold State.unloadTimeEnd
    split
    · exact h.withUnloadCycle (fun _ => by simp) (fun _ => Touches.refl _ _)
    · exact h

/-! ### The boundary -/

theorem lineSample (h : s.TargetKept) (b : Boundary) : (s.lineSample b).TargetKept := by
  unfold State.lineSample
  have ht : Touches [.ticks, .pins, .energy, .front, .events] s
      ((s.beginBoundary b).advanceClock.frontSample b.conversions) := by simp
  exact h.measured (ht.sup (by decide)) (ht.reg (by decide)) (ht.settings (by decide))

theorem readInputs (h : s.TargetKept) (b : Boundary) : (s.readInputs b).TargetKept := by
  have hu : (s.readUtility b.utility b.apart).TargetKept :=
    h.of_touches (l := [.stack, .events]) (by simp) (by decide) (by decide) (by decide) (by decide)
  exact (hu.readSafe b.safe b.apart).of_host ((touches_readKey (by decide)).mpr (Touches.refl _ _))

theorem evalLoops (h : s.TargetKept) (apart : Bool) : (s.evalLoops apart).TargetKept :=
  h.withUnloadCycle (fun _ => by simp) (fun _ => by simp)

theorem boundary (h : s.TargetKept) (b : Boundary) : (s.boundary b).TargetKept := by
  have hs : (s.boundarySampled b).TargetKept :=
    (h.lineSample b).of_touches touches_boundarySampled (by decide) (by decide) (by decide) (by decide)
  have hr : (s.boundaryRead b).TargetKept := hs.readInputs b
  rw [boundary_eq]
  exact (hr.of_touches touches_aeScan (by decide) (by decide) (by decide) (by decide)).evalLoops _

/-! ### The settings store -/

theorem lineMax_apply {st : Settings} {i : Item} {v : Int} (hi : i ≠ .lineMax) :
    (st.apply i v).get .lineMax = st.get .lineMax := by
  unfold Settings.apply
  dsimp only
  split
  · rw [Settings.get_put_ne _ _ (by decide), Settings.get_put_ne _ _ (Ne.symm hi)]
  · exact Settings.get_put_ne _ _ (Ne.symm hi)

/-- Only a change of G_FITTED reaches the supervisor, the regulator, the loops or the link (R110, R172). -/
theorem touches_itemEffect_of_ne {i : Item} {before : State} {v : Int} (hi : ∀ g, i ≠ .group g .fitted) :
    Touches [.scan, .ae, .events, .stack, .energy] s (s.itemEffect i before v) := by
  unfold State.itemEffect
  split
  case h_2 => exact absurd rfl (hi _)
  all_goals simp (maxDischargeDepth := 9)

theorem fitChange (h : s.TargetKept) (g : Group) (on : Bool) (before : Carriage) :
    (s.fitChange g on before).TargetKept := by
  unfold State.fitChange
  dsimp only
  split
  · exact notice (h.of_touches (l := [.link]) (by simp) (by decide) (by decide) (by decide) (by decide)) _ _
  · exact notice (h.of_touches (l := [.link, .cool]) (by simp) (by decide) (by decide) (by decide) (by decide)) _ _

theorem itemEffect (h : s.TargetKept) (i : Item) (before : State) (v : Int) :
    (s.itemEffect i before v).TargetKept := by
  by_cases hi : ∃ g, i = .group g .fitted
  · obtain ⟨g, rfl⟩ := hi
    exact when_ h _ fun _ hu => hu.fitChange g _ _
  · exact h.of_touches (touches_itemEffect_of_ne fun g hg => hi ⟨g, hg⟩) (by decide) (by decide) (by decide)
      (by decide)

/-- A write keeps the law: LINE_MAX is written in SETUP alone, where the targets are 0 (R7, R128, R173). -/
theorem writeItem (h : s.TargetKept) {i : Item} (v : Int) (hi : s.sup.state = .setup ∨ i ≠ .lineMax) :
    (s.writeItem i v).TargetKept := by
  refine itemEffect ?_ i s _
  rcases hi with hs | hi
  · obtain ⟨_, _, ha, hp⟩ := h.in_setup hs
    obtain ⟨_, _, hoff, hcycle, hrun, hsafe⟩ := h
    refine ⟨?_, ?_, hoff, hcycle, hrun, hsafe⟩
    · exact ha ▸ Nat.zero_le _
    · exact hp ▸ Nat.zero_le _
  · refine h.congr rfl rfl ?_ rfl rfl rfl
    have := lineMax_apply (st := s.settings) (v := v) hi
    simp only [State.lineMax, State.cfgN, State.cfg, State.setSettings_settings, this]

end State.TargetKept

/-! ### SET_ITEMS -/

theorem notice_sup_state (s : State) (before : Carriage) (cause : Bool) :
    (s.notice before cause).sup.state = s.sup.state := by
  rw [notice_sup, settled_sup]

theorem fitChange_sup_state (s : State) (g : Group) (on : Bool) (before : Carriage) :
    (s.fitChange g on before).sup.state = s.sup.state := by
  cases on
  · exact notice_sup_state _ _ _
  · exact notice_sup_state _ _ _

/-- No write of an item changes the supervisor's state (R172). -/
theorem writeItem_sup_state (s : State) (i : Item) (v : Int) : (s.writeItem i v).sup.state = s.sup.state := by
  unfold State.writeItem
  by_cases hi : ∃ g, i = .group g .fitted
  · obtain ⟨g, rfl⟩ := hi
    unfold State.itemEffect State.when
    dsimp only
    split
    · exact fitChange_sup_state _ _ _ _
    · rfl
  · rw [(State.TargetKept.touches_itemEffect_of_ne fun g hg => hi ⟨g, hg⟩).sup (by decide)]
    rfl

/-- Pairs of which none that is carried out writes LINE_MAX outside SETUP keep the law (R173 check 4, R174). -/
theorem foldl_step_targetKept {eng : Bool} (pairs : List (Item × Int)) (a : Applied) (h : a.state.TargetKept)
    (hp : ∀ p ∈ pairs, p.1.mayWrite eng = true → a.state.sup.state = .setup ∨ p.1 ≠ .lineMax) :
    (pairs.foldl (Applied.step eng) a).state.TargetKept := by
  induction pairs generalizing a with
  | nil => exact h
  | cons p rest ih =>
    rw [List.foldl_cons]
    by_cases hw : p.1.mayWrite eng = true
    · have e : (Applied.step eng a p).state = a.state.writeItem p.1 p.2 := by simp [Applied.step, hw]
      refine ih _ (e ▸ h.writeItem p.2 (hp p (by simp) hw)) fun q hq hqw => ?_
      rw [e, writeItem_sup_state]
      exact hp q (by simp [hq]) hqw
    · have e : (Applied.step eng a p).state = a.state := by simp [Applied.step, hw]
      refine ih _ (e ▸ h) fun q hq hqw => ?_
      rw [e]
      exact hp q (by simp [hq]) hqw

/-- A request that is not refused carries out no write of a SETUP_ONLY item outside SETUP (R173 check 4). -/
theorem setup_of_refusePairs {s : State} {pairs : List (Nat × Int)} {eng : Bool}
    (h : s.refusePairs pairs eng = none) {p : Item × Int} (hp : p ∈ namedPairs pairs)
    (hw : p.1.mayWrite eng = true) : s.sup.state = .setup ∨ p.1.row.setupOnly = false := by
  unfold State.refusePairs at h
  dsimp only at h
  repeat' split at h
  all_goals try cases h
  rename_i hlock
  have := List.findIdx?_eq_none_iff.mp hlock p hp
  simp only [hw, Bool.and_true, Bool.and_eq_false_iff, bne_eq_false_iff_eq] at this
  exact this.symm

theorem State.TargetKept.setItems {s : State} (h : s.TargetKept) (payload : List Byte) (eng : Bool) :
    (s.setItems payload eng).2.TargetKept := by
  unfold State.setItems
  extract_lets count code pairs a
  split
  · exact h
  · split
    · exact h
    · rename_i hn
      refine foldl_step_targetKept _ _ h fun p hp hw => ?_
      refine (setup_of_refusePairs hn hp hw).imp_right ?_
      intro hrow hmax
      rw [hmax] at hrow
      cases hrow

/-! ### Every step (O58) -/

/-- A command that changes none of the blocks of which the law speaks keeps it. -/
theorem targetKept_of_exec {c : Instr} {s t : State} (h : s.TargetKept) (he : exec c s = .next t)
    (hsup : .sup ∉ commandBlocks c) (hreg : .reg ∉ commandBlocks c) (hfront : .front ∉ commandBlocks c)
    (hset : .settings ∉ commandBlocks c) : t.TargetKept :=
  h.of_touches (exec_touches he) hsup hreg hfront hset

theorem exec_targetKept {c : Instr} {s t : State} (h : s.TargetKept) (he : exec c s = .next t) :
    t.TargetKept := by
  have hh : ∀ u v : State, Touches [.host] u v → u.TargetKept → v.TargetKept := fun _ _ ht hu => hu.of_host ht
  cases c with
  | deviceReset p => cases he; exact State.TargetKept.deviceReset s p
  | lineReset => cases he; exact serve_keeps hh (fun _ _ u _ => State.TargetKept.lineReset u) h
  | setItems => cases he; exact serve_keeps hh (fun payload eng _ hu => hu.setItems payload eng) h
  | run => cases he; exact serve_keeps hh (fun _ _ _ hu => hu.runRequest) h
  | hold => cases he; exact serve_keeps hh (fun _ _ _ hu => hu.holdRequest) h
  | release => cases he; exact serve_keeps hh (fun _ _ _ hu => hu.releaseRequest) h
  | groupOrderStart | groupOrderStop | groupOrderResetTrip | groupOrderCapture | groupOrderGroupReset =>
    cases he; exact h.serveGroupOrder _
  | lineSample b | lineMeasRecovery b =>
    have e : s.boundary b = t := by injection he
    exact e ▸ h.boundary b
  | coolingSensor g => cases he; exact (h.coolingStep g).1
  | coolingStop g => cases he; exact (h.coolingStep g).2.1
  | unloadTimeEnd g => cases he; exact (h.coolingStep g).2.2
  | safeInputEvent level =>
    cases he
    split
    · exact h.registerSafe level
    · exact h
  | tripInputEvent g level => cases he; exact h.tripEvent g level
  | groupLossTimeout => cases he; exact h.lossTimeout
  | periodicCycle apart =>
    cases he
    split
    · exact h.periodicCycle apart
    · exact h
  | tracking => cases he; exact h.evalTracking
  | groupReply bytes => cases he; exact h.groupReply bytes
  | replyWindowExpiry => cases he; exact h.windowExpiry
  | _ =>
    exact targetKept_of_exec h he (by simp [commandBlocks]) (by simp [commandBlocks]) (by simp [commandBlocks])
      (by simp [commandBlocks])

end Sys2Proof.Machine

/-- Settles O58: each command's operations keep the law of the targets, and idling changes nothing. -/
theorem everyStepKeepsTheTargets : Obligations.EveryStepKeepsTheTargets := by
  unfold Obligations.EveryStepKeepsTheTargets
  intro s t h hstep
  unfold step at hstep
  split at hstep
  · cases hstep
    exact h
  · rename_i rest _
    exact exec_targetKept (s := { s with pending := rest }) h hstep
end

section
/-! PROOFS. The requests RUN, HOLD and RELEASE of the line computer (O17, O19; R4, R5, R8, R9). -/

open Sys2Proof Sys2Proof.Machine

namespace Sys2Proof.Machine

theorem engineer_of_admits {s : State} {k : RequestKind} {f : Frame} {rest : List Frame} (h : s.Admits k f rest)
    (hk : k.engineerOnly = true) : s.engineer f = true := by
  obtain ⟨_, _, he, _⟩ := h
  exact he hk

theorem exec_run_of_admits {s : State} {f : Frame} {rest : List Frame} (h : s.Admits .run f rest) :
    exec .run s = .next (s.taken.runRequest.2.answer f true s.taken.runRequest.1) := by
  show Host.Outcome.next (s.serve .run fun _ _ s => s.runRequest) = _
  rw [serve_of_admits h, engineer_of_admits h rfl]

/-- The reply to a RUN request that validation refuses (R5). -/
theorem exec_run_of_refused {s : State} {f : Frame} {rest : List Frame} (h : s.Admits .run f rest)
    (hs : s.sup.state = .setup) {o : RunOutcome} (hv : s.taken.runValidation = o) (ho : o ≠ .accepted) :
    exec .run s = .next ((s.taken.setSup { s.sup with lastRun := o }).answer f true
      ⟨.notReady, [BitVec.ofNat 8 o.code]⟩) := by
  subst hv
  rw [exec_run_of_admits h, runRequest_of_refused (s := s.taken) hs ho]
  rfl

theorem exec_run_of_accepted {s : State} {f : Frame} {rest : List Frame} (h : s.Admits .run f rest)
    (hs : s.sup.state = .setup) (hv : s.taken.runValidation = .accepted) :
    exec .run s = .next ((s.taken.runNoted .accepted).runEntry.answer f true ⟨.ok, []⟩) := by
  rw [exec_run_of_admits h, runRequest_of_accepted (s := s.taken) hs hv]
  rfl

theorem runEntry_lastRun (s : State) : s.runEntry.sup.lastRun = s.sup.lastRun := by
  rw [runEntry_sup, runPrepared_sup]

theorem exec_hold_of_admits {s : State} {f : Frame} {rest : List Frame} (h : s.Admits .hold f rest) :
    exec .hold s
      = .next (s.taken.holdRequest.2.answer f (s.engineer f) s.taken.holdRequest.1) := by
  show Host.Outcome.next (s.serve .hold fun _ _ s => s.holdRequest) = _
  rw [serve_of_admits h]

theorem exec_release_of_admits {s : State} {f : Frame} {rest : List Frame} (h : s.Admits .release f rest) :
    exec .release s
      = .next (s.taken.releaseRequest.2.answer f (s.engineer f) s.taken.releaseRequest.1) := by
  show Host.Outcome.next (s.serve .release fun _ _ s => s.releaseRequest) = _
  rw [serve_of_admits h]

end Sys2Proof.Machine

/-- Settles O17: validation takes the five conditions in the order of R5, and the outcome of each is worked out
under the conditions before it. -/
theorem runIsRefusedForTheFirstConditionThatFails :
    Obligations.RunIsRefusedForTheFirstConditionThatFails := by
  unfold Obligations.RunIsRefusedForTheFirstConditionThatFails
  intro f rest s h
  extract_lets _ refused fitted adopted
  have refuse : ∀ o : RunOutcome, s.sup.state = .setup → s.taken.runValidation = o → o ≠ .accepted →
      refused o (BitVec.ofNat 8 o.code) := fun o hs hv ho => exec_run_of_refused h hs hv ho
  have hadopted : s.taken.adopted = true ↔ adopted := adopted_iff (s := s.taken)
  have hfitted : Group.all.any s.taken.fitted = true ↔ ∃ g, fitted g := anyFitted_iff (s := s.taken)
  refine ⟨fun hs => ?_, fun hs => ⟨fun hclock => ?_, fun hclock => ⟨fun hnone => ?_, fun hsome => ⟨fun htable => ?_,
    fun htable => ⟨fun hadopt => ?_, fun hadopt hfault => ?_, fun hadopt hline => ?_⟩⟩⟩⟩⟩
  · rw [exec_run_of_admits h, runRequest_of_not_setup (s := s.taken) hs]
    rfl
  · refine refuse .clockNotSet hs ?_ nofun
    simp [State.runValidation, hclock]
  · refine refuse .noGroup hs ?_ nofun
    have : Group.all.any s.taken.fitted = false := by
      rw [Bool.eq_false_iff, Ne, hfitted]
      simpa using hnone
    simp [State.runValidation, hclock, this]
  · refine refuse .noScanTable hs ?_ nofun
    simp [State.runValidation, hclock, hfitted.mpr hsome, htable]
  · refine refuse .adoptionIncomplete hs ?_ nofun
    have : s.taken.adopted = false := by
      rw [Bool.eq_false_iff, Ne, hadopted]
      exact hadopt
    simp [State.runValidation, hclock, hfitted.mpr hsome, htable, this]
  · refine refuse .lineFault hs ?_ nofun
    simp [State.runValidation, hclock, hfitted.mpr hsome, htable, hadopted.mpr hadopt, hfault]
  · have hv : s.taken.runValidation = .accepted :=
      runValidation_accepted_iff.mpr ⟨hclock, hsome, htable, hadopt, hline⟩
    refine ⟨_, exec_run_of_accepted h hs hv, ?_⟩
    have ht : Touches [.host] (s.taken.runNoted .accepted).runEntry
        ((s.taken.runNoted .accepted).runEntry.answer f true ⟨.ok, []⟩) :=
      (touches_answer (by decide)).mpr (Touches.refl _ _)
    rw [ht.sup (by decide), runEntry_lastRun]
    rfl

/-- Settles O19: each supervisor state answers HOLD and RELEASE by its own row of R8 and R9. -/
theorem holdAndReleaseMoveBetweenRunAndHold : Obligations.HoldAndReleaseMoveBetweenRunAndHold := by
  unfold Obligations.HoldAndReleaseMoveBetweenRunAndHold
  intro f rest s
  extract_lets reply enter
  refine ⟨fun h => ⟨fun hs => ?_, fun hs => ?_, fun hs => ?_⟩, fun h => ⟨fun hs hf => ?_, fun hs hf => ?_, fun hs => ?_⟩⟩
  · have e : s.taken.holdRequest = (Reply.bare .ok, (s.taken.enter .hold .holdRequest).postSupState .run) := by
      simp [State.holdRequest, hs]
    rw [exec_hold_of_admits h, e]
    rfl
  · have e : s.taken.holdRequest = (Reply.bare .ok, s.taken) := by simp [State.holdRequest, hs]
    rw [exec_hold_of_admits h, e]
    rfl
  · have e : s.taken.holdRequest = (Reply.bare .wrongState, s.taken) := by
      rcases hs with hs | hs <;> simp [State.holdRequest, hs]
    rw [exec_hold_of_admits h, e]
    rfl
  · have e : s.taken.releaseRequest
        = (Reply.bare .ok, (s.taken.enter .run .releaseRequest).postSupState .hold) := by
      simp [State.releaseRequest, hs, hf]
    rw [exec_release_of_admits h, e]
    rfl
  · have e : s.taken.releaseRequest = (⟨.notReady, beBytes 1 RunOutcome.lineFault.code⟩, s.taken) := by
      simp [State.releaseRequest, hs, hf]
    rw [exec_release_of_admits h, e]
    rfl
  · have e : s.taken.releaseRequest = (Reply.bare .wrongState, s.taken) := by
      simp [State.releaseRequest, hs]
    rw [exec_release_of_admits h, e]
    rfl
end

section
/-! PROOFS. The accepted RUN request (O18; R5, R7, R81, R133 to R138). -/

open Sys2Proof Sys2Proof.Machine

namespace Sys2Proof.Machine

/-! ### Join credits group by group (R80, R81) -/

theorem coolOf_setCap_ne {s : State} {g h : Group} (c : CapRecord) (e : h ≠ g) :
    (s.setCap g c).coolOf h = s.coolOf h := coolOf_setCoolOf_ne _ _ e

theorem allocatable_of_touches_cool {s t : State} (ht : Touches [.cool] s t) (g : Group) :
    t.allocatable g = s.allocatable g :=
  allocatable_congr (ht.settings (by decide)) (by rw [unit_congr (ht.link (by decide))])

/-- The capacity record with its join credit seeded or cleared (R80). -/
def State.alignedCap (s : State) (g : Group) : CapRecord :=
  let c := (s.coolOf g).cap
  { c with credit := if s.allocatable g then min c.capacity (s.chan (gcChan g)).value.toNat else 0 }

theorem alignCredit_eq (s : State) (g : Group) : s.alignCredit g = s.setCap g (s.alignedCap g) := by
  unfold State.alignCredit State.alignedCap State.seedCredit State.clearCredit
  dsimp only
  split <;> rfl

theorem alignCredits_coolOf (s : State) (g : Group) :
    (s.eachGroup State.alignCredit).coolOf g = { s.coolOf g with cap := s.alignedCap g } := by
  refine eachGroup_view (view := State.coolOf) (l := [.cool])
    (val := fun g => { s.coolOf g with cap := s.alignedCap g })
    (fun _ _ => (touches_alignCredit (by decide)).mpr (Touches.refl _ _)) (fun t g h hne => ?_)
    (fun t g ht hv => ?_) g
  · rw [alignCredit_eq, coolOf_setCap_ne _ hne]
  · rw [alignCredit_eq, coolOf_setCap_self]
    unfold State.alignedCap
    rw [hv, allocatable_of_touches_cool ht, chan_congr (ht.front (by decide))]

/-- The capacity record with its join credit grown by a periodic cycle (R81). -/
def State.grownCap (s : State) (g : Group) : CapRecord :=
  let c := (s.coolOf g).cap
  let grown := min c.capacity (c.credit + s.cfgN (.group g .joinRate) / 5)
  { c with credit := if s.allocatable g then grown else c.credit }

theorem growCredit_coolOf_self (s : State) (g : Group) :
    (s.growCredit g).coolOf g = { s.coolOf g with cap := s.grownCap g } := by
  unfold State.growCredit State.grownCap
  dsimp only
  split
  · rw [coolOf_setCap_self]
  · rfl

theorem growCredit_coolOf_ne (s : State) {g h : Group} (e : h ≠ g) : (s.growCredit g).coolOf h = s.coolOf h := by
  unfold State.growCredit
  dsimp only
  split
  · exact coolOf_setCap_ne _ e
  · rfl

theorem grown_coolOf (s : State) (g : Group) : s.grown.coolOf g = { s.coolOf g with cap := s.grownCap g } := by
  refine eachGroup_view (view := State.coolOf) (l := [.cool])
    (val := fun g => { s.coolOf g with cap := s.grownCap g })
    (fun _ _ => (touches_growCredit (by decide)).mpr (Touches.refl _ _)) (fun t g h hne => growCredit_coolOf_ne t hne)
    (fun t g ht hv => ?_) g
  rw [growCredit_coolOf_self]
  unfold State.grownCap
  rw [hv, allocatable_of_touches_cool ht, cfgN_congr (ht.settings (by decide))]

/-! ### Entry to RUN -/

/-- Entry to RUN seeds the credits of the allocatable groups, grows them once, and clears the others (R7, R81). -/
theorem runEntry_credit (s : State) (g : Group) :
    (s.runEntry.coolOf g).cap.credit =
      if s.allocatable g then
        min (s.coolOf g).cap.capacity
          (min (s.coolOf g).cap.capacity (s.chan (gcChan g)).value.toNat + s.cfgN (.group g .joinRate) / 5)
      else 0 := by
  have hcool : s.runEntry.cool = s.runPrepared.grown.cool := by
    rw [runEntry_eq, postSupState_cool, State.setReg_cool, periodicCycle_cool false (runPrepared_regulating s)]
  have hprep : s.runPrepared.coolOf g = (s.rampStarted.eachGroup State.alignCredit).coolOf g :=
    coolOf_congr (Touches.cool (l := [.sup]) ((touches_evalLossTimer (by decide)).mpr (Touches.refl _ _)) (by decide)) g
  have hset : s.runPrepared.settings = s.settings := touches_runPrepared.settings (by decide)
  have halloc : s.runPrepared.allocatable g = s.allocatable g :=
    allocatable_congr hset (by rw [unit_congr (touches_runPrepared.link (by decide))]; rfl)
  rw [coolOf_congr hcool, grown_coolOf]
  unfold State.grownCap
  dsimp only
  rw [hprep, alignCredits_coolOf, halloc, cfgN_congr hset]
  unfold State.alignedCap
  have : s.rampStarted.allocatable g = s.allocatable g := rfl
  cases ha : s.allocatable g
  · simp [this, ha]
  · simp only [this, ha, if_true]
    rfl

/-- The target that entry to RUN applies: one ramp step from the start laid down, clamped to C + Z (R7, R133 to
R138). -/
theorem runEntry_target (s : State) :
    ∃ gov, s.runEntry.reg.applied
      = min (s.runPrepared.grown.ramp s.runEntry.reg.desired gov).target
          (s.runEntry.reg.capacityC + s.runEntry.reg.frozenZ) := by
  obtain ⟨f, o, i, e⟩ := runEntry_reg s
  have hrun : s.runPrepared.grown.sup.state = .run := by
    rw [touches_grown.sup (by decide), runPrepared_sup]
  refine ⟨s.runPrepared.grown.governingTerm s.runPrepared.grown.desiredTarget, ?_⟩
  rw [e]
  unfold State.cycleRecord State.cycleTarget
  dsimp only
  rw [newTarget_of_run hrun]

theorem runEntry_cycleTimer (s : State) : s.runEntry.reg.cycleTimer = true := by
  obtain ⟨f, o, i, e⟩ := runEntry_reg s
  rw [e]

theorem runEntry_tells (s : State) : s.runEntry.Tells .supState 0 [[1#8], [0#8], [2#8]] := by
  have hsup : s.runEntry.sup.state = .run ∧ s.runEntry.sup.cause = .runRequest := by
    rw [runEntry_sup, runPrepared_sup]
    exact ⟨rfl, rfl⟩
  obtain ⟨hstate, hcause⟩ := hsup
  rw [runEntry_eq] at *
  rw [postSupState_sup] at hstate hcause
  unfold State.postSupState
  rw [hstate, hcause]
  exact tells_post_self

end Sys2Proof.Machine

/-- Settles O18: the first cycle after entry to RUN starts its ramp at the measured current clamped to LINE_MAX, so
the target it applies is one ramp step away at most. -/
theorem acceptedRunTakesOverTheLineWithoutAStep : Obligations.AcceptedRunTakesOverTheLineWithoutAStep := by
  unfold Obligations.AcceptedRunTakesOverTheLineWithoutAStep
  intro f rest s h hkept hs hclock hfitted htable hadopt hline start seed
  have hv : s.taken.runValidation = .accepted :=
    runValidation_accepted_iff.mpr ⟨hclock, hfitted, htable, hadopt, hline⟩
  obtain ⟨_, hloss, _, _⟩ := State.TargetKept.in_setup hkept hs
  have hprep : Touches [.cool, .sup] (s.taken.runNoted .accepted).rampStarted
      (s.taken.runNoted .accepted).runPrepared.grown := touches_runPrepared.trans (touches_grown.mono (by decide))
  have hprev : (s.taken.runNoted .accepted).runPrepared.grown.reg.previous = start := by
    rw [hprep.reg (by decide)]
    rfl
  have hhold : (s.taken.runNoted .accepted).runPrepared.grown.ae.hold = s.ae.hold := by
    rw [hprep.ae (by decide)]
    rfl
  have hup : (s.taken.runNoted .accepted).runPrepared.grown.cfgN .rampUp = s.cfgN .rampUp :=
    cfgN_congr (hprep.settings (by decide)) _
  obtain ⟨gov, htarget⟩ := runEntry_target (s.taken.runNoted .accepted)
  refine ⟨(s.taken.runNoted .accepted).runEntry, exec_run_of_accepted h hs hv, ?_, ?_,
    runEntry_credit (s.taken.runNoted .accepted), runEntry_cycleTimer _, fun hlt hn => ?_, fun hlt hh => ?_,
    fun hle => ?_, runEntry_tells _⟩
  · rw [touches_runEntry (by decide)]
    exact (touches_setSup (by decide)).mpr ((touches_taken (by decide)).mpr (Touches.refl _ _))
  · rw [runEntry_sup, runPrepared_sup]
    have hany : (s.taken.runNoted .accepted).anyCarrier = s.anyCarrier := rfl
    have hl : (s.taken.runNoted .accepted).sup.lossTimer = none := hloss
    rw [hany, hl]
    rfl
  · rw [htarget, ramp_up (hprev ▸ hlt) (hhold.trans hn), hprev, hup]
    rfl
  · rw [htarget, ramp_held (hprev ▸ hlt) (hhold.trans hh), hprev]
  · rw [htarget]
    exact (Nat.min_le_left _ _).trans (hprev ▸ ramp_le (hprev.symm ▸ hle))
end

section
/-! PROOFS. Postings: `Posts ks s t` says that from `s` to `t` only events of the kinds in `ks` have been posted, so
that what the queue of `s` tells of other kinds stands in that of `t` (R176). Each operation of a line sample and of a
line reset has one lemma that names the kinds it can post. -/

open Sys2Proof Sys2Proof.Machine

namespace Sys2Proof.Machine

/-- From `s` to `t` the event queue has taken postings of the kinds in `ks` only: OVERRUN stays set, the entries of
other kinds stand as they were, and one that is the queue's first entry remains the first. -/
structure Posts (ks : List EventKind) (s t : State) : Prop where
  overrun : s.events.overrun = true → t.events.overrun = true
  stands : ∀ e ∈ s.events.entries, e.kind ∉ ks → e ∈ t.events.entries
  first : ∀ e rest, s.events.entries = e :: rest → e.kind ∉ ks → ∃ more, t.events.entries = e :: more

section
variable {ks : List EventKind} {s t u : State}

theorem Posts.of_events (h : t.events = s.events) : Posts ks s t :=
  ⟨fun ho => h ▸ ho, fun _ he _ => h ▸ he, fun _ rest he _ => ⟨rest, h ▸ he⟩⟩

@[simp] theorem Posts.refl (ks : List EventKind) (s : State) : Posts ks s s := Posts.of_events rfl

theorem Posts.trans (h : Posts ks s t) (k : Posts ks t u) : Posts ks s u where
  overrun ho := k.overrun (h.overrun ho)
  stands e he hk := k.stands e (h.stands e he hk) hk
  first e rest he hk := by
    obtain ⟨more, hm⟩ := h.first e rest he hk
    exact k.first e more hm hk

theorem Posts.mono {js : List EventKind} (h : Posts js s t) (hj : js ⊆ ks) : Posts ks s t where
  overrun := h.overrun
  stands e he hk := h.stands e he fun hm => hk (hj hm)
  first e rest he hk := h.first e rest he fun hm => hk (hj hm)

/-- What is told of a kind that is not posted stays told. -/
theorem Posts.tells {k : EventKind} {n : Nat} {fields : List (List Byte)} (h : Posts ks s t) (hk : k ∉ ks)
    (ht : s.Tells k n fields) : t.Tells k n fields := by
  rcases ht with ho | ⟨e, he, hkind, hsub, hval⟩
  · exact .inl (h.overrun ho)
  · exact .inr ⟨e, h.stands e he (hkind ▸ hk), hkind, hsub, hval⟩

/-- An operation on the blocks of `l`, which do not include the event queue, posts nothing. -/
theorem Posts.of_touches {l : List Block} (h : Touches l s t) (he : .events ∉ l) : Posts ks s t :=
  Posts.of_events (h.events he)

theorem posts_self_post {k : EventKind} {n : Nat} {fields : List (List Byte)} (hk : k ∈ ks) :
    Posts ks s (s.post k n fields) := by
  have about_ne : ∀ e : Event, e.kind ∉ ks → e.about k n = false := by
    intro e he
    have : e.kind ≠ k := fun h => he (h ▸ hk)
    simp [Event.about, this]
  refine ⟨fun ho => ?_, fun e he hne => ?_, fun e rest he hne => ?_⟩
  all_goals unfold State.post EventQueue.post EventQueue.evalAttn
  all_goals simp only [State.setEvents_events]
  · repeat' split
    all_goals first | exact ho | rfl
  · split
    · exact List.mem_map.mpr ⟨e, he, by simp [about_ne e hne]⟩
    · split
      · exact List.mem_append_left _ he
      · exact he
  · rw [he]
    split
    · exact ⟨_, by simp only [List.map_cons, about_ne e hne]; rfl⟩
    · split
      · exact ⟨_, rfl⟩
      · exact ⟨_, rfl⟩

@[simp] theorem posts_post {k : EventKind} {n : Nat} {fields : List (List Byte)} (h : Posts ks s t) (hk : k ∈ ks) :
    Posts ks s (t.post k n fields) := h.trans (posts_self_post hk)

@[simp] theorem posts_setSup {x : Supervisor} (h : Posts ks s t) : Posts ks s (t.setSup x) := h.trans (.of_events rfl)
@[simp] theorem posts_setFront {x : FrontEnd} (h : Posts ks s t) : Posts ks s (t.setFront x) := h.trans (.of_events rfl)
@[simp] theorem posts_setScan {x : Scan} (h : Posts ks s t) : Posts ks s (t.setScan x) := h.trans (.of_events rfl)
@[simp] theorem posts_setPots {x : List Pot} (h : Posts ks s t) : Posts ks s (t.setPots x) := h.trans (.of_events rfl)
@[simp] theorem posts_setAe {x : AeMonitor} (h : Posts ks s t) : Posts ks s (t.setAe x) := h.trans (.of_events rfl)
@[simp] theorem posts_setCool {x : Six Cooling} (h : Posts ks s t) : Posts ks s (t.setCool x) :=
  h.trans (.of_events rfl)
@[simp] theorem posts_setLink {x : GroupLink} (h : Posts ks s t) : Posts ks s (t.setLink x) := h.trans (.of_events rfl)
@[simp] theorem posts_setStack {x : CeilingStack} (h : Posts ks s t) : Posts ks s (t.setStack x) :=
  h.trans (.of_events rfl)
@[simp] theorem posts_setReg {x : Regulator} (h : Posts ks s t) : Posts ks s (t.setReg x) := h.trans (.of_events rfl)
@[simp] theorem posts_setEnergy {x : Energy} (h : Posts ks s t) : Posts ks s (t.setEnergy x) :=
  h.trans (.of_events rfl)
@[simp] theorem posts_setHost {x : HostLink} (h : Posts ks s t) : Posts ks s (t.setHost x) := h.trans (.of_events rfl)
@[simp] theorem posts_setUnit {g : Group} {x : GroupUnit} (h : Posts ks s t) : Posts ks s (t.setUnit g x) :=
  posts_setLink h
@[simp] theorem posts_setCoolOf {g : Group} {x : Cooling} (h : Posts ks s t) : Posts ks s (t.setCoolOf g x) :=
  posts_setCool h
@[simp] theorem posts_setLoop {g : Group} {x : LoopRecord} (h : Posts ks s t) : Posts ks s (t.setLoop g x) :=
  posts_setCool h
@[simp] theorem posts_setCap {g : Group} {x : CapRecord} (h : Posts ks s t) : Posts ks s (t.setCap g x) :=
  posts_setCool h
@[simp] theorem posts_setLeft {g : Group} {x : LoopLeft} (h : Posts ks s t) : Posts ks s (t.setLeft g x) :=
  posts_setCool h
@[simp] theorem posts_setPotAe {p : Nat} {x : PotAe} (h : Posts ks s t) : Posts ks s (t.setPotAe p x) :=
  posts_setPots h
@[simp] theorem posts_setSwitching {x : Switching} (h : Posts ks s t) : Posts ks s (t.setSwitching x) :=
  posts_setStack h

@[simp] theorem posts_when {c : Bool} {f : State → State} (h : Posts ks s t) (hf : ∀ v, Posts ks v (f v)) :
    Posts ks s (t.when c f) := by
  cases c
  · exact h
  · exact h.trans (hf t)

@[simp] theorem posts_foldl {α : Type} {xs : List α} {f : State → α → State} (h : Posts ks s t)
    (hf : ∀ v x, Posts ks v (f v x)) : Posts ks s (xs.foldl f t) := by
  induction xs generalizing t with
  | nil => exact h
  | cons x xs ih => exact ih (h.trans (hf t x))

@[simp] theorem posts_eachGroup {f : State → Group → State} (h : Posts ks s t) (hf : ∀ v g, Posts ks v (f v g)) :
    Posts ks s (t.eachGroup f) := posts_foldl h hf

end

section
variable {ks : List EventKind} {s t : State} {g : Group} {p n v : Nat} {c : Bool}

/-! ### The regulator and the supervisor -/

@[simp] theorem posts_evalTracking (h : Posts ks s t) (hk : .tracking ∈ ks) : Posts ks s t.evalTracking := by
  unfold State.evalTracking
  dsimp only
  split <;> split
  all_goals simp [h, hk]

@[simp] theorem posts_setTarget (h : Posts ks s t) (hk : .capacityLimit ∈ ks) : Posts ks s (t.setTarget c) := by
  rw [setTarget_eq]
  refine (posts_setReg ?_).trans (.of_touches touches_writeShares (by decide))
  unfold State.cycleReported
  exact posts_when (posts_when h fun _ => posts_setEnergy (.refl _ _)) fun _ => posts_post (.refl _ _) hk

@[simp] theorem posts_outOfTurn (h : Posts ks s t) (hk : .capacityLimit ∈ ks) : Posts ks s t.outOfTurn := by
  cases hr : t.regulating
  · rw [outOfTurn_of_not_regulating hr]; exact h
  · rw [outOfTurn_of_regulating hr]; exact posts_setTarget h hk

@[simp] theorem posts_notice {w : Carriage} (h : Posts ks s t) (hk : .capacityLimit ∈ ks) :
    Posts ks s (t.notice w c) := by
  rw [notice_eq]
  exact posts_when (h.trans (.of_touches touches_settled (by decide))) fun _ => posts_outOfTurn (.refl _ _) hk

@[simp] theorem posts_postCompletion {x : Command} {o : Completion} (h : Posts ks s t)
    (hk : [.orderDone, .orderFailed] ⊆ ks) : Posts ks s (t.postCompletion g x o n) := by
  unfold State.postCompletion
  have hd : EventKind.orderDone ∈ ks := hk (by decide)
  have hf : EventKind.orderFailed ∈ ks := hk (by decide)
  split
  · exact h
  · exact posts_post h (by split <;> assumption)

@[simp] theorem posts_complete {o : Completion} (h : Posts ks s t) (hk : [.orderDone, .orderFailed] ⊆ ks) :
    Posts ks s (t.complete g o n) := by
  cases hc : (t.unit g).command with
  | none => unfold State.complete; rw [hc]; exact h
  | some x =>
    rw [complete_eq hc]
    exact posts_setUnit (posts_postCompletion (posts_setUnit h) hk)

@[simp] theorem posts_withdrawStart (h : Posts ks s t) (hk : [.orderDone, .orderFailed] ⊆ ks) :
    Posts ks s (t.withdrawStart g) := by
  unfold State.withdrawStart
  split
  · split
    · exact posts_complete h hk
    · exact h
  · exact h

@[simp] theorem posts_enterSafe {e : EntryCause} (h : Posts ks s t)
    (hk : [.supState, .safe, .orderDone, .orderFailed] ⊆ ks) : Posts ks s (t.enterSafe e) := by
  have hs : EventKind.supState ∈ ks := hk (by decide)
  have hf : EventKind.safe ∈ ks := hk (by decide)
  have ho : [EventKind.orderDone, .orderFailed] ⊆ ks := fun _ hx => hk (List.mem_of_mem_drop (i := 2) hx)
  rw [enterSafe_eq]
  refine posts_setReg (posts_eachGroup ?_ fun _ _ => posts_withdrawStart (.refl _ _) ho)
  exact posts_post (posts_post (posts_setSup h) hs) hf

@[simp] theorem posts_safeIfAsserted (h : Posts ks s t) (hk : [.supState, .safe, .orderDone, .orderFailed] ⊆ ks) :
    Posts ks s t.safeIfAsserted := by
  unfold State.safeIfAsserted
  split
  · exact posts_enterSafe h hk
  · exact h

@[simp] theorem posts_readSafe {pin : Bool} (h : Posts ks s t)
    (hk : [.supState, .safe, .orderDone, .orderFailed] ⊆ ks) : Posts ks s (t.readSafe pin c) := by
  unfold State.readSafe
  extract_lets n
  split
  · exact posts_safeIfAsserted (posts_setSup h) hk
  · exact posts_setSup h

/-! ### The energy unit -/

@[simp] theorem posts_noteSaturation {x y : Account} (h : Posts ks s t) (hk : .energySaturated ∈ ks) :
    Posts ks s (t.noteSaturation n x y) := by
  unfold State.noteSaturation
  split <;> simp [h, hk]

@[simp] theorem posts_accrue (h : Posts ks s t) (hk : .energySaturated ∈ ks) : Posts ks s t.accrue := by
  unfold State.accrue State.addTariff State.addLifetime
  simp (maxDischargeDepth := 9) [h, hk]

@[simp] theorem posts_releaseLimiter {o : LimitCause} (h : Posts ks s t) (hk : .demandLimit ∈ ks) :
    Posts ks s (t.releaseLimiter o) := by
  unfold State.releaseLimiter State.setLimiter State.postLimit
  simp (maxDischargeDepth := 9) [h, hk]

@[simp] theorem posts_workTrim (h : Posts ks s t) (hk : [.demandVoltage, .demandUnavoidable] ⊆ ks) :
    Posts ks s t.workTrim := by
  have hv : EventKind.demandVoltage ∈ ks := hk (by decide)
  have hu : EventKind.demandUnavoidable ∈ ks := hk (by decide)
  unfold State.workTrim State.setLimiter
  dsimp only
  repeat' split
  all_goals simp (maxDischargeDepth := 9) [h, hv, hu]

@[simp] theorem posts_evalDemand (h : Posts ks s t) (hk : [.demandLimit, .demandVoltage, .demandUnavoidable] ⊆ ks) :
    Posts ks s t.evalDemand := by
  have hl : EventKind.demandLimit ∈ ks := hk (by decide)
  have ht : [EventKind.demandVoltage, .demandUnavoidable] ⊆ ks := fun _ hx => hk (List.mem_of_mem_drop (i := 1) hx)
  unfold State.evalDemand State.setLimiter State.markLimited State.postLimit
  dsimp only
  repeat' split
  all_goals simp (maxDischargeDepth := 9) only [h, hl, ht, posts_releaseLimiter, posts_workTrim, posts_setEnergy,
    posts_post]

@[simp] theorem posts_closeInterval (h : Posts ks s t) (hk : .demandLimit ∈ ks) : Posts ks s t.closeInterval := by
  unfold State.closeInterval
  simp (maxDischargeDepth := 9) [h, hk]

/-- The kinds that the energy unit posts at a line sample (R149, R150, R157, R158). -/
def energyKinds : List EventKind := [.energySaturated, .demandLimit, .demandVoltage, .demandUnavoidable]

theorem posts_energySample (s : State) (apart : Bool) : Posts energyKinds s (s.energySample apart) := by
  have due : ∀ u, Posts energyKinds u u.energyDue := by
    intro u
    unfold State.energyDue
    refine posts_when (Posts.trans (posts_when (.refl _ _) fun _ => posts_evalDemand (.refl _ _) (by decide))
      (.of_touches (l := [.energy]) ((touches_minuteEvaluation (by decide)).mpr (Touches.refl _ _)) (by decide)))
      fun _ => posts_closeInterval (.refl _ _) (by decide)
  exact posts_when (posts_accrue (.refl _ _) (by decide)) due

/-! ### The ceiling stack -/

@[simp] theorem posts_postStack {x : StackChange} {e : StackEntry} (h : Posts ks s t) (hk : .stackChange ∈ ks) :
    Posts ks s (t.postStack x e) := posts_post h hk

@[simp] theorem posts_pushEntry {x : Source} {r l : Option Nat} (h : Posts ks s t) (hk : .stackChange ∈ ks) :
    Posts ks s (t.pushEntry x v r l) := posts_postStack (posts_setStack h) hk

@[simp] theorem posts_removeEntry {f : StackEntry → Bool} {x : StackChange} (h : Posts ks s t)
    (hk : .stackChange ∈ ks) : Posts ks s (t.removeEntry f x) := by
  unfold State.removeEntry
  split <;> simp [h, hk]

@[simp] theorem posts_pushUtility (h : Posts ks s t) (hk : .stackChange ∈ ks) : Posts ks s t.pushUtility := by
  unfold State.pushUtility State.evictOldest
  split
  · exact h
  · refine posts_pushEntry ?_ hk
    dsimp only
    repeat' split
    all_goals simp [h, hk]

@[simp] theorem posts_readUtility {pin : Bool} (h : Posts ks s t) (hk : [.utility, .stackChange] ⊆ ks) :
    Posts ks s (t.readUtility pin c) := by
  have hu : EventKind.utility ∈ ks := hk (by decide)
  have hc : EventKind.stackChange ∈ ks := hk (by decide)
  unfold State.readUtility State.registerUtility
  dsimp only
  repeat' split
  all_goals simp (maxDischargeDepth := 9) [h, hu, hc]

@[simp] theorem posts_endSwitch {x : SwitchEnd} (h : Posts ks s t) (hk : [.stackChange, .switch] ⊆ ks) :
    Posts ks s (t.endSwitch x) := by
  have hc : EventKind.stackChange ∈ ks := hk (by decide)
  have hw : EventKind.switch ∈ ks := hk (by decide)
  unfold State.endSwitch State.postSwitch
  simp (maxDischargeDepth := 9) [h, hc, hw]

theorem posts_stackSample (s : State) (apart : Bool) : Posts [.stackChange, .switch] s (s.stackSample apart) := by
  have expire : ∀ u : State, Posts [.stackChange, .switch] u u.expireEntries := fun u => by
    unfold State.expireEntries
    simp
  have ready : ∀ u : State, Posts [.stackChange, .switch] u u.switchReadiness := fun u => by
    unfold State.switchReadiness State.postSwitch
    dsimp only
    repeat' split
    all_goals simp (maxDischargeDepth := 9)
  have timeout : ∀ u : State, Posts [.stackChange, .switch] u u.switchTimeout := fun u => by
    unfold State.switchTimeout
    dsimp only
    split
    · exact posts_endSwitch (.refl _ _) (by decide)
    · exact .refl _ _
  have tick : ∀ u : State, Posts [.stackChange, .switch] u u.tickSwitch := fun u =>
    .of_touches (l := [.stack]) ((touches_tickSwitch (by decide)).mpr (Touches.refl _ _)) (by decide)
  unfold State.stackSample
  exact posts_when (Posts.trans (Posts.trans (posts_when (posts_setStack (.refl _ _)) expire) (ready _)) (tick _))
    timeout

/-! ### Anode effects -/

theorem posts_aeSample (s : State) (apart : Bool) : Posts [.quenchRequest, .aeLong] s (s.aeSample apart) := by
  have quench : ∀ (u : State) p, Posts [.quenchRequest, .aeLong] u (u.quenchRequest p) := fun u p => by
    unfold State.quenchRequest
    dsimp only
    split <;> simp
  have long : ∀ (u : State) p, Posts [.quenchRequest, .aeLong] u (u.longAe p) := fun u p => by
    unfold State.longAe
    dsimp only
    split <;> simp
  refine posts_when (posts_setPots (.refl _ _)) fun u => ?_
  unfold State.aeDue
  exact posts_foldl (posts_foldl (.refl _ _) quench) long

@[simp] theorem posts_closeAe {e : EndCause} {x : AeState} (h : Posts ks s t) (hk : [.aeHold, .aeEnd] ⊆ ks) :
    Posts ks s (t.closeAe p e x) := by
  have hh : EventKind.aeHold ∈ ks := hk (by decide)
  have he : EventKind.aeEnd ∈ ks := hk (by decide)
  have hold : ∀ u : State, Posts ks u u.evalHold := fun u => by
    unfold State.evalHold
    dsimp only
    split
    · exact .refl _ _
    · simp [hh]
  unfold State.closeAe State.setAeFlag
  dsimp only
  exact posts_setPotAe (posts_post (posts_setPotAe (Posts.trans (posts_setAe (posts_setAe h)) (hold _))) he)

@[simp] theorem posts_aeLineReset (h : Posts ks s t) (hk : [.aeHold, .aeEnd] ⊆ ks) : Posts ks s t.aeLineReset :=
  posts_foldl h fun _ _ => posts_closeAe (.refl _ _) hk

@[simp] theorem posts_stackLineReset (h : Posts ks s t) (hk : [.switch, .stackChange] ⊆ ks) :
    Posts ks s t.stackLineReset := by
  have hc : EventKind.stackChange ∈ ks := hk (by decide)
  have hw : EventKind.switch ∈ ks := hk (by decide)
  unfold State.stackLineReset State.postSwitch
  dsimp only
  refine posts_when (posts_setStack (posts_when h fun u => ?_)) fun u => posts_pushUtility (.refl _ _) hc
  exact posts_post (posts_setSwitching (.refl _ _)) hw

/-! ### The loops -/

/-- The kinds that the evaluation of the loops posts (R73, R98, R138). -/
def loopKinds : List EventKind :=
  [.coolingSensor, .coolingState, .coolingStop, .orderDone, .orderFailed, .capacityLimit]

theorem posts_beginCoolingStop (s : State) (g : Group) : Posts loopKinds s (s.beginCoolingStop g) := by
  have place : ∀ u : State, Posts loopKinds u (u.placeCoolingStop g) := fun u => by
    unfold State.placeCoolingStop State.enterCoolingStop
    dsimp only
    repeat' split
    all_goals first
      | exact .refl _ _
      | exact posts_setUnit (.refl _ _)
      | exact posts_setUnit (posts_postCompletion (.refl _ _) (by decide))
  have begin_ : ∀ u : State, Posts loopKinds u (u.beginUnload g .cooling) := fun u =>
    .of_touches (l := [.cool]) ((touches_beginUnload (by decide)).mpr (Touches.refl _ _)) (by decide)
  unfold State.beginCoolingStop
  dsimp only
  exact posts_post (posts_when (posts_when (posts_setLoop (.refl _ _)) begin_) place) (by decide)

theorem posts_evalLoop (s : State) (apart : Bool) (g : Group) : Posts loopKinds s (s.evalLoop apart g) := by
  have sensor : ∀ u : State, Posts loopKinds u (u.evalSensor g) := fun u => by
    unfold State.evalSensor
    dsimp only
    split
    · exact posts_post (posts_setLoop (.refl _ _)) (by decide)
    · exact .refl _ _
  have coolState : ∀ u : State, Posts loopKinds u (u.evalCoolState g) := fun u => by
    unfold State.evalCoolState
    dsimp only
    split
    · exact .refl _ _
    · exact posts_post (posts_setLoop (.refl _ _)) (by decide)
  have state : ∀ u : State, Posts loopKinds u (u.evalState g) := fun u =>
    Posts.trans (.of_touches (l := [.cool]) (by simp) (by decide)) (coolState _)
  have dwell : ∀ (u : State) before, Posts loopKinds u (u.advanceDwell g before) := fun u before =>
    .of_touches (l := [.cool]) ((touches_advanceDwell (by decide)).mpr (Touches.refl _ _)) (by decide)
  have stop : ∀ u : State, Posts loopKinds u (u.evalStop apart g) := fun u => by
    unfold State.evalStop
    split
    · split
      · exact posts_setLeft (.refl _ _)
      · exact posts_beginCoolingStop u g
    · exact .refl _ _
  unfold State.evalLoop State.evalHead
  dsimp only
  split
  · split
    · exact posts_setLeft (posts_setLeft (.refl _ _))
    · exact Posts.trans (posts_setLeft (.refl _ _))
        ((sensor _).trans ((state _).trans ((dwell _ _).trans (stop _))))
  · exact .refl _ _

theorem posts_evalLoops (s : State) (apart : Bool) : Posts loopKinds s (s.evalLoops apart) := by
  unfold State.evalLoops State.withUnloadCycle
  dsimp only
  refine posts_when (posts_eachGroup (posts_eachGroup (.refl _ _) fun u g => posts_evalLoop u apart g) fun u g => ?_)
    fun _ => posts_outOfTurn (.refl _ _) (by decide)
  exact .of_touches (l := [.cool, .link]) ((touches_evalStageUnload (by decide)).mpr (Touches.refl _ _)) (by decide)

end

end Sys2Proof.Machine
end

section
/-! PROOFS. Entry to SAFE (O20; R3, R11 to R13, R98, R106, R107, R142). -/

open Sys2Proof Sys2Proof.Machine

namespace Sys2Proof.Machine

/-! ### The withdrawal of STARTs, group by group (R107) -/

/-- The command is a START that is not in flight (R107). -/
abbrev Command.Withdrawable (x : Command) : Prop := x.kind = .start ∧ x.state ≠ .sent

theorem withdrawStart_eq {s : State} {g : Group} {x : Command} (hc : (s.unit g).command = some x)
    (hw : x.Withdrawable) :
    s.withdrawStart g = ((s.setUnit g { s.unit g with command := none }).post .orderFailed g.num
      [beBytes 1 x.origin.code, beBytes 1 x.origin.tag, [2#8], beBytes 1 x.seq, [5#8], [0#8]]).setUnit g
        ((s.unit g).resolved (s.coolOf g).cap.unloading) := by
  have e : s.withdrawStart g = s.complete g .withdrawn 0 := by simp [State.withdrawStart, hc, hw]
  obtain ⟨hk, _⟩ := hw
  rw [e, complete_eq hc]
  simp only [State.postCompletion, hk, CmdKind.orderCode, Completion.code, beBytes_one]
  rfl

theorem withdrawStart_of_none {s : State} {g : Group} (hc : (s.unit g).command = none) : s.withdrawStart g = s := by
  simp [State.withdrawStart, hc]

theorem withdrawStart_of_not {s : State} {g : Group} {x : Command} (hc : (s.unit g).command = some x)
    (hw : ¬ x.Withdrawable) : s.withdrawStart g = s := by
  simp only [State.withdrawStart, hc, if_neg hw]

/-- The unit of a group once a START not in flight has been withdrawn (R98, R106, R107). -/
def State.withdrawnUnit (s : State) (g : Group) : GroupUnit :=
  match (s.unit g).command with
  | none => s.unit g
  | some x => if x.Withdrawable then (s.unit g).resolved (s.coolOf g).cap.unloading else s.unit g

theorem withdrawStart_unit_self (s : State) (g : Group) : (s.withdrawStart g).unit g = s.withdrawnUnit g := by
  unfold State.withdrawnUnit
  split
  · rw [withdrawStart_of_none ‹_›]
  · rename_i x hc
    split
    · rename_i hw
      rw [withdrawStart_eq hc hw, unit_setUnit_self]
    · rename_i hw
      rw [withdrawStart_of_not hc hw]

theorem withdrawStart_unit_ne (s : State) {g h : Group} (e : h ≠ g) : (s.withdrawStart g).unit h = s.unit h := by
  cases hc : (s.unit g).command with
  | none => rw [withdrawStart_of_none hc]
  | some x =>
    by_cases hw : x.Withdrawable
    · rw [withdrawStart_eq hc hw, unit_setUnit_ne _ _ e]
      exact unit_setUnit_ne _ _ e
    · rw [withdrawStart_of_not hc hw]

theorem withdrawStart_tells_ne {s : State} {g h : Group} (e : h ≠ g) {fields : List (List Byte)}
    (ht : s.Tells .orderFailed g.num fields) : (s.withdrawStart h).Tells .orderFailed g.num fields := by
  cases hc : (s.unit h).command with
  | none => rw [withdrawStart_of_none hc]; exact ht
  | some x =>
    by_cases hw : x.Withdrawable
    · rw [withdrawStart_eq hc hw]
      exact (tells_congr rfl).mpr (tells_post (k := .orderFailed) (n := g.num)
        ((tells_congr rfl).mpr ht) (.inr fun hn => e (Group.num_inj hn)))
    · rw [withdrawStart_of_not hc hw]; exact ht

/-! ### What entry to SAFE leaves -/

theorem enterSafe_unit (s : State) (cause : EntryCause) (g : Group) :
    (s.enterSafe cause).unit g = s.withdrawnUnit g := by
  rw [enterSafe_eq]
  refine eachGroup_view (view := State.unit) (l := [.link, .events]) (val := s.withdrawnUnit)
    (fun _ _ => (touches_withdrawStart (by decide)).mpr (Touches.refl _ _))
    (fun t g h hne => withdrawStart_unit_ne t hne) (fun t g ht hv => ?_) g
  have hu : t.unit g = s.unit g := hv
  have hc : t.coolOf g = s.coolOf g := coolOf_congr (ht.cool (by decide)) g
  rw [withdrawStart_unit_self]
  unfold State.withdrawnUnit
  rw [hu, hc]

theorem enterSafe_tells_withdrawn {s : State} {cause : EntryCause} {g : Group} {x : Command}
    (hc : (s.unit g).command = some x) (hw : x.Withdrawable) :
    (s.enterSafe cause).Tells .orderFailed g.num
      [beBytes 1 x.origin.code, beBytes 1 x.origin.tag, [2#8], beBytes 1 x.seq, [5#8], [0#8]] := by
  rw [enterSafe_eq]
  refine (tells_congr rfl).mpr ?_
  refine eachGroup_holds (view := State.unit) (l := [.link, .events])
    (Q := fun t => t.Tells .orderFailed g.num
      [beBytes 1 x.origin.code, beBytes 1 x.origin.tag, [2#8], beBytes 1 x.seq, [5#8], [0#8]])
    (fun _ _ => (touches_withdrawStart (by decide)).mpr (Touches.refl _ _))
    (fun t g h hne => withdrawStart_unit_ne t hne) (fun t _ hv => ?_)
    (fun t h hne ht => withdrawStart_tells_ne hne ht)
  have hct : (t.unit g).command = some x := by rw [hv]; exact hc
  rw [withdrawStart_eq hct hw]
  exact (tells_congr rfl).mpr tells_post_self

theorem enterSafe_tells (s : State) (cause : EntryCause) :
    (s.enterSafe cause).Tells .supState 0 [[3#8], beBytes 1 s.sup.state.code, beBytes 1 cause.code]
      ∧ (s.enterSafe cause).Tells .safe 0 [beBytes 1 cause.code] := by
  have hp : Posts [.orderDone, .orderFailed] (s.safeAnnounced cause) (s.enterSafe cause) := by
    rw [enterSafe_eq]
    exact posts_setReg (posts_eachGroup (.refl _ _) fun _ _ => posts_withdrawStart (.refl _ _) (by decide))
  have hsup : (s.safeAnnounced cause).Tells .supState 0
      [[3#8], beBytes 1 s.sup.state.code, beBytes 1 cause.code] := tells_post tells_post_self (.inl nofun)
  exact ⟨hp.tells (by decide) hsup, hp.tells (by decide) tells_post_self⟩

theorem enterSafe_bus (s : State) (cause : EntryCause) : (s.enterSafe cause).link.bus = s.link.bus := by
  have key : ∀ (xs : List Group) (t : State), (xs.foldl State.withdrawStart t).link.bus = t.link.bus := by
    intro xs
    induction xs with
    | nil => intro t; rfl
    | cons g xs ih =>
      intro t
      rw [List.foldl_cons, ih]
      cases hc : (t.unit g).command with
      | none => rw [withdrawStart_of_none hc]
      | some x =>
        by_cases hw : x.Withdrawable
        · rw [withdrawStart_eq hc hw]; rfl
        · rw [withdrawStart_of_not hc hw]
  rw [enterSafe_eq]
  exact key Group.all (s.safeAnnounced cause)

/-! ### The two events that enter SAFE -/

theorem registerSafe_asserted {s : State} (h : s.sup.state ≠ .safe) :
    s.registerSafe true = (s.setSup { s.sup with safeLevel := true, safeRun := 0 }).enterSafe .safeInput := by
  simp [State.registerSafe, State.safeIfAsserted, h]

theorem registerSafe_deasserted (s : State) :
    s.registerSafe false = s.setSup { s.sup with safeLevel := false, safeRun := 0 } := by
  simp [State.registerSafe, State.safeIfAsserted]

theorem registerSafe_in_safe {s : State} (h : s.sup.state = .safe) (level : Bool) :
    s.registerSafe level = s.setSup { s.sup with safeLevel := level, safeRun := 0 } := by
  simp [State.registerSafe, State.safeIfAsserted, h]

theorem exec_safeInputEvent (level : Bool) (s : State) :
    exec (.safeInputEvent level) s = .next (if s.safeDue level then s.registerSafe level else s) := rfl

theorem exec_groupLossTimeout (s : State) :
    exec .groupLossTimeout s = .next (if s.regulating && s.lossDue then s.enterSafe .noGroup else s) := rfl

/-- Each event that enters SAFE enters it from a state whose supervisor record alone can differ, in the registered
level. -/
theorem exec_entersSafe {s : State} {cause : EntryCause} {c : Instr}
    (h : c = .safeInputEvent true ∧ cause = .safeInput ∧ s.sup.safeLevel = false ∧ 2 ≤ s.sup.safeRun
        ∧ s.sup.state ≠ .safe
      ∨ c = .groupLossTimeout ∧ cause = .noGroup ∧ (∃ start, s.sup.lossTimer = some start ∧ start + 50 ≤ s.ticks)
        ∧ (s.sup.state = .run ∨ s.sup.state = .hold)) :
    ∃ level run, exec c s = .next ((s.setSup { s.sup with safeLevel := level, safeRun := run }).enterSafe cause)
      ∧ (level = true ↔ s.sup.safeLevel = true ∨ cause = .safeInput) := by
  rcases h with ⟨rfl, rfl, hlevel, hrun, hstate⟩ | ⟨rfl, rfl, htimer, hstate⟩
  · refine ⟨true, 0, ?_, by simp⟩
    rw [exec_safeInputEvent, if_pos (safeDue_iff.mpr ⟨by simp [hlevel], hrun⟩), registerSafe_asserted hstate]
  · refine ⟨s.sup.safeLevel, s.sup.safeRun, ?_, by simp⟩
    rw [exec_groupLossTimeout, if_pos (by rw [regulating_iff.mpr hstate, lossDue_iff.mpr htimer]; rfl)]
    rfl

end Sys2Proof.Machine

/-- Settles O20: the withdrawals of entry to SAFE are followed group by group, and the events that do not enter it
are the branches of their own tests. -/
theorem entryToSafeGivesUpControl : Obligations.EntryToSafeGivesUpControl := by
  unfold Obligations.EntryToSafeGivesUpControl
  refine ⟨fun s cause c h => ?_, fun s => ⟨fun hl hr => ?_, fun hl hr hs => ?_, fun level hd => ?_, fun hn => ?_,
    fun start hl ht => ?_, fun hs => ?_⟩⟩
  · obtain ⟨level, run, he, hlevel⟩ := exec_entersSafe h
    refine ⟨_, he, (touches_enterSafe (by decide)).mpr ((touches_setSup (by decide)).mpr (Touches.refl _ _)), ?_, ?_,
      ?_, ?_, ?_, ?_, ?_, fun g => ?_, ?_, ?_⟩
    · rw [enterSafe_sup]
    · rw [enterSafe_sup]
    · rw [enterSafe_sup]
    · rw [enterSafe_sup]; rfl
    · rw [enterSafe_sup]; exact hlevel
    · rw [enterSafe_reg]; rfl
    · rw [enterSafe_bus]; rfl
    · have hu := enterSafe_unit (s.setSup { s.sup with safeLevel := level, safeRun := run }) cause g
      have htells := fun x => enterSafe_tells_withdrawn (cause := cause) (g := g) (x := x)
        (s := s.setSup { s.sup with safeLevel := level, safeRun := run })
      unfold State.withdrawnUnit at hu
      have hunit : (s.setSup { s.sup with safeLevel := level, safeRun := run }).unit g = s.unit g := rfl
      rw [hunit] at hu htells
      split <;> rename_i hc
      · rw [hc] at hu
        exact hu
      · rename_i x
        rw [hc] at hu
        dsimp only at hu
        split
        · rename_i hw
          rw [if_pos hw] at hu
          exact ⟨hu, htells x hc hw⟩
        · rename_i hw
          rw [if_neg hw] at hu
          exact hu
    · exact (enterSafe_tells _ cause).1
    · exact (enterSafe_tells _ cause).2
  · rw [exec_safeInputEvent, if_pos (safeDue_iff.mpr ⟨by simp [hl], hr⟩), registerSafe_deasserted]
  · rw [exec_safeInputEvent, if_pos (safeDue_iff.mpr ⟨by simp [hl], hr⟩), registerSafe_in_safe hs]
  · rw [exec_safeInputEvent, if_neg]
    rw [safeDue_iff]
    rintro ⟨hne, hrun⟩
    rcases hd with hd | hd
    · exact hne hd
    · omega
  · rw [exec_groupLossTimeout, if_neg]
    simp [State.lossDue, hn]
  · rw [exec_groupLossTimeout, if_neg]
    simp [State.lossDue, hl, ht]
  · rw [exec_groupLossTimeout, if_neg]
    rcases hs with hs | hs <;> simp [State.regulating, hs]
end

section
/-! PROOFS. Trip inputs, and the notices that follow a change of allocatability (O38; R13, R80, R82, R85, R90, R91,
R130). -/

open Sys2Proof Sys2Proof.Machine

namespace Sys2Proof.Machine

/-! ### The shares that a cycle writes (R139, R140) -/

theorem allocate_groups (s : State) (amount capacity : Nat) :
    (s.allocate amount capacity).map (·.1) = Group.all.filter s.allocatable := by
  unfold State.allocate
  dsimp only
  split
  · simp [Function.comp_def]
  · rw [giveOut_groups]
    simp [Function.comp_def]

theorem writeShare_unit_self (s : State) (g : Group) (v : Nat) :
    (s.writeShare g v).unit g = { s.unit g with share := (s.unit g).share.write v } := unit_setUnit_self _ _ _

theorem writeShare_unit_ne (s : State) {g h : Group} (v : Nat) (e : h ≠ g) : (s.writeShare g v).unit h = s.unit h :=
  unit_setUnit_ne _ _ e

theorem ValueSlot.write_desired (x : ValueSlot) (v : Nat) : (x.write v).desired = v := by
  unfold ValueSlot.write
  split
  · exact Eq.symm ‹_›
  · rfl

/-- The writes of the share slots leave everything else of a unit. -/
theorem writeShares_unit (xs : List (Group × Nat)) (s : State) (g : Group) :
    ∃ x, (xs.foldl (fun s x => s.writeShare x.1 x.2) s).unit g = { s.unit g with share := x } := by
  induction xs generalizing s with
  | nil => exact ⟨_, rfl⟩
  | cons y ys ih =>
    obtain ⟨x, hx⟩ := ih (s.writeShare y.1 y.2)
    refine ⟨x, ?_⟩
    rw [List.foldl_cons, hx]
    by_cases hg : g = y.1
    · subst hg
      rw [writeShare_unit_self]
    · rw [writeShare_unit_ne _ _ hg]

theorem writeShares_unit_of_not_mem {xs : List (Group × Nat)} (s : State) {g : Group} (hg : g ∉ xs.map (·.1)) :
    (xs.foldl (fun s x => s.writeShare x.1 x.2) s).unit g = s.unit g := by
  induction xs generalizing s with
  | nil => rfl
  | cons y ys ih =>
    rw [List.map_cons] at hg
    obtain ⟨hy, hys⟩ := List.ne_and_not_mem_of_not_mem_cons hg
    rw [List.foldl_cons, ih _ hys, writeShare_unit_ne _ _ hy]

theorem sharesRecorded_of_not_mem {xs : List (Group × Nat)} (v : Six (Option Nat)) {g : Group}
    (hg : g ∉ xs.map (·.1)) : (xs.foldl (fun v x => v.set x.1 (some x.2)) v).get g = v.get g := by
  induction xs generalizing v with
  | nil => rfl
  | cons y ys ih =>
    rw [List.map_cons] at hg
    obtain ⟨hy, hys⟩ := List.ne_and_not_mem_of_not_mem_cons hg
    rw [List.foldl_cons, ih _ hys, Six.get_set_ne _ _ hy]

/-- The regulator records for each group the share that stands as desired in its slot (R139, R140). -/
theorem sharesRecorded_get {xs : List (Group × Nat)} (hnd : (xs.map (·.1)).Nodup) (v : Six (Option Nat)) (s : State)
    (g : Group) :
    (xs.foldl (fun v x => v.set x.1 (some x.2)) v).get g
      = if g ∈ xs.map (·.1) then
          some ((xs.foldl (fun s x => s.writeShare x.1 x.2) s).unit g).share.desired
        else v.get g := by
  induction xs generalizing v s with
  | nil => rfl
  | cons y ys ih =>
    rw [List.map_cons] at hnd
    obtain ⟨hy, hnd⟩ := List.nodup_cons.mp hnd
    by_cases hg : g = y.1
    · subst hg
      rw [if_pos (by simp), List.foldl_cons, List.foldl_cons, sharesRecorded_of_not_mem _ hy,
        writeShares_unit_of_not_mem _ hy, Six.get_set_self, writeShare_unit_self]
      dsimp only
      rw [ValueSlot.write_desired]
    · rw [List.foldl_cons, List.foldl_cons, ih hnd _ (s.writeShare y.1 y.2), Six.get_set_ne _ _ hg]
      simp only [List.map_cons, List.mem_cons, hg, false_or]

/-! ### An out-of-turn cycle (R130, R136) -/

theorem setTarget_unit (s : State) (periodic : Bool) (g : Group) :
    ∃ x, (s.setTarget periodic).unit g = { s.unit g with share := x } := by
  obtain ⟨x, hx⟩ := writeShares_unit (s.cycleShares periodic)
    ((s.cycleReported periodic).setReg (s.cycleRecord periodic)) g
  refine ⟨x, ?_⟩
  rw [setTarget_eq, hx]
  have hl : ((s.cycleReported periodic).setReg (s.cycleRecord periodic)).link = s.link :=
    touches_cycleReported.link (by decide)
  rw [unit_congr hl]

theorem setTarget_shares (s : State) (periodic : Bool) (g : Group) :
    (s.setTarget periodic).reg.shares.get g
      = if s.allocatable g then some ((s.setTarget periodic).unit g).share.desired else none := by
  have hgroups : (s.cycleShares periodic).map (·.1) = Group.all.filter s.allocatable := allocate_groups s _ _
  have hnd : ((s.cycleShares periodic).map (·.1)).Nodup := by
    rw [hgroups]
    exact List.Nodup.filter _ (by decide)
  rw [setTarget_reg, setTarget_eq]
  unfold State.cycleRecord
  dsimp only
  rw [sharesRecorded_get hnd _ ((s.cycleReported periodic).setReg (s.cycleRecord periodic)), hgroups, Six.get_const]
  simp only [List.mem_filter, g.mem_all, true_and]
  rfl

/-- A cycle out of turn leaves the target before the clamp where it stood (R136). -/
theorem cycleTarget_outOfTurn (s : State) :
    s.cycleTarget false = min s.reg.previous (s.sumAllocation + s.sumFrozen) := by
  unfold State.cycleTarget State.newTarget
  split <;> rfl

theorem newTarget_outOfTurn_step (s : State) (d : Nat) (gov : Governing) :
    (s.newTarget false d gov).step = if s.sup.state = .hold then .heldState else .none := by
  unfold State.newTarget
  split <;> rfl

/-- The allocation capacity of a group, as R82 and R137 put it together. -/
theorem allocTerm_eq (s : State) (g : Group) :
    (if s.allocatable g then s.allocCapacity g else 0)
      = if s.allocatable g ∧ s.holdsStop g = false ∧ (s.coolOf g).cap.unloading = false then
          min (s.coolOf g).cap.capacity (s.coolOf g).cap.credit
        else 0 := by
  unfold State.allocCapacity State.effective
  by_cases hg : s.allocatable g = true ∧ s.holdsStop g = false ∧ (s.coolOf g).cap.unloading = false
  · obtain ⟨ha, hs, hu⟩ := hg
    simp [ha, hs, hu]
  · rw [if_neg hg]
    split
    · rename_i ha
      split
      · rfl
      · rename_i hs
        exact if_neg fun hu => hg ⟨ha, by simpa using hs, by simpa [ha] using hu⟩
    · rfl

/-! ### The notices of a change (R91) -/

theorem carriage_ne (s u : State) :
    (u.carriage != s.carriage)
      = Group.all.any fun g => u.allocatable g != s.allocatable g || u.frozen g != s.frozen g := by
  rw [Bool.eq_iff_iff]
  have hsix : ∀ f k : Group → Bool, Six.ofFn f = Six.ofFn k ↔ ∀ g, f g = k g := by
    intro f k
    refine ⟨fun h g => ?_, fun h => congrArg Six.ofFn (funext h)⟩
    rw [← Six.get_ofFn f, h, Six.get_ofFn]
  simp only [bne_iff_ne, Ne, State.carriage, Carriage.mk.injEq, hsix, List.any_eq_true, Group.mem_all, true_and,
    Bool.or_eq_true, not_and_or, not_forall, exists_or]

theorem aligned_coolOf (s : State) (before : Six Bool) (g : Group) :
    (s.aligned before).coolOf g
      = if s.allocatable g = before.get g then s.coolOf g else { s.coolOf g with cap := s.alignedCap g } := by
  refine eachGroup_view (view := State.coolOf) (l := [.cool])
    (val := fun g => if s.allocatable g = before.get g then s.coolOf g else { s.coolOf g with cap := s.alignedCap g })
    (fun _ _ => (touches_alignIfChanged (by decide)).mpr (Touches.refl _ _)) (fun t g h hne => ?_)
    (fun t g ht hv => ?_) g
  · unfold State.alignIfChanged
    split
    · rfl
    · rw [alignCredit_eq, coolOf_setCap_ne _ hne]
  · have ha := allocatable_of_touches_cool ht g
    unfold State.alignIfChanged
    rw [ha]
    split
    · exact hv
    · rw [alignCredit_eq, coolOf_setCap_self]
      unfold State.alignedCap
      rw [hv, ha, chan_congr (ht.front (by decide))]

theorem settled_coolOf (s : State) (before : Carriage) (g : Group) :
    (s.settled before).coolOf g = (s.aligned before.alloc).coolOf g :=
  coolOf_congr (Touches.cool (l := [.sup])
    ((touches_when fun _ => (touches_evalLossTimer (by decide)).mpr (Touches.refl _ _)).mpr (Touches.refl _ _))
    (by decide)) g

theorem touches_outOfTurn_setTarget {s : State} : Touches [.energy, .events, .reg, .link] s s.outOfTurn := by
  cases h : s.regulating
  · rw [outOfTurn_of_not_regulating h]; exact Touches.refl _ _
  · rw [outOfTurn_of_regulating h]; exact (touches_setTarget (by decide)).mpr (Touches.refl _ _)

theorem touches_notice_cycle {s : State} {before : Carriage} {cause : Bool} :
    Touches [.energy, .events, .reg, .link] (s.settled before) (s.notice before cause) := by
  rw [notice_eq]
  exact (touches_when fun _ => touches_outOfTurn_setTarget).mpr (Touches.refl _ _)

theorem notice_coolOf (s : State) (before : Carriage) (cause : Bool) (g : Group) :
    (s.notice before cause).coolOf g
      = if s.allocatable g = before.alloc.get g then s.coolOf g
        else { s.coolOf g with cap := s.alignedCap g } := by
  rw [coolOf_congr (touches_notice_cycle.cool (by decide)), settled_coolOf, aligned_coolOf]

theorem notice_unit (s : State) (before : Carriage) (cause : Bool) (g : Group) :
    ∃ x, (s.notice before cause).unit g = { s.unit g with share := x } := by
  have hs : (s.settled before).unit g = s.unit g := unit_congr (touches_settled.link (by decide)) g
  rw [notice_eq]
  unfold State.when
  split
  · cases hr : (s.settled before).regulating
    · rw [outOfTurn_of_not_regulating hr]
      exact ⟨_, hs⟩
    · rw [outOfTurn_of_regulating hr, ← hs]
      exact setTarget_unit _ _ _
  · exact ⟨_, hs⟩

theorem notice_record (s : State) (before : Carriage) (cause : Bool) (g : Group) :
    ((s.notice before cause).unit g).record = (s.unit g).record := by
  obtain ⟨x, hx⟩ := notice_unit s before cause g
  rw [hx]

theorem notice_command (s : State) (before : Carriage) (cause : Bool) (g : Group) :
    ((s.notice before cause).unit g).command = (s.unit g).command := by
  obtain ⟨x, hx⟩ := notice_unit s before cause g
  rw [hx]

/-- A cycle out of turn, said of the state after it (R130, R136 to R140). -/
theorem outOfTurn_spec {s : State} (h : s.regulating = true) :
    let t := s.outOfTurn
    t.reg.capacityC = (Group.all.map fun g =>
        if t.allocatable g ∧ t.holdsStop g = false ∧ (t.coolOf g).cap.unloading = false then
          min (t.coolOf g).cap.capacity (t.coolOf g).cap.credit
        else 0).sum
      ∧ t.reg.frozenZ = (Group.all.map fun g =>
        if t.frozen g then
          if (s.chan (gcChan g)).valid then (s.chan (gcChan g)).value.toNat else (t.unit g).record.ackShare
        else 0).sum
      ∧ t.reg.applied = min s.reg.previous (t.reg.capacityC + t.reg.frozenZ) ∧ t.reg.previous = t.reg.applied
      ∧ t.reg.lastStep = (if s.sup.state = .hold then .heldState else .none)
      ∧ ∀ g, t.reg.shares.get g = if t.allocatable g then some (t.unit g).share.desired else none := by
  rw [outOfTurn_of_regulating h]
  intro t
  have ht : Touches [.energy, .events, .reg, .link] s t := (touches_setTarget (by decide)).mpr (Touches.refl _ _)
  have hunit : ∀ g, (t.unit g).record = (s.unit g).record ∧ (t.unit g).command = (s.unit g).command := by
    intro g
    obtain ⟨x, hx⟩ := setTarget_unit s false g
    rw [hx]
    exact ⟨rfl, rfl⟩
  have halloc : ∀ g, t.allocatable g = s.allocatable g :=
    fun g => allocatable_congr (ht.settings (by decide)) (hunit g).1
  have hfrozen : ∀ g, t.frozen g = s.frozen g := fun g => frozen_congr (ht.settings (by decide)) (hunit g).1
  have hstop : ∀ g, t.holdsStop g = s.holdsStop g := fun g => by simp only [State.holdsStop, (hunit g).2]
  have hcool : ∀ g, t.coolOf g = s.coolOf g := coolOf_congr (ht.cool (by decide))
  have hreg : t.reg = s.cycleRecord false := setTarget_reg s false
  have hC : t.reg.capacityC = s.sumAllocation := by rw [hreg]; rfl
  have hZ : t.reg.frozenZ = s.sumFrozen := by rw [hreg]; rfl
  have hA : t.reg.applied = s.cycleTarget false := by rw [hreg]; rfl
  refine ⟨?_, ?_, ?_, ?_, ?_, fun g => ?_⟩
  · rw [hC]
    unfold State.sumAllocation groupSum
    simp only [allocTerm_eq, halloc, hstop, hcool]
  · rw [hZ]
    unfold State.sumFrozen groupSum State.frozenCurrent
    simp only [hfrozen, (hunit _).1]
  · rw [hA, hC, hZ, cycleTarget_outOfTurn]
  · rw [hreg]; rfl
  · rw [hreg, ← newTarget_outOfTurn_step s s.desiredTarget (s.governingTerm s.desiredTarget)]; rfl
  · rw [halloc]
    exact setTarget_shares s false g

/-- What the notices of R91 tell, when the event has changed the link, the pins and the loops only, and of the loops'
records no capacity and no join credit. -/
theorem notice_told {s u : State} {cause : Bool} (ht : Touches [.link, .pins, .events, .cool] s u)
    (hcap : ∀ g, (u.coolOf g).cap.capacity = (s.coolOf g).cap.capacity
      ∧ (u.coolOf g).cap.credit = (s.coolOf g).cap.credit) :
    s.CarriageTold (u.notice s.carriage cause) cause := by
  unfold State.CarriageTold
  extract_lets changed regulates carried capacity frozen
  have hset : (u.notice s.carriage cause).settings = u.settings := by
    rw [touches_notice_cycle.settings (by decide), touches_settled.settings (by decide)]
  have hrec := notice_record u s.carriage cause
  have halloc : ∀ g, (u.notice s.carriage cause).allocatable g = u.allocatable g :=
    fun g => allocatable_congr hset (hrec g)
  have hfrozen : ∀ g, (u.notice s.carriage cause).frozen g = u.frozen g := fun g => frozen_congr hset (hrec g)
  have hchanged : changed = (u.carriage != s.carriage) := by
    rw [carriage_ne]
    simp only [changed, halloc, hfrozen]
  have hregulates : regulates = u.regulating := by
    rw [regulating_congr (ht.sup (by decide)), Bool.eq_iff_iff, regulating_iff]
    simp [regulates]
  have hcarried : carried = u.anyCarrier := by
    simp only [carried, halloc, hfrozen]
    rfl
  have hbefore : ∀ g, s.carriage.alloc.get g = s.allocatable g := fun g => Six.get_ofFn _ _
  refine ⟨fun g => ?_, ?_, fun hrun => ?_, fun hstill => ?_⟩
  · rw [notice_coolOf, halloc, hbefore]
    split
    · exact (hcap g).2
    · unfold State.alignedCap
      dsimp only
      rw [(hcap g).1, chan_congr (ht.front (by decide))]
  · rw [notice_sup, settled_sup, hregulates, hchanged, hcarried, ht.sup (by decide), ht.ticks (by decide)]
  · rw [hregulates, hchanged] at hrun
    obtain ⟨hreg, hcause⟩ := Bool.and_eq_true_iff.mp hrun
    have hsettled : (u.settled s.carriage).regulating = true := by
      rw [← hreg]
      unfold State.regulating
      rw [settled_sup]
    have e : u.notice s.carriage cause = (u.settled s.carriage).outOfTurn := by
      rw [notice_eq, hcause]
      rfl
    have hfront : (u.settled s.carriage).front = s.front := by
      rw [touches_settled.front (by decide), ht.front (by decide)]
    have hprev : (u.settled s.carriage).reg = s.reg := by
      rw [touches_settled.reg (by decide), ht.reg (by decide)]
    have hstate : (u.settled s.carriage).sup.state = s.sup.state := by
      rw [settled_sup, ht.sup (by decide)]
    have hspec := outOfTurn_spec hsettled
    simp only [← e, chan_congr hfront, hprev, hstate] at hspec
    obtain ⟨hC, hZ, hA, hP, hS, hG⟩ := hspec
    exact ⟨hC, hZ, hA.trans (by rw [hC, hZ]), hP, hS, hG⟩
  · rw [hregulates, hchanged] at hstill
    have hreg : (u.settled s.carriage).reg = s.reg ∧ (u.settled s.carriage).energy = s.energy :=
      ⟨by rw [touches_settled.reg (by decide), ht.reg (by decide)],
        by rw [touches_settled.energy (by decide), ht.energy (by decide)]⟩
    have e : u.notice s.carriage cause = u.settled s.carriage := by
      cases hr : u.regulating
      · have hsr : (u.settled s.carriage).regulating = false := by
          rw [← hr]
          unfold State.regulating
          rw [settled_sup]
        rw [notice_eq]
        unfold State.when
        split
        · exact outOfTurn_of_not_regulating hsr
        · rfl
      · rw [hr, Bool.true_and] at hstill
        rw [notice_eq, hstill]
        rfl
    rw [e]
    exact hreg

end Sys2Proof.Machine
end

section
/-! PROOFS. The trip inputs (O38; R85, R90, R97, R108). -/

open Sys2Proof Sys2Proof.Machine

namespace Sys2Proof.Machine

/-! ### The end of an unloading (R84, R85, R97) -/

theorem releaseStop_unit_self (s : State) (g : Group) :
    (s.releaseStop g).unit g = { s.unit g with command := (s.unit g).command.map fun x => x.released True } := by
  unfold State.releaseStop
  dsimp only
  generalize hu : s.unit g = u
  obtain ⟨record, command, resetFlag, coolPending, share, stage, senseTimer⟩ := u
  cases command with
  | none => exact hu
  | some x =>
    by_cases hk : x.kind = .stop
    · simp [Command.released, hk]
    · simp [Command.released, hk, hu]

theorem releaseStop_unit_ne (s : State) {g h : Group} (e : h ≠ g) : (s.releaseStop g).unit h = s.unit h := by
  unfold State.releaseStop
  dsimp only
  split
  · split
    · exact unit_setUnit_ne _ _ e
    · rfl
  · rfl

/-- The capacity record once an unloading in progress has ended (R84, R85). -/
def CapRecord.ended (c : CapRecord) (cause : UnloadEnd) : CapRecord :=
  if c.unloading then { c with unloading := false, lastEnd := cause } else c

@[simp] theorem CapRecord.ended_unloading (c : CapRecord) (cause : UnloadEnd) : (c.ended cause).unloading = false := by
  unfold CapRecord.ended
  split
  · rfl
  · exact Bool.eq_false_iff.mpr ‹_›

@[simp] theorem CapRecord.ended_capacity (c : CapRecord) (cause : UnloadEnd) :
    (c.ended cause).capacity = c.capacity := by
  unfold CapRecord.ended; split <;> rfl

@[simp] theorem CapRecord.ended_credit (c : CapRecord) (cause : UnloadEnd) : (c.ended cause).credit = c.credit := by
  unfold CapRecord.ended; split <;> rfl

theorem touches_releaseStop_self (s : State) (g : Group) : Touches [.link] s (s.releaseStop g) :=
  (touches_releaseStop (by decide)).mpr (Touches.refl _ _)

theorem endUnload_coolOf_self (s : State) (g : Group) (cause : UnloadEnd) :
    (s.endUnload g cause).coolOf g = { s.coolOf g with cap := (s.coolOf g).cap.ended cause } := by
  unfold State.endUnload CapRecord.ended
  dsimp only
  split
  · rw [coolOf_congr ((touches_releaseStop_self _ g).cool (by decide)), coolOf_setCap_self]
  · rfl

theorem endUnload_coolOf_ne (s : State) {g h : Group} (cause : UnloadEnd) (e : h ≠ g) :
    (s.endUnload g cause).coolOf h = s.coolOf h := by
  unfold State.endUnload
  dsimp only
  split
  · rw [coolOf_congr ((touches_releaseStop_self _ g).cool (by decide)), coolOf_setCap_ne _ e]
  · rfl

/-- The end of an unloading releases the STOP that waits on it (R97). -/
theorem endUnload_unit_self (s : State) (g : Group) (cause : UnloadEnd) :
    (s.endUnload g cause).unit g = { s.unit g with
      command := (s.unit g).command.map fun x => x.released ((s.coolOf g).cap.unloading = true) } := by
  unfold State.endUnload
  dsimp only
  split
  · rename_i h
    rw [releaseStop_unit_self]
    simp only [h]
    rfl
  · rename_i h
    simp [Command.released, h]

theorem endUnload_unit_ne (s : State) {g h : Group} (cause : UnloadEnd) (e : h ≠ g) :
    (s.endUnload g cause).unit h = s.unit h := by
  unfold State.endUnload
  dsimp only
  split
  · rw [releaseStop_unit_ne _ e]
    rfl
  · rfl

/-! ### A trip input event (R90) -/

/-- The registered level of a trip input replaced, in the record and at the pin (R90). -/
def State.tripRegistered (s : State) (g : Group) (level : Bool) : State :=
  (s.setRecord g { (s.unit g).record with trip := level }).setPins { s.pins with trip := s.pins.trip.set g level }

theorem tripRegistered_unit_self (s : State) (g : Group) (level : Bool) :
    (s.tripRegistered g level).unit g = { s.unit g with record := { (s.unit g).record with trip := level } } :=
  unit_setUnit_self _ _ _

theorem tripRegistered_unit_ne (s : State) {g h : Group} (level : Bool) (e : h ≠ g) :
    (s.tripRegistered g level).unit h = s.unit h := unit_setUnit_ne _ _ e

theorem touches_tripRegistered {s : State} {g : Group} {level : Bool} :
    Touches [.link, .pins] s (s.tripRegistered g level) := by
  unfold State.tripRegistered
  simp

/-- GROUP_TRIP posted for the level registered (R108). -/
def State.tripPosted (s : State) (g : Group) (level : Bool) : State :=
  (s.tripRegistered g level).post .groupTrip g.num [[1#8], flagByte level]

/-- The event told of, and an unloading cancelled by an asserted input, before the notices (R85, R90, R108). -/
def State.tripTold (s : State) (g : Group) (level : Bool) : State :=
  (s.tripPosted g level).when level fun t => t.endUnload g .trip

theorem tripPosted_unit_self (s : State) (g : Group) (level : Bool) :
    (s.tripPosted g level).unit g = { s.unit g with record := { (s.unit g).record with trip := level } } :=
  tripRegistered_unit_self s g level

theorem tripEvent_of_same {s : State} {g : Group} {level : Bool} (h : level = (s.unit g).record.trip) :
    s.tripEvent g level = s := by
  simp [State.tripEvent, h]

theorem tripEvent_of_unfitted {s : State} {g : Group} {level : Bool} (h : level ≠ (s.unit g).record.trip)
    (hf : s.fitted g = false) : s.tripEvent g level = s.tripRegistered g level := by
  have hf' : (s.tripRegistered g level).fitted g = false := hf
  unfold State.tripRegistered at hf' ⊢
  simp [State.tripEvent, h, hf']

theorem tripEvent_of_fitted {s : State} {g : Group} {level : Bool} (h : level ≠ (s.unit g).record.trip)
    (hf : s.fitted g = true) : s.tripEvent g level = (s.tripTold g level).notice s.carriage true := by
  have hf' : (s.tripRegistered g level).fitted g = true := hf
  unfold State.tripTold State.tripPosted
  unfold State.tripRegistered at hf' ⊢
  simp [State.tripEvent, h, hf']

theorem touches_tripTold_posted {s : State} {g : Group} {level : Bool} :
    Touches [.cool, .link] (s.tripPosted g level) (s.tripTold g level) :=
  (touches_when fun _ => (touches_endUnload (by decide)).mpr (Touches.refl _ _)).mpr (Touches.refl _ _)

theorem touches_tripTold {s : State} {g : Group} {level : Bool} :
    Touches [.link, .pins, .events, .cool] s (s.tripTold g level) := by
  refine Touches.trans ?_ (touches_tripTold_posted.mono (by decide))
  exact (touches_post (by decide)).mpr (touches_tripRegistered.mono (by decide))

theorem tripTold_tells (s : State) (g : Group) (level : Bool) :
    (s.tripTold g level).Tells .groupTrip g.num [[1#8], flagByte level] :=
  (Posts.of_touches (ks := []) touches_tripTold_posted (by decide)).tells List.not_mem_nil tells_post_self

theorem tripTold_record (s : State) (g : Group) (level : Bool) :
    ((s.tripTold g level).unit g).record = { (s.unit g).record with trip := level } := by
  have hself := congrArg GroupUnit.record (tripPosted_unit_self s g level)
  cases level
  · exact hself
  · exact (congrArg GroupUnit.record (endUnload_unit_self (s.tripPosted g true) g .trip)).trans hself

theorem tripTold_unit_ne (s : State) {g h : Group} (level : Bool) (e : h ≠ g) :
    (s.tripTold g level).unit h = s.unit h := by
  have hne : (s.tripPosted g level).unit h = s.unit h := tripRegistered_unit_ne s level e
  cases level
  · exact hne
  · exact (endUnload_unit_ne (s.tripPosted g true) .trip e).trans hne

/-- An asserted input ends the unloading of its group (R85). -/
theorem tripTold_cap (s : State) (g : Group) : ((s.tripTold g true).coolOf g).cap = (s.coolOf g).cap.ended .trip :=
  congrArg Cooling.cap (endUnload_coolOf_self (s.tripPosted g true) g .trip)

theorem tripTold_command (s : State) (g : Group) :
    ((s.tripTold g true).unit g).command
      = (s.unit g).command.map fun x => x.released ((s.coolOf g).cap.unloading = true) := by
  have hself : ((s.tripPosted g true).unit g).command = (s.unit g).command := by rw [tripPosted_unit_self]
  refine (congrArg GroupUnit.command (endUnload_unit_self (s.tripPosted g true) g .trip)).trans ?_
  dsimp only
  rw [hself]
  rfl

/-- No trip input event changes a capacity or a join credit of itself (R85). -/
theorem tripTold_capacity (s : State) (g : Group) (level : Bool) (h : Group) :
    ((s.tripTold g level).coolOf h).cap.capacity = (s.coolOf h).cap.capacity
      ∧ ((s.tripTold g level).coolOf h).cap.credit = (s.coolOf h).cap.credit := by
  cases level
  · exact ⟨rfl, rfl⟩
  · by_cases e : h = g
    · subst e
      rw [tripTold_cap]
      simp
    · have : (s.tripTold g true).coolOf h = s.coolOf h := endUnload_coolOf_ne (s.tripPosted g true) .trip e
      rw [this]
      exact ⟨rfl, rfl⟩

/-- The notices align a join credit, and leave the rest of a capacity record (R80). -/
theorem notice_cap_rest (s : State) (before : Carriage) (cause : Bool) (g : Group) :
    (((s.notice before cause).coolOf g).cap.unloading, ((s.notice before cause).coolOf g).cap.lastEnd)
      = ((s.coolOf g).cap.unloading, (s.coolOf g).cap.lastEnd) := by
  rw [notice_coolOf]
  split <;> rfl

theorem notice_of_same {u : State} {before : Carriage} (h : u.carriage = before) : u.notice before false = u := by
  have haligned : u.aligned before.alloc = u := by
    have step : ∀ (xs : List Group), xs.foldl (fun s g => s.alignIfChanged before.alloc g) u = u := by
      intro xs
      induction xs with
      | nil => rfl
      | cons g xs ih =>
        have hg : u.alignIfChanged before.alloc g = u := by
          have : u.allocatable g = before.alloc.get g := by rw [← h]; exact (Six.get_ofFn _ _).symm
          simp [State.alignIfChanged, this]
        rw [List.foldl_cons, hg, ih]
    exact step Group.all
  have hc : (u.carriage != before) = false := by simp [h]
  rw [notice_eq]
  unfold State.settled
  rw [hc, haligned]
  rfl

end Sys2Proof.Machine

/-- Settles O38: a trip input event is its own part, told and cancelled, followed by the notices of R91. -/
theorem tripInputCancelsTheUnloading : Obligations.TripInputCancelsTheUnloading := by
  unfold Obligations.TripInputCancelsTheUnloading
  intro g level s u c
  refine ⟨fun h => congrArg Host.Outcome.next (tripEvent_of_same h), fun h => ?_⟩
  refine ⟨s.tripEvent g level, rfl, (touches_tripEvent (by decide)).mpr (Touches.refl _ _), ?_⟩
  cases hf : s.fitted g
  case false =>
    have hne : ∀ g', g' ≠ g → (s.tripRegistered g level).unit g' = s.unit g' :=
      fun g' e => tripRegistered_unit_ne s level e
    rw [tripEvent_of_unfitted h hf]
    have hcarriage : (s.tripRegistered g level).carriage = s.carriage := by
      have hset : (s.tripRegistered g level).settings = s.settings := rfl
      have same : ∀ g', (s.tripRegistered g level).allocatable g' = s.allocatable g'
          ∧ (s.tripRegistered g level).frozen g' = s.frozen g' := by
        intro g'
        by_cases e : g' = g
        · subst e
          have hf' : (s.tripRegistered g' level).fitted g' = false := hf
          simp [State.allocatable, State.frozen, hf, hf']
        · exact ⟨allocatable_congr hset (by rw [hne g' e]), frozen_congr hset (by rw [hne g' e])⟩
      unfold State.carriage
      rw [funext fun g' => (same g').1, funext fun g' => (same g').2]
    have htold := notice_told (s := s) (u := s.tripRegistered g level) (cause := false)
      (touches_tripRegistered.mono (by decide)) fun _ => ⟨rfl, rfl⟩
    rw [notice_of_same hcarriage] at htold
    refine ⟨rfl, ?_, fun g' e => ?_, fun _ => ⟨tripRegistered_unit_self s g level, rfl, rfl, rfl, rfl, rfl⟩, nofun,
      htold⟩
    · rw [tripRegistered_unit_self]
    · rw [hne g' e]
      exact ⟨rfl, rfl⟩
  case true =>
    rw [tripEvent_of_fitted h hf]
    have htold := notice_told (s := s) (cause := true) (touches_tripTold (g := g) (level := level))
      (tripTold_capacity s g level)
    have hrec : (((s.tripTold g level).notice s.carriage true).unit g).record = { u.record with trip := level } := by
      rw [notice_record, tripTold_record]
    have hpins : ((s.tripTold g level).notice s.carriage true).pins
        = { s.pins with trip := s.pins.trip.set g level } := by
      rw [touches_notice_cycle.pins (by decide), touches_settled.pins (by decide),
        touches_tripTold_posted.pins (by decide)]
      rfl
    have hposts : Posts [.capacityLimit] (s.tripTold g level) ((s.tripTold g level).notice s.carriage true) :=
      posts_notice (.refl _ _) (by decide)
    obtain ⟨hcredit, htoldRest⟩ := htold
    refine ⟨hpins, hrec, fun g' e => ?_, nofun, fun _ => ⟨?_, fun hlevel => ?_, fun halloc => ?_⟩,
      ⟨hcredit, htoldRest⟩⟩
    · rw [notice_record, notice_command, tripTold_unit_ne s level e]
      exact ⟨rfl, rfl⟩
    · exact hposts.tells (by decide) (tripTold_tells s g level)
    · subst hlevel
      obtain ⟨hunl, hend⟩ := Prod.mk.inj (notice_cap_rest (s.tripTold g true) s.carriage true g)
      rw [tripTold_cap] at hunl hend
      refine ⟨by simp [State.allocatable, hrec], by simp [State.frozen, hrec], by simpa using hunl, fun hu => ⟨?_, ?_⟩⟩
      · rw [hend]
        simp [CapRecord.ended, c, hu]
      · intro x hx hk
        have hx' : (s.unit g).command = some x := hx
        have hu' : (s.coolOf g).cap.unloading = true := hu
        rw [notice_command, tripTold_command, hx']
        simp [Command.released, hk, hu']
    · have htrip : u.record.trip = false := by
        have := halloc
        simp only [State.allocatable, Bool.and_eq_true, Bool.not_eq_true'] at this
        exact this.2
      have hlevel : level = true := by
        cases level
        · exact absurd htrip.symm h
        · rfl
      have hnot : ((s.tripTold g level).notice s.carriage true).allocatable g = false := by
        unfold State.allocatable
        rw [hrec]
        simp [hlevel]
      rw [hcredit g, hnot, halloc]
      rfl
end

section
/-! PROOFS. The line sample (O44; R3, R10, R18 to R28, R30, R119, R170): what a boundary makes of the front end, and
what the rest of the boundary leaves of it. -/

open Sys2Proof Sys2Proof.Machine

namespace Sys2Proof.Machine

/-! ### The clock stands while the energy unit and the regulator work (R144) -/

theorem when_time {s : State} {c : Bool} {f : State → State} (hf : ∀ u, (f u).energy.time = u.energy.time) :
    (s.when c f).energy.time = s.energy.time := by
  cases c
  · rfl
  · exact hf s

theorem noteSaturation_energy (s : State) (n : Nat) (x y : Account) : (s.noteSaturation n x y).energy = s.energy := by
  unfold State.noteSaturation
  split <;> rfl

theorem accrue_time (s : State) : s.accrue.energy.time = s.energy.time := by
  have ha : ∀ (e : Energy) p v h, (e.accrue p v h).time = e.time := fun _ _ _ _ => rfl
  unfold State.accrue State.addTariff State.addLifetime
  simp only [State.setEnergy_energy, ha, noteSaturation_energy]

theorem setLimiter_time (s : State) (l : Limiter) : (s.setLimiter l).energy.time = s.energy.time := rfl
theorem markLimited_time (s : State) : s.markLimited.energy.time = s.energy.time := rfl
theorem postLimit_time (s : State) (cause : LimitCause) : (s.postLimit cause).energy.time = s.energy.time := rfl

theorem releaseLimiter_time (s : State) (cause : LimitCause) :
    (s.releaseLimiter cause).energy.time = s.energy.time := when_time fun _ => rfl

theorem workTrim_time (s : State) : s.workTrim.energy.time = s.energy.time := by
  unfold State.workTrim
  dsimp only
  split
  · rfl
  · split
    · exact when_time fun _ => rfl
    · rfl

theorem evalDemand_time (s : State) : s.evalDemand.energy.time = s.energy.time := by
  unfold State.evalDemand
  extract_lets e proj _ s1 _ s2
  have hs1 : s1.energy.time = s.energy.time := setLimiter_time _ _
  have hs2 : s2.energy.time = s1.energy.time := setLimiter_time _ _
  clear_value proj s1 s2
  split
  · exact (releaseLimiter_time s1 _).trans hs1
  · split
    · split
      · exact (releaseLimiter_time s1 _).trans hs1
      · exact (workTrim_time _).trans ((markLimited_time s1).trans hs1)
    · split
      · exact (workTrim_time _).trans ((markLimited_time _).trans ((postLimit_time s2 _).trans (hs2.trans hs1)))
      · exact hs1

theorem minuteEvaluation_time (s : State) : s.minuteEvaluation.energy.time = s.energy.time := by
  unfold State.minuteEvaluation Energy.takePending
  split
  · split <;> rfl
  · rfl

theorem energySample_time (s : State) (apart : Bool) : (s.energySample apart).energy.time = s.energy.time := by
  have close : ∀ u : State, u.closeInterval.energy.time = u.energy.time := fun u => releaseLimiter_time _ _
  have due : ∀ u : State, u.energyDue.energy.time = u.energy.time := fun u => by
    unfold State.energyDue
    dsimp only
    rw [when_time close, minuteEvaluation_time, when_time evalDemand_time]
  unfold State.energySample
  rw [when_time due, accrue_time]

theorem outOfTurn_time (s : State) : s.outOfTurn.energy.time = s.energy.time := by
  cases h : s.regulating
  · rw [outOfTurn_of_not_regulating h]
  · rw [outOfTurn_of_regulating h, setTarget_eq, touches_writeShares.energy (by decide), State.setReg_energy]
    unfold State.cycleReported
    dsimp only
    rw [when_time (f := fun t => t.post _ _ _) fun _ => rfl, when_time (f := State.markAeHeld) fun _ => rfl]

theorem evalLoops_time (s : State) (apart : Bool) : (s.evalLoops apart).energy.time = s.energy.time := by
  have ht : Touches [.cool, .link, .events] s
      ((s.eachGroup fun s g => s.evalLoop apart g).eachGroup fun s g => s.evalStageUnload apart g) := by simp
  unfold State.evalLoops State.withUnloadCycle
  dsimp only
  rw [when_time outOfTurn_time, ht.energy (by decide)]

/-! ### The utility contact stands while the stack works (R119) -/

/-- The registered level of the contact, and the counts of its readings. -/
def State.contact (s : State) : Bool × Nat × Nat := (s.stack.utility, s.stack.assertCount, s.stack.releaseCount)

theorem contact_congr {s t : State} (h : t.stack = s.stack) : t.contact = s.contact := by
  simp only [State.contact, h]

theorem when_contact {s : State} {c : Bool} {f : State → State} (hf : ∀ u, (f u).contact = u.contact) :
    (s.when c f).contact = s.contact := by
  cases c
  · rfl
  · exact hf s

theorem removeEntry_contact (s : State) (p : StackEntry → Bool) (x : StackChange) :
    (s.removeEntry p x).contact = s.contact := by
  unfold State.removeEntry
  split <;> rfl

theorem pushUtility_contact (s : State) : s.pushUtility.contact = s.contact := by
  have evict : s.evictOldest.contact = s.contact := by
    unfold State.evictOldest
    dsimp only
    repeat' split
    all_goals rfl
  unfold State.pushUtility
  split
  · rfl
  · exact evict

theorem switchTimeout_contact (s : State) : s.switchTimeout.contact = s.contact := by
  unfold State.switchTimeout
  dsimp only
  split
  · exact removeEntry_contact s (fun e => e.source == .switching) .ended
  · rfl

theorem switchReadiness_contact (s : State) : s.switchReadiness.contact = s.contact := by
  unfold State.switchReadiness
  dsimp only
  repeat' split
  all_goals rfl

theorem expireEntries_contact (s : State) : s.expireEntries.contact = s.contact := by
  have ht : ∀ (xs : List StackEntry) (u : State), (xs.foldl (fun s e => s.postStack .expired e) u).stack = u.stack :=
    fun xs u => Touches.stack (l := [.events])
      ((touches_foldl fun _ _ => (touches_postStack (by decide)).mpr (Touches.refl _ _)).mpr (Touches.refl _ _))
      (by decide)
  unfold State.expireEntries
  dsimp only
  rw [contact_congr (ht _ _)]
  rfl

theorem tickSwitch_contact (s : State) : s.tickSwitch.contact = s.contact := by
  unfold State.tickSwitch
  dsimp only
  split <;> rfl

theorem stackSample_contact (s : State) (apart : Bool) : (s.stackSample apart).contact = s.contact := by
  unfold State.stackSample
  dsimp only
  rw [when_contact switchTimeout_contact, tickSwitch_contact, switchReadiness_contact,
    when_contact expireEntries_contact]
  rfl

/-! ### The level inputs at a boundary (R3, R119, R170) -/

theorem satInc_two {n : Nat} : 2 ≤ satInc 2 n ↔ 1 ≤ n := by
  unfold satInc
  split <;> omega

/-- A SAFE level that the pin does not read anew for the second time is not registered (R3). -/
theorem readSafe_stands {s : State} {pin apart : Bool}
    (h : apart = true ∨ pin = s.sup.safeLevel ∨ s.sup.safeRun = 0) :
    ∃ run, s.readSafe pin apart = s.setSup { s.sup with safeRun := run } := by
  unfold State.readSafe
  extract_lets n
  refine ⟨n, if_neg ?_⟩
  rw [Bool.and_eq_true, decide_eq_true_eq]
  rintro ⟨hn, ha⟩
  rcases h with rfl | rfl | hrun
  · cases ha
  · simp [n] at hn
  · by_cases hp : pin = s.sup.safeLevel
    · simp [n, hp] at hn
    · simp only [n, if_neg hp, hrun] at hn
      exact absurd (satInc_two.mp hn) (by decide)

theorem readSafe_registers {s : State} {pin : Bool} (h : pin = !s.sup.safeLevel) (hrun : 1 ≤ s.sup.safeRun) :
    s.readSafe pin false = s.registerSafe pin := by
  have hp : pin ≠ s.sup.safeLevel := by simp [h]
  unfold State.readSafe
  dsimp only
  rw [if_neg hp, if_pos (by simpa using satInc_two.mpr hrun)]

theorem registerSafe_safeLevel (s : State) (level : Bool) : (s.registerSafe level).sup.safeLevel = level := by
  unfold State.registerSafe State.safeIfAsserted
  split
  · rw [enterSafe_sup]; rfl
  · rfl

/-- A level registered ASSERTED leaves the supervisor in SAFE (R12). -/
theorem registerSafe_state (s : State) : (s.registerSafe true).sup.state = .safe := by
  by_cases h : s.sup.state = .safe
  · rw [registerSafe_in_safe h]; exact h
  · rw [registerSafe_asserted h, enterSafe_sup]

theorem readKey_registers {s : State} {pin : Bool} (h : pin = !s.host.keyLevel) (hrun : 1 ≤ s.host.keyRun) :
    (s.readKey pin false).host.keyLevel = pin := by
  have hp : pin ≠ s.host.keyLevel := by simp [h]
  unfold State.readKey
  dsimp only
  rw [if_neg hp, if_pos (by simpa using satInc_two.mpr hrun)]
  rfl

theorem readKey_stands {s : State} {pin : Bool} (h : pin = s.host.keyLevel ∨ s.host.keyRun = 0) :
    (s.readKey pin false).host.keyLevel = s.host.keyLevel := by
  unfold State.readKey
  extract_lets n
  rw [if_neg]
  · rfl
  · rw [Bool.and_eq_true, decide_eq_true_eq]
    rintro ⟨hn, _⟩
    rcases h with rfl | hrun
    · simp [n] at hn
    · by_cases hp : pin = s.host.keyLevel
      · simp [n, hp] at hn
      · simp only [n, if_neg hp, hrun] at hn
        exact absurd (satInc_two.mp hn) (by decide)

theorem registerUtility_utility (s : State) (level : Bool) : (s.registerUtility level).stack.utility = level := by
  have h : (s.registerUtility level).contact = (level, 0, 0) := by
    unfold State.registerUtility
    dsimp only
    split
    · rw [pushUtility_contact]; rfl
    · rw [removeEntry_contact]; rfl
  exact congrArg Prod.fst h

theorem readUtility_asserts {s : State} (h : s.stack.utility = false) (hn : 9 ≤ s.stack.assertCount) :
    (s.readUtility true false).stack.utility = true := by
  have e : s.readUtility true false = s.registerUtility true := by
    have : 10 ≤ satInc 10 s.stack.assertCount := by unfold satInc; split <;> omega
    simp [State.readUtility, h, this]
  rw [e, registerUtility_utility]

theorem readUtility_releases {s : State} (h : s.stack.utility = true) (hn : 1 ≤ s.stack.releaseCount) :
    (s.readUtility false false).stack.utility = false := by
  have e : s.readUtility false false = s.registerUtility false := by
    simp [State.readUtility, h, satInc_two.mpr hn]
  rw [e, registerUtility_utility]

/-! ### The selection of the line current (R22, R23) -/

/-- The group sum is available (R22). -/
abbrev State.SumKnown (s : State) : Prop :=
  Group.all.filter s.fitted ≠ [] ∧ ∀ g ∈ Group.all.filter s.fitted, (s.chan (gcChan g)).valid = true

theorem groupSumS_of_known {s : State} (h : s.SumKnown) :
    s.groupSumS = some ((Group.all.filter s.fitted).map fun g => (s.chan (gcChan g)).value.toNat).sum := by
  obtain ⟨hne, hv⟩ := h
  unfold State.groupSumS
  dsimp only
  rw [if_neg]
  rw [Bool.or_eq_true, List.isEmpty_iff, List.any_eq_true]
  rintro (he | ⟨g, hg, hn⟩)
  · exact hne he
  · simp [hv g hg] at hn

theorem groupSumS_of_not_known {s : State} (h : ¬ s.SumKnown) : s.groupSumS = none := by
  unfold State.groupSumS
  dsimp only
  rw [if_pos]
  rw [Bool.or_eq_true, List.isEmpty_iff, List.any_eq_true]
  by_cases he : Group.all.filter s.fitted = []
  · exact .inl he
  · refine .inr ?_
    by_contra hall
    refine h ⟨he, fun g hg => ?_⟩
    by_contra hv
    exact hall ⟨g, hg, by simpa using hv⟩

/-- The selection of R23, branch by branch. -/
theorem selectCurrent_eq (s : State) [Decidable s.SumKnown] :
    s.selectCurrent =
      if (s.chan 0).valid = true ∧ (s.chan 1).valid = true then
        if ((s.chan 0).value.toNat - (s.chan 1).value.toNat + ((s.chan 1).value.toNat - (s.chan 0).value.toNat)) * 1000
            ≤ s.cfgN .lcurTol * max (s.chan 0).value.toNat (s.chan 1).value.toNat then
          (((s.chan 0).value.toNat + (s.chan 1).value.toNat) / 2, .normal)
        else if s.SumKnown then
          (nearer (s.chan 0).value.toNat (s.chan 1).value.toNat
            ((Group.all.filter s.fitted).map fun g => (s.chan (gcChan g)).value.toNat).sum, .disagree)
        else (s.front.line.current, .fault)
      else if (s.chan 0).valid = true then ((s.chan 0).value.toNat, .single)
      else if (s.chan 1).valid = true then ((s.chan 1).value.toNat, .single)
      else (s.front.line.current, .fault) := by
  unfold State.selectCurrent currentsAgree
  dsimp only
  cases (s.chan 0).valid <;> cases (s.chan 1).valid
  case true.true =>
    simp only [decide_eq_true_eq, and_self, if_true]
    split
    · rfl
    · by_cases hk : s.SumKnown
      · rw [groupSumS_of_known hk, if_pos hk]
      · rw [groupSumS_of_not_known hk, if_neg hk]
  all_goals rfl

/-- The state of the measurement and its recovery count after a selection (R25, R26). -/
theorem nextState_eq (r : LineRecord) (sel : LineState) :
    r.nextState sel =
      if r.state = .fault ∧ sel ≠ .fault ∧ r.recovery < 9 then (.fault, r.recovery + 1)
      else if sel = .fault then (.fault, 0)
      else (sel, if r.state = .fault then 0 else r.recovery) := by
  unfold LineRecord.nextState
  by_cases hr : r.state = .fault <;> by_cases hs : sel = .fault
  · simp [hr, hs]
  · by_cases h9 : 9 ≤ r.recovery
    · simp [hr, hs, h9]
    · simp [hr, hs, h9]
  · simp [hr, hs]
  · simp [hr, hs]

end Sys2Proof.Machine
end

section
/-! PROOFS. The line sample, assembled (O44; R10, R12, R18 to R28, R30). -/

open Sys2Proof Sys2Proof.Machine

namespace Sys2Proof.Machine

/-! ### The sample taken (R18 to R28) -/

/-- The boundary counted, its pins read and the clock advanced, before the front end's part (R28, R144). -/
def State.boundaryBegun (s : State) (b : Boundary) : State := (s.beginBoundary b).advanceClock

/-- The state in which the current of a sample is selected: every channel record is formed (R18 to R23). -/
def State.channelsTaken (s : State) (conv : Vector (Vector Word16 16) 27) : State :=
  s.setFront { s.front with chans := s.sampleChannels conv }

theorem channelsTaken_chan (s : State) (conv : Vector (Vector Word16 16) 27) (n : Fin 27) :
    (s.channelsTaken conv).chan n.val
      = (s.chan n.val).take n.val (s.cfg (.offset n)) (s.cfg (.span n)) conv[n] := by
  have hget : ∀ f : Fin 27 → Channel, ((List.finRange 27).map f).getD n.val Channel.initial = f n := by
    intro f
    rw [List.getD_eq_getElem?_getD, List.getElem?_map, List.getElem?_eq_getElem (by simp)]
    simp
  exact hget fun n => (s.chan n.val).take n.val (s.cfg (.offset n)) (s.cfg (.span n)) conv[n]

/-- The line measurement record that a sample forms, `u` being the state with its channel records (R23 to R28). -/
def State.lineFormed (u : State) : LineRecord :=
  { state := (u.front.line.nextState u.selectCurrent.2).1,
    recovery := (u.front.line.nextState u.selectCurrent.2).2,
    current := u.selectCurrent.1, voltage := (u.chan 2).value.toNat, held := !(u.chan 2).valid,
    sampleTime := u.energy.time, selection := u.selectCurrent.2 }

theorem completeSample_eq (s : State) (conv : Vector (Vector Word16 16) 27) :
    s.completeSample conv
      = s.setFront { chans := s.sampleChannels conv, line := (s.channelsTaken conv).lineFormed } := by
  unfold State.completeSample State.lineFormed State.channelsTaken
  rfl

/-- The sample's events, and the supervisor's part of it, leave the front end's records. -/
theorem lineSample_front (s : State) (b : Boundary) :
    (s.lineSample b).front = ((s.boundaryBegun b).completeSample b.conversions).front := by
  have ht : Touches [.sup, .events] ((s.boundaryBegun b).completeSample b.conversions) (s.lineSample b) := by
    unfold State.lineSample State.frontSample State.boundaryBegun
    exact (touches_measurementHold (by decide)).mpr ((touches_postSample (by decide)).mpr (Touches.refl _ _))
  exact ht.front (by decide)

theorem boundary_front (s : State) (b : Boundary) : (s.boundary b).front
    = { chans := (s.boundaryBegun b).sampleChannels b.conversions,
        line := ((s.boundaryBegun b).channelsTaken b.conversions).lineFormed } := by
  rw [touches_boundaryLoops.front (by decide), touches_boundaryRead.front (by decide),
    touches_boundarySampled.front (by decide), lineSample_front, completeSample_eq, State.setFront_front]

theorem boundary_chan (s : State) (b : Boundary) (n : Nat) :
    (s.boundary b).chan n = ((s.boundaryBegun b).channelsTaken b.conversions).chan n := by
  unfold State.chan
  rw [boundary_front]
  rfl

theorem touches_lineSample_begun {s : State} {b : Boundary} :
    Touches [.front, .sup, .events] (s.boundaryBegun b) (s.lineSample b) := by
  unfold State.lineSample State.boundaryBegun
  simp

/-- Once begun, a boundary changes neither its count nor the pins read. -/
theorem touches_boundary_begun {s : State} {b : Boundary} :
    Touches [.front, .sup, .events, .energy, .stack, .host, .link, .reg, .pots, .scan, .cool] (s.boundaryBegun b)
      (s.boundary b) :=
  (touches_lineSample_begun.mono (by decide)).trans ((touches_boundarySampled.mono (by decide)).trans
    ((touches_boundaryRead.mono (by decide)).trans (touches_boundaryLoops.mono (by decide))))

theorem lineSample_time (s : State) (b : Boundary) :
    (s.lineSample b).energy.time = (s.boundaryBegun b).energy.time := by
  rw [touches_lineSample_begun.energy (by decide)]

/-- The clock advances at the start of a boundary and stands for the rest of it (R144). -/
theorem boundary_time (s : State) (b : Boundary) :
    (s.boundary b).energy.time = (s.boundaryBegun b).energy.time := by
  have hread : (s.boundaryRead b).energy.time = (s.lineSample b).energy.time := by
    rw [touches_boundaryRead.energy (by decide)]
    unfold State.boundarySampled
    have hstack : ∀ (u : State) a, (u.stackSample a).energy = u.energy := fun u a =>
      Touches.energy (l := [.stack, .events]) ((touches_stackSample (by decide)).mpr (Touches.refl _ _)) (by decide)
    rw [hstack, energySample_time]
  rw [boundary_eq, evalLoops_time, touches_aeScan.energy (by decide), hread, lineSample_time]

/-! ### What a sample posts (R10, R30) -/

/-- The kinds that a boundary can post once its line sample is done, but for an entry to SAFE. -/
def restKinds : List EventKind :=
  energyKinds ++ [.stackChange, .switch, .utility, .quenchRequest, .aeLong] ++ loopKinds

theorem posts_boundarySampled (s : State) (b : Boundary) :
    Posts restKinds (s.lineSample b) (s.boundarySampled b) :=
  ((posts_energySample _ _).mono (by decide)).trans ((posts_stackSample _ _).mono (by decide))

theorem posts_boundaryLoops (s : State) (b : Boundary) : Posts restKinds (s.boundaryRead b) (s.boundary b) := by
  have scan : ∀ u : State, Posts restKinds u (u.scanSample b.apart) := fun u =>
    .of_touches (l := [.scan]) ((touches_scanSample (by decide)).mpr (Touches.refl _ _)) (by decide)
  rw [boundary_eq]
  exact ((posts_aeSample _ _).mono (by decide)).trans ((scan _).trans ((posts_evalLoops _ _).mono (by decide)))

theorem posts_readKey (s : State) (pin apart : Bool) (ks : List EventKind) : Posts ks s (s.readKey pin apart) :=
  .of_touches (l := [.host]) ((touches_readKey (by decide)).mpr (Touches.refl _ _)) (by decide)

theorem posts_boundaryRest (s : State) (b : Boundary) :
    Posts (restKinds ++ [.supState, .safe]) (s.lineSample b) (s.boundary b) := by
  have hread : Posts (restKinds ++ [.supState, .safe]) (s.boundarySampled b) (s.boundaryRead b) :=
    Posts.trans (posts_readSafe (posts_readUtility (.refl _ _) (by decide)) (by decide)) (posts_readKey _ _ _ _)
  exact ((posts_boundarySampled s b).mono (by decide)).trans
    (hread.trans ((posts_boundaryLoops s b).mono (by decide)))

/-- LINE_MEAS and LINE_FAULT of a sample, as they stand when it is done (R30). -/
theorem postSample_tells (s : State) (before : LineRecord) :
    (s.front.line.state ≠ before.state ∨ s.front.line.held ≠ before.held →
        (s.postSample before).Tells .lineMeas 0 [beBytes 1 s.front.line.state.code, beBytes 1 before.state.code,
          flagByte s.front.line.held])
      ∧ (s.front.line.state = .fault → before.state ≠ .fault →
        (s.postSample before).Tells .lineFault 0 [[if (s.chan 0).valid = true ∨ (s.chan 1).valid = true then 2#8 else 1#8]]) := by
  unfold State.postSample
  extract_lets r s1
  have hcause : beBytes 1 s.faultCause
      = [if (s.chan 0).valid = true ∨ (s.chan 1).valid = true then 2#8 else 1#8] := by
    unfold State.faultCause
    cases (s.chan 0).valid <;> cases (s.chan 1).valid <;> rfl
  refine ⟨fun h => ?_, fun hf hb => ?_⟩
  · have hc : (r.state != before.state || r.held != before.held) = true := by simpa [r] using h
    rw [hc]
    exact tells_post_self
  · have hs1 : s1 = s.post .lineFault 0 [beBytes 1 s.faultCause] := by
      simp [s1, r, hf, hb, State.when]
    have hp : Posts [.lineMeas] s1 (s1.when (r.state != before.state || r.held != before.held) fun s =>
        s.post .lineMeas 0 [beBytes 1 r.state.code, beBytes 1 before.state.code, flagByte r.held]) :=
      posts_when (.refl _ _) fun _ => posts_post (.refl _ _) (by decide)
    refine hp.tells (by decide) ?_
    rw [hs1, hcause]
    exact tells_post_self

theorem lineSample_eq (s : State) (b : Boundary) : s.lineSample b
    = (((s.boundaryBegun b).completeSample b.conversions).postSample s.front.line).measurementHold := rfl

/-- A sample in FAULT taken in RUN leads to HOLD (R10). -/
theorem measurementHold_of_fault {s : State} (hr : s.sup.state = .run) (hf : s.front.line.state = .fault) :
    s.measurementHold.sup = { s.sup with state := .hold, cause := .measurement }
      ∧ s.measurementHold.Tells .supState 0 [[2#8], [1#8], [5#8]] := by
  have e : s.measurementHold = (s.enter .hold .measurement).postSupState .run := by
    simp [State.measurementHold, hr, hf]
  rw [e]
  exact ⟨rfl, tells_post_self⟩

theorem measurementHold_levels (s : State) :
    s.measurementHold.sup.safeLevel = s.sup.safeLevel ∧ s.measurementHold.sup.safeRun = s.sup.safeRun := by
  unfold State.measurementHold
  split <;> exact ⟨rfl, rfl⟩

/-! ### The level inputs in the boundary -/

/-- The state in which the SAFE pin is read: the UTILITY pin has been read before it. -/
def State.boundaryUtility (s : State) (b : Boundary) : State := (s.boundarySampled b).readUtility b.utility b.apart

theorem boundaryRead_eq (s : State) (b : Boundary) :
    s.boundaryRead b = ((s.boundaryUtility b).readSafe b.safe b.apart).readKey b.engKey b.apart := rfl

theorem touches_boundaryUtility {s : State} {b : Boundary} :
    Touches [.energy, .events, .stack] (s.lineSample b) (s.boundaryUtility b) :=
  (touches_readUtility (by decide)).mpr touches_boundarySampled

theorem boundaryUtility_levels (s : State) (b : Boundary) :
    (s.boundaryUtility b).sup.safeLevel = s.sup.safeLevel ∧ (s.boundaryUtility b).sup.safeRun = s.sup.safeRun := by
  have ht : Touches [.ticks, .pins, .energy, .front, .events] s
      (((s.boundaryBegun b).completeSample b.conversions).postSample s.front.line) := by
    unfold State.boundaryBegun
    simp
  have hm := measurementHold_levels
    (((s.boundaryBegun b).completeSample b.conversions).postSample s.front.line)
  rw [ht.sup (by decide), ← lineSample_eq] at hm
  rw [touches_boundaryUtility.sup (by decide)]
  exact hm

theorem boundary_sup (s : State) (b : Boundary) :
    (s.boundary b).sup = ((s.boundaryUtility b).readSafe b.safe b.apart).sup := by
  rw [touches_boundaryLoops.sup (by decide), boundaryRead_eq]
  exact Touches.sup (l := [.host]) ((touches_readKey (by decide)).mpr (Touches.refl _ _)) (by decide)

/-- The key level of a boundary is the one that its reading of the pin leaves (R170). -/
theorem boundary_keyLevel (s : State) (b : Boundary) : ∃ u : State, u.host = s.host
    ∧ (s.boundary b).host.keyLevel = (u.readKey b.engKey b.apart).host.keyLevel := by
  have ht : Touches [.ticks, .pins, .energy, .front, .events, .sup] s (s.lineSample b) :=
    (touches_lineSample (by decide)).mpr (Touches.refl _ _)
  have hs : Touches [.sup, .events, .link, .reg] (s.boundaryUtility b)
      ((s.boundaryUtility b).readSafe b.safe b.apart) := (touches_readSafe (by decide)).mpr (Touches.refl _ _)
  refine ⟨(s.boundaryUtility b).readSafe b.safe b.apart, ?_, ?_⟩
  · rw [hs.host (by decide), touches_boundaryUtility.host (by decide), ht.host (by decide)]
  · rw [touches_boundaryLoops.host (by decide), boundaryRead_eq]

/-- The contact's level of a boundary is the one that its reading of the pin leaves (R119). -/
theorem boundary_utility (s : State) (b : Boundary) : ∃ u : State, u.contact = s.contact
    ∧ (s.boundary b).stack.utility = (u.readUtility b.utility b.apart).stack.utility := by
  have ht : Touches [.ticks, .pins, .energy, .front, .events, .sup] s (s.lineSample b) :=
    (touches_lineSample (by decide)).mpr (Touches.refl _ _)
  have hs : Touches [.sup, .events, .link, .reg, .host] (s.boundaryUtility b) (s.boundaryRead b) := by
    rw [boundaryRead_eq]
    exact (touches_readKey (by decide)).mpr ((touches_readSafe (by decide)).mpr (Touches.refl _ _))
  refine ⟨s.boundarySampled b, ?_, ?_⟩
  · have he : ((s.lineSample b).energySample b.apart).stack = (s.lineSample b).stack :=
      Touches.stack (l := [.energy, .events]) ((touches_energySample (by decide)).mpr (Touches.refl _ _)) (by decide)
    unfold State.boundarySampled
    rw [stackSample_contact, contact_congr he, contact_congr (ht.stack (by decide))]
  · rw [touches_boundaryLoops.stack (by decide), hs.stack (by decide)]
    rfl

/-- The supervisor's levels of a boundary taken whole are those that its reading of the pin leaves (R3, R12). -/
theorem boundary_safe {s : State} {b : Boundary} (ha : b.apart = false) :
    (b.safe = !s.sup.safeLevel → 1 ≤ s.sup.safeRun → (s.boundary b).sup.safeLevel = b.safe)
      ∧ (b.safe = s.sup.safeLevel ∨ s.sup.safeRun = 0 → (s.boundary b).sup.safeLevel = s.sup.safeLevel)
      ∧ (s.sup.safeLevel = false → (s.boundary b).sup.safeLevel = true → (s.boundary b).sup.state = .safe) := by
  obtain ⟨hlevel, hrun⟩ := boundaryUtility_levels s b
  have registers : b.safe = !s.sup.safeLevel → 1 ≤ s.sup.safeRun →
      (s.boundary b).sup = ((s.boundaryUtility b).registerSafe b.safe).sup := by
    intro h1 h2
    rw [boundary_sup, ha, readSafe_registers (by rw [hlevel]; exact h1) (by rw [hrun]; exact h2)]
  have stands : b.safe = s.sup.safeLevel ∨ s.sup.safeRun = 0 →
      (s.boundary b).sup.safeLevel = s.sup.safeLevel := by
    intro h
    obtain ⟨run, e⟩ := readSafe_stands (s := s.boundaryUtility b) (pin := b.safe) (apart := b.apart)
      (.inr (by rw [hlevel, hrun]; exact h))
    rw [boundary_sup, e]
    exact hlevel
  refine ⟨fun h1 h2 => by rw [registers h1 h2, registerSafe_safeLevel], stands, fun hoff hon => ?_⟩
  by_cases h : b.safe = s.sup.safeLevel ∨ s.sup.safeRun = 0
  · rw [stands h, hoff] at hon
    cases hon
  · obtain ⟨hl, hr⟩ := not_or.mp h
    have hsup := registers (Bool.eq_not_of_ne hl) (by omega)
    rw [hsup, registerSafe_safeLevel] at hon
    rw [hsup, hon, registerSafe_state]

/-- While no SAFE level is registered ASSERTED, a boundary keeps the supervisor's state and what SUP_STATE told of
it. -/
theorem boundary_keeps_state {s : State} {b : Boundary}
    (h : b.apart = true ∨ b.safe = false ∨ b.safe = s.sup.safeLevel ∨ s.sup.safeRun = 0) :
    (s.boundary b).sup.state = (s.lineSample b).sup.state ∧ (s.boundary b).sup.cause = (s.lineSample b).sup.cause
      ∧ ∀ fields, (s.lineSample b).Tells .supState 0 fields → (s.boundary b).Tells .supState 0 fields := by
  obtain ⟨hlevel, hrun⟩ := boundaryUtility_levels s b
  have quiet : ∃ level run, (s.boundaryUtility b).readSafe b.safe b.apart
      = (s.boundaryUtility b).setSup { (s.boundaryUtility b).sup with safeLevel := level, safeRun := run } := by
    by_cases hs : b.apart = true ∨ b.safe = (s.boundaryUtility b).sup.safeLevel
        ∨ (s.boundaryUtility b).sup.safeRun = 0
    · obtain ⟨run, e⟩ := readSafe_stands hs
      exact ⟨_, run, e⟩
    · rw [hlevel, hrun] at hs
      obtain ⟨ha, hs⟩ := not_or.mp hs
      have hfalse : b.safe = false := (h.resolve_left ha).resolve_right hs
      obtain ⟨hl, hr⟩ := not_or.mp hs
      refine ⟨false, 0, ?_⟩
      rw [Bool.eq_false_iff.mpr ha, readSafe_registers (by rw [hlevel]; exact Bool.eq_not_of_ne hl) (by omega), hfalse,
        registerSafe_deasserted]
  obtain ⟨level, run, e⟩ := quiet
  have hsup : (s.boundaryUtility b).sup = (s.lineSample b).sup := touches_boundaryUtility.sup (by decide)
  refine ⟨by rw [boundary_sup, e, State.setSup_sup, hsup], by rw [boundary_sup, e, State.setSup_sup, hsup],
    fun fields htell => ?_⟩
  have hp : Posts restKinds (s.lineSample b) (s.boundary b) := by
    refine (posts_boundarySampled s b).trans (Posts.trans ?_ (posts_boundaryLoops s b))
    rw [boundaryRead_eq, e]
    exact Posts.trans (posts_setSup (posts_readUtility (.refl _ _) (by decide))) (posts_readKey _ _ _ _)
  exact hp.tells (by decide) htell

/-! ### The record as the statement puts it -/

theorem sampleValid_iff (conv : Vector Word16 16) :
    sampleValid conv = true ↔ ∀ x ∈ conv.toList.map (·.toNat), 16 ≤ x ∧ x ≤ 65534 := by
  simp only [sampleValid, List.all_eq_true, decide_eq_true_eq, List.forall_mem_map]
  exact forall₂_congr fun c _ => and_congr_right fun _ => Nat.lt_succ_iff

theorem channelRange_eq (n : Nat) : channelRange n =
    if n = 2 then (0, 2000000) else if n < 9 then (0, 650000) else if n < 21 then (-200, 1500) else (0, 5000) := by
  simp only [channelRange, Nat.lt_succ_iff (n := 20)]

end Sys2Proof.Machine

/-- Settles O44: the front end's records stand for the rest of the boundary, and each level input is read once in
it. -/
theorem lineSampleFormsTheLineMeasurement : Obligations.LineSampleFormsTheLineMeasurement := by
  unfold Obligations.LineSampleFormsTheLineMeasurement
  intro b s
  refine ⟨rfl, s.boundary b, rfl, ?_⟩
  intro conv range mean sample valid was now a d va vd away agree fitted known sum chosen next
  have hu : ∀ n, ((s.boundaryBegun b).channelsTaken b.conversions).chan n = (s.boundary b).chan n :=
    fun n => (boundary_chan s b n).symm
  have hline : now = ((s.boundaryBegun b).channelsTaken b.conversions).lineFormed := by
    simp only [now, boundary_front]
  have hchosen : ((s.boundaryBegun b).channelsTaken b.conversions).selectCurrent = chosen := by
    have hknown : ((s.boundaryBegun b).channelsTaken b.conversions).SumKnown ↔ known := by
      simp only [State.SumKnown, hu]
      rfl
    have : Decidable ((s.boundaryBegun b).channelsTaken b.conversions).SumKnown := Classical.propDecidable _
    rw [selectCurrent_eq]
    simp only [hu, hknown]
    rfl
  have hnext : was.nextState chosen.2 = next := nextState_eq was chosen.2
  have hformed : ((s.boundaryBegun b).completeSample b.conversions).front.line = now := by
    rw [completeSample_eq, State.setFront_front, hline]
  have hpost := postSample_tells ((s.boundaryBegun b).completeSample b.conversions) was
  have htells : ∀ k fields, k ∉ restKinds ++ [.supState, .safe] → k ≠ .supState →
      (((s.boundaryBegun b).completeSample b.conversions).postSample was).Tells k 0 fields →
      (s.boundary b).Tells k 0 fields := by
    intro k fields hk hne ht
    refine (posts_boundaryRest s b).tells hk ?_
    have hm : Posts [.supState] (((s.boundaryBegun b).completeSample b.conversions).postSample was)
        (s.lineSample b) := by
      rw [lineSample_eq]
      unfold State.measurementHold
      split
      · exact posts_post (posts_setSup (.refl _ _)) (by decide)
      · exact .refl _ _
    exact hm.tells (by simpa using hne) ht
  have hsample : ∀ n : Nat, ((s.boundaryBegun b).completeSample b.conversions).chan n = (s.boundary b).chan n := by
    intro n
    rw [← hu, completeSample_eq]
    rfl
  rw [hformed] at hpost
  simp only [hsample] at hpost
  obtain ⟨hmeas, hfault⟩ := hpost
  have ht : Touches [.ticks, .pins, .energy, .front, .events, .sup] s (s.lineSample b) :=
    (touches_lineSample (by decide)).mpr (Touches.refl _ _)
  obtain ⟨hlevel, hrun⟩ := boundaryUtility_levels s b
  refine ⟨fun n => ⟨fun hv => ?_, fun hv => ?_⟩, ?_, fun h => htells _ _ (by decide) (by decide) (hmeas h),
    fun h h' => htells _ _ (by decide) (by decide) (hfault h h'), ?_, ?_, fun hstate hf hsafe => ?_, fun hapart => ?_⟩
  · have hc := channelsTaken_chan (s.boundaryBegun b) b.conversions n
    rw [hu] at hc
    rw [hc]
    unfold Channel.take
    rw [if_pos ((sampleValid_iff _).mpr hv)]
    simp only [scaled, channelRange_eq, meanOf]
    rfl
  · have hc := channelsTaken_chan (s.boundaryBegun b) b.conversions n
    rw [hu] at hc
    rw [hc]
    unfold Channel.take
    rw [if_neg fun h => hv ((sampleValid_iff _).mp h)]
    rfl
  · rw [hline]
    unfold State.lineFormed
    rw [hchosen, hu, boundary_time, ← hnext]
    rfl
  · rw [touches_boundary_begun.ticks (by decide)]
    rfl
  · rw [touches_boundary_begun.pins (by decide)]
    rfl
  · obtain ⟨hst, hcause, hsup⟩ := boundary_keeps_state hsafe
    have hsame : (((s.boundaryBegun b).completeSample b.conversions).postSample was).sup = s.sup :=
      Touches.sup (l := [.ticks, .pins, .energy, .front, .events]) (by unfold State.boundaryBegun; simp) (by decide)
    have hfront : (((s.boundaryBegun b).completeSample b.conversions).postSample was).front.line = now := by
      rw [← hformed, Touches.front (l := [.events]) ((touches_postSample (by decide)).mpr (Touches.refl _ _))
        (by decide)]
    obtain ⟨hheld, htold⟩ := measurementHold_of_fault (by rw [hsame]; exact hstate) (by rw [hfront]; exact hf)
    rw [← lineSample_eq] at hheld htold
    refine ⟨?_, ?_, hsup _ htold⟩
    · rw [hst, hheld]
    · rw [hcause, hheld]
  · obtain ⟨hregisters, hstands, hentered⟩ := boundary_safe hapart
    obtain ⟨u, hhost, hkey⟩ := boundary_keyLevel s b
    obtain ⟨w, hcontact, hutility⟩ := boundary_utility s b
    obtain ⟨hw1, hw23⟩ := Prod.mk.inj hcontact
    obtain ⟨hw2, hw3⟩ := Prod.mk.inj hw23
    rw [hapart] at hkey hutility
    refine ⟨hregisters, hstands, fun h1 h2 => ?_, fun h => ?_, fun h1 h2 h3 => ?_, fun h1 h2 h3 => ?_, hentered⟩
    · rw [hkey, readKey_registers (by rw [hhost]; exact h1) (by rw [hhost]; exact h2)]
    · rw [hkey, readKey_stands (by rw [hhost]; exact h), hhost]
    · rw [hutility, h1, readUtility_asserts (by rw [hw1]; exact h2) (by rw [hw2]; exact h3)]
    · rw [hutility, h1, readUtility_releases (by rw [hw1]; exact h2) (by rw [hw3]; exact h3)]
end

section
/-! PROOFS. The anode effects closed by a line reset (R64 to R67, R70). -/

open Sys2Proof Sys2Proof.Machine

namespace Sys2Proof.Machine

/-! ### The pots that are closed, and their log -/

/-- The numbers that `potsWhere` picks, read by place in the table. -/
theorem potsWhere_eq (f : Pot → Bool) (n : Nat) (xs : List Pot) :
    potsWhere f n xs = (List.range' n xs.length).filter fun p => f (xs.getD (p - n) Pot.initial) := by
  induction xs generalizing n with
  | nil => rfl
  | cons x xs ih =>
    have later : ∀ p ∈ List.range' (n + 1) xs.length,
        f (xs.getD (p - (n + 1)) Pot.initial) = f ((x :: xs).getD (p - n) Pot.initial) := by
      intro p hp
      obtain ⟨hlo, _⟩ := List.mem_range'_1.mp hp
      obtain ⟨k, rfl⟩ : ∃ k, p = k + (n + 1) := ⟨p - (n + 1), by omega⟩
      rw [show k + (n + 1) - n = k + 1 by omega, Nat.add_sub_cancel, List.getD_cons_succ]
    rw [List.length_cons, List.range'_succ, List.filter_cons, Nat.sub_self, List.getD_cons_zero,
      ← List.filter_congr later, ← ih]
    rfl

theorem potNumbers_eq : potNumbers = List.range' 1 384 := by
  simp [potNumbers, Config.pots, List.range'_eq_map_range, Nat.add_comm]

theorem potsWhere_pots {s : State} (hl : s.pots.length = 384) (f : Pot → Bool) :
    potsWhere f 1 s.pots = potNumbers.filter fun p => f (s.pot p) := by
  rw [potsWhere_eq, hl, potNumbers_eq]
  rfl

theorem potNumbers_nodup : potNumbers.Nodup := potNumbers_eq ▸ List.nodup_range'

/-- Keeping the newest entries at each append keeps the newest of them all. -/
theorem keepNewest_append {α : Type} (n : Nat) (xs ys : List α) :
    keepNewest n (keepNewest n xs ++ ys) = keepNewest n (xs ++ ys) := by
  unfold keepNewest
  rcases Nat.le_total xs.length n with h | h
  · rw [Nat.sub_eq_zero_of_le h, List.drop_zero]
  · have hle : xs.length - n ≤ xs.length := Nat.sub_le _ _
    rw [← List.drop_append_of_le_length hle, List.drop_drop]
    congr 1
    simp only [List.length_drop, List.length_append]
    omega

theorem nextAeNumber_eq {n : Nat} (h : n ≤ 4294967295) : nextAeNumber n = n % 4294967295 + 1 := by
  unfold nextAeNumber
  split <;> omega

/-! ### The monitor follows its map (R65, R66) -/

/-- Count, lamp and hold flag of the monitor follow its map (R65, R66). -/
structure State.AeFollows (s : State) : Prop where
  count : s.ae.count = aeMapCount s.ae.map
  lamp : s.ae.lamp = decide (0 < s.ae.count)
  hold : s.ae.hold = decide (s.cfgN .aeHoldCount ≤ s.ae.count)

theorem evalHold_follows {s : State} (hc : s.ae.count = aeMapCount s.ae.map)
    (hl : s.ae.lamp = decide (0 < s.ae.count)) : s.evalHold.AeFollows := by
  unfold State.evalHold
  dsimp only
  split
  · exact ⟨hc, hl, Eq.symm ‹_›⟩
  · exact ⟨hc, hl, rfl⟩

/-- The monitor once an AE has taken its number and stands in the log (R64, R67). -/
def State.aeLogged (s : State) (p : Nat) (c : EndCause) : State :=
  s.setAe { s.ae with
    closed := nextAeNumber s.ae.closed,
    log := keepNewest Config.aeLogSize (s.ae.log ++ [(s.pot p).ae.logRecord (nextAeNumber s.ae.closed) p c]) }

theorem closeAe_ae (s : State) (p : Nat) (c : EndCause) (nx : AeState) :
    (s.closeAe p c nx).ae = ((s.aeLogged p c).setAeFlag p false).evalHold.ae := by
  unfold State.closeAe State.aeLogged
  dsimp only [State.setPotAe, State.setPot]
  rw [State.setPots_ae, State.post_ae, State.setPots_ae]

theorem closeAe_follows (s : State) (p : Nat) (c : EndCause) (nx : AeState) : (s.closeAe p c nx).AeFollows := by
  have h : ((s.aeLogged p c).setAeFlag p false).evalHold.AeFollows := by
    unfold State.setAeFlag
    exact evalHold_follows rfl rfl
  have hset : (s.closeAe p c nx).settings = ((s.aeLogged p c).setAeFlag p false).evalHold.settings := by
    rw [Touches.settings (l := [.pots, .ae, .events]) ((touches_closeAe (by decide)).mpr (Touches.refl _ s)) (by decide),
      Touches.settings (l := [.ae, .events]) ((touches_evalHold (by decide)).mpr (Touches.refl _ _)) (by decide)]
    rfl
  obtain ⟨hc, hl, hh⟩ := h
  rw [← closeAe_ae (nx := nx)] at hc hl hh
  exact ⟨hc, hl, hh.trans (by rw [cfgN_congr hset])⟩

theorem onesBelow_zero (n : Nat) : onesBelow n 0 = 0 := by simp [onesBelow_eq]

/-- A map without a flag counts 0 (R65). -/
theorem aeMapCount_of_no_flag {m : AeMonitor} (hm : m.map.length = 12) (h : ∀ p ∈ potNumbers, m.flag p = false) :
    aeMapCount m.map = 0 := by
  have word : ∀ w ∈ m.map, onesBelow 32 w.toNat = 0 := by
    intro w hw
    obtain ⟨i, hi, rfl⟩ := List.mem_iff_getElem.mp hw
    have hz : m.map[i] = 0#32 := by
      refine BitVec.eq_of_getLsbD_eq fun k hk => ?_
      have hf := h (32 * i + k + 1) (mem_pots.mpr (by omega))
      have hdiv : (32 * i + k + 1 - 1) / 32 = i := by omega
      have hmod : (32 * i + k + 1 - 1) % 32 = k := by omega
      unfold AeMonitor.flag at hf
      rw [hdiv, hmod, List.getD_eq_getElem _ _ hi] at hf
      rw [hf, BitVec.getLsbD_zero]
    rw [hz]
    exact onesBelow_zero 32
  unfold aeMapCount
  rw [List.sum_eq_zero_iff]
  intro n hn
  obtain ⟨w, hw, rfl⟩ := List.mem_map.mp hn
  exact word w hw

theorem closeAe_closed (s : State) (p : Nat) (c : EndCause) (nx : AeState) :
    (s.closeAe p c nx).ae.closed = nextAeNumber s.ae.closed := by
  obtain ⟨_, h, _⟩ := evalHold_fields ((s.aeLogged p c).setAeFlag p false)
  rw [closeAe_ae, h]
  rfl

theorem closeAe_log (s : State) (p : Nat) (c : EndCause) (nx : AeState) :
    (s.closeAe p c nx).ae.log
      = keepNewest Config.aeLogSize (s.ae.log ++ [(s.pot p).ae.logRecord (nextAeNumber s.ae.closed) p c]) := by
  obtain ⟨_, _, h, _⟩ := evalHold_fields ((s.aeLogged p c).setAeFlag p false)
  rw [closeAe_ae, h]
  unfold State.setAeFlag State.aeLogged
  simp only [State.setAe_ae]

/-! ### Several AEs closed one after another (R70) -/

/-- The AEs of the pots `xs` closed by a line reset, in that order (R70). -/
def State.closeAes (s : State) (xs : List Nat) : State := xs.foldl (fun s p => s.closeAe p .lineReset .normal) s

theorem closeAes_append_singleton (s : State) (xs : List Nat) (p : Nat) :
    s.closeAes (xs ++ [p]) = (s.closeAes xs).closeAe p .lineReset .normal := by
  unfold State.closeAes
  rw [List.foldl_append]
  rfl

theorem aeLineReset_eq {s : State} (hl : s.pots.length = 384) :
    s.aeLineReset = s.closeAes (potNumbers.filter fun p => (s.pot p).ae.state.inAe) := by
  unfold State.aeLineReset
  rw [potsWhere_pots hl]
  rfl

/-- A pot whose AE a line reset has closed (R64, R70). -/
def Pot.aeEnded (x : Pot) : Pot := { x with ae := { x.ae with frozen := false, state := .normal } }

/-- The log record of the `k`th AE that a line reset closes, counted from 0 (R67). -/
def State.endRecord (s : State) (p k : Nat) : AeRecord :=
  (s.pot p).ae.logRecord ((s.ae.closed + k) % 4294967295 + 1) p .lineReset

/-- From `s` to `t` the AEs of the pots `xs` have been closed: what becomes of the table and of the map. -/
structure State.AesClosed (s t : State) (xs : List Nat) : Prop where
  pots_length : t.pots.length = 384
  map_length : t.ae.map.length = 12
  pot : ∀ p ∈ potNumbers, t.pot p = if p ∈ xs then (s.pot p).aeEnded else s.pot p
  flag : ∀ p ∈ potNumbers, t.ae.flag p = if p ∈ xs then false else s.ae.flag p
  excess : t.ae.excess = s.ae.excess

theorem closeAes_closed {s : State} (hm : s.ae.map.length = 12) (hl : s.pots.length = 384) {xs : List Nat}
    (hx : xs ⊆ potNumbers) (hnd : xs.Nodup) : s.AesClosed (s.closeAes xs) xs := by
  induction xs using List.reverseRecOn with
  | nil => exact ⟨hl, hm, fun _ _ => rfl, fun _ _ => rfl, rfl⟩
  | append_singleton xs p ih =>
    have hp : p ∈ potNumbers := hx (by simp)
    obtain ⟨hpx, hnd⟩ : p ∉ xs ∧ xs.Nodup := List.nodup_cons.mp (List.nodup_append_comm.mp hnd)
    obtain ⟨tl, tm, tpot, tflag, texcess⟩ := ih (fun _ h => hx (List.mem_append_left _ h)) hnd
    obtain ⟨hp1, hp2⟩ := mem_pots.mp hp
    obtain ⟨cself, cother, cl, cm, cflag, ⟨_, _, cfalse, _⟩, cexcess⟩ :=
      closeAe_spec (s.closeAes xs) p .lineReset .normal tm tl hp1 hp2
    rw [closeAes_append_singleton]
    refine ⟨cl, cm, fun q hq => ?_, fun q hq => ?_, cexcess.trans texcess⟩
    · by_cases hqp : q = p
      · subst hqp
        rw [cself, tpot q hq, if_neg hpx, if_pos (by simp)]
        rfl
      · rw [cother q (mem_pots.mp hq).1 hqp, tpot q hq]
        simp [hqp]
    · by_cases hqp : q = p
      · subst hqp
        rw [cfalse, if_pos (by simp)]
      · rw [cflag q (mem_pots.mp hq).1 hqp, tflag q hq]
        simp [hqp]

/-- The number that the next AE takes once those of `xs` are closed (R64). -/
theorem closeAes_next {s : State} (hc : s.ae.closed ≤ 4294967295) (xs : List Nat) :
    nextAeNumber (s.closeAes xs).ae.closed = (s.ae.closed + xs.length) % 4294967295 + 1 := by
  induction xs using List.reverseRecOn with
  | nil => exact nextAeNumber_eq hc
  | append_singleton xs p ih =>
    rw [closeAes_append_singleton, closeAe_closed, ih, nextAeNumber_eq (by omega), List.length_append,
      List.length_singleton]
    omega

theorem closeAes_last {s : State} (hc : s.ae.closed ≤ 4294967295) {xs : List Nat} (h : xs ≠ []) :
    (s.closeAes xs).ae.closed = (s.ae.closed + (xs.length - 1)) % 4294967295 + 1 := by
  obtain ⟨ys, p, rfl⟩ := (List.eq_nil_or_concat' xs).resolve_left h
  rw [closeAes_append_singleton, closeAe_closed, closeAes_next hc, List.length_append, List.length_singleton,
    Nat.add_sub_cancel]

/-- The log once the AEs of `xs` are closed (R64, R67). -/
theorem closeAes_log {s : State} (hm : s.ae.map.length = 12) (hl : s.pots.length = 384)
    (hlog : s.ae.log.length ≤ 128) (hc : s.ae.closed ≤ 4294967295) {xs : List Nat} (hx : xs ⊆ potNumbers)
    (hnd : xs.Nodup) :
    (s.closeAes xs).ae.log
      = keepNewest Config.aeLogSize (s.ae.log ++ xs.zipIdx.map fun x => s.endRecord x.1 x.2) := by
  induction xs using List.reverseRecOn with
  | nil => simp [State.closeAes, keepNewest, Config.aeLogSize, Nat.sub_eq_zero_of_le hlog]
  | append_singleton xs p ih =>
    have hp : p ∈ potNumbers := hx (by simp)
    have hxs : xs ⊆ potNumbers := fun _ h => hx (List.mem_append_left _ h)
    obtain ⟨hpx, hnd⟩ : p ∉ xs ∧ xs.Nodup := List.nodup_cons.mp (List.nodup_append_comm.mp hnd)
    have hpot : (s.closeAes xs).pot p = s.pot p := by
      rw [(closeAes_closed hm hl hxs hnd).pot p hp, if_neg hpx]
    rw [closeAes_append_singleton, closeAe_log, closeAes_next hc, ih hxs hnd, hpot, keepNewest_append,
      List.zipIdx_append]
    simp [State.endRecord]

/-! ### The monitor after a line reset -/

theorem closeAes_follows {s : State} (h : s.AeFollows) (xs : List Nat) : (s.closeAes xs).AeFollows := by
  induction xs using List.reverseRecOn with
  | nil => exact h
  | append_singleton xs p _ =>
    rw [closeAes_append_singleton]
    exact closeAe_follows _ _ _ _

/-- The pots in an AE, which a line reset closes (R70). -/
def State.aesOpen (s : State) : List Nat := potNumbers.filter fun p => (s.pot p).ae.state.inAe

theorem mem_aesOpen {s : State} {p : Nat} : p ∈ s.aesOpen ↔ p ∈ potNumbers ∧ (s.pot p).ae.state.inAe = true :=
  List.mem_filter

theorem aesOpen_subset (s : State) : s.aesOpen ⊆ potNumbers := List.filter_subset_self _

theorem aesOpen_nodup (s : State) : s.aesOpen.Nodup := potNumbers_nodup.filter _

theorem aeLineReset_closed {s : State} (hm : s.ae.map.length = 12) (hl : s.pots.length = 384) :
    s.AesClosed s.aeLineReset s.aesOpen := by
  rw [aeLineReset_eq hl]
  exact closeAes_closed hm hl (aesOpen_subset s) (aesOpen_nodup s)

theorem aeLineReset_log {s : State} (hm : s.ae.map.length = 12) (hl : s.pots.length = 384)
    (hlog : s.ae.log.length ≤ 128) (hc : s.ae.closed ≤ 4294967295) :
    s.aeLineReset.ae.log
      = keepNewest Config.aeLogSize (s.ae.log ++ s.aesOpen.zipIdx.map fun x => s.endRecord x.1 x.2) := by
  rw [aeLineReset_eq hl]
  exact closeAes_log hm hl hlog hc (aesOpen_subset s) (aesOpen_nodup s)

theorem aeLineReset_of_none {s : State} (hl : s.pots.length = 384) (h : s.aesOpen = []) : s.aeLineReset = s := by
  rw [aeLineReset_eq hl]
  unfold State.aesOpen at h
  rw [h]
  rfl

theorem aeLineReset_last {s : State} (hl : s.pots.length = 384) (hc : s.ae.closed ≤ 4294967295)
    (h : s.aesOpen ≠ []) :
    s.aeLineReset.ae.closed = (s.ae.closed + (s.aesOpen.length - 1)) % 4294967295 + 1 := by
  rw [aeLineReset_eq hl]
  exact closeAes_last hc h

/-- No pot is in an AE after a line reset: no flag stands, and count, lamp and hold flag say so (R65, R66, R70). -/
theorem aeLineReset_quiet {s : State} (hm : s.ae.map.length = 12) (hl : s.pots.length = 384) (hf : s.AeFollows)
    (hflag : ∀ p ∈ potNumbers, s.ae.flag p = (s.pot p).ae.state.inAe) (hcount : 1 ≤ s.cfgN .aeHoldCount) :
    (∀ p ∈ potNumbers, s.aeLineReset.ae.flag p = false) ∧ s.aeLineReset.ae.count = 0
      ∧ s.aeLineReset.ae.hold = false ∧ s.aeLineReset.ae.lamp = false := by
  have hclosed := aeLineReset_closed hm hl
  have hflags : ∀ p ∈ potNumbers, s.aeLineReset.ae.flag p = false := by
    intro p hp
    rw [hclosed.flag p hp, hflag p hp]
    split
    · rfl
    · rename_i hopen
      exact Bool.eq_false_iff.mpr fun hin => hopen (mem_aesOpen.mpr ⟨hp, hin⟩)
  have hfollows : s.aeLineReset.AeFollows := by
    rw [aeLineReset_eq hl]
    exact closeAes_follows hf _
  have hset : s.aeLineReset.settings = s.settings :=
    Touches.settings (l := [.pots, .ae, .events]) ((touches_aeLineReset (by decide)).mpr (Touches.refl _ _)) (by decide)
  have hzero : s.aeLineReset.ae.count = 0 :=
    hfollows.count.trans (aeMapCount_of_no_flag hclosed.map_length hflags)
  refine ⟨hflags, hzero, ?_, ?_⟩
  · rw [hfollows.hold, hzero, cfgN_congr hset]
    exact decide_eq_false (by omega)
  · rw [hfollows.lamp, hzero]
    rfl

end Sys2Proof.Machine
end

section
/-! PROOFS. The line reset (O21; R15, R36, R40, R49, R70, R86, R109, R125, R127, R157, R162, R180). -/

open Sys2Proof Sys2Proof.Machine

namespace Sys2Proof.Machine

/-! ### Entry to SAFE when no group has a command (R107) -/

theorem enterSafe_link_of_idle {s : State} (cause : EntryCause) (h : ∀ g, (s.unit g).command = none) :
    (s.enterSafe cause).link = s.link := by
  have key : ∀ (xs : List Group), xs.foldl State.withdrawStart (s.safeAnnounced cause) = s.safeAnnounced cause := by
    intro xs
    induction xs with
    | nil => rfl
    | cons g xs ih => 
      have hg : ((s.safeAnnounced cause).unit g).command = none := h g
      rw [List.foldl_cons, withdrawStart_of_none hg, ih]
  rw [enterSafe_eq, State.setReg_link]
  unfold State.eachGroup
  rw [key]
  rfl

theorem safeIfAsserted_link_of_idle {s : State} (h : ∀ g, (s.unit g).command = none) :
    s.safeIfAsserted.link = s.link := by
  unfold State.safeIfAsserted
  split
  · exact enterSafe_link_of_idle _ h
  · rfl

theorem safeIfAsserted_sup {s : State} (h : s.sup.state = .setup) : s.safeIfAsserted.sup
    = { s.sup with state := if s.sup.safeLevel then .safe else .setup,
                   cause := if s.sup.safeLevel then .safeInput else s.sup.cause,
                   lossTimer := if s.sup.safeLevel then none else s.sup.lossTimer } := by
  unfold State.safeIfAsserted
  cases hl : s.sup.safeLevel
  · simp only [Bool.false_and, Bool.false_eq_true, if_false, ← h]
  · rw [if_pos (by rw [h]; rfl), enterSafe_sup]
    rfl

/-- The regulator at its reset values is not changed by entry to SAFE (R127, R142). -/
theorem safeIfAsserted_reg {s : State} (h : s.reg = Regulator.initial) :
    s.safeIfAsserted.reg = Regulator.initial := by
  unfold State.safeIfAsserted
  split
  · rw [enterSafe_reg, h]
    rfl
  · exact h

/-! ### The loops (R80, R86) -/

/-- The loop's records of a group after its part in a line reset, before its join credit is aligned (R86). -/
def Cooling.lineReset (c : Cooling) : Cooling :=
  { c with
    loop := { c.loop with dwell := c.loop.dwell.map fun _ => 0, begun := false },
    cap := if c.cap.unloading then { c.cap with unloading := false, lastEnd := .lineReset } else c.cap }

theorem Cooling.lineReset_cap (c : Cooling) : c.lineReset.cap = { c.cap with
    unloading := false, lastEnd := if c.cap.unloading then .lineReset else c.cap.lastEnd } := by
  obtain ⟨loop, ⟨capacity, credit, unloading, origin, timer, lastEnd⟩, left⟩ := c
  cases unloading <;> rfl

theorem resetLoops_coolOf (s : State) (g : Group) : s.resetLoops.coolOf g = (s.coolOf g).lineReset := by
  have hcool : ∀ g, s.resetPots.coolOf g = s.coolOf g := fun g =>
    (coolOf_congr (touches_resetPots.cool (by decide)) g).trans (coolOf_congr (touches_resetBegun.cool (by decide)) g)
  refine eachGroup_view (view := State.coolOf) (l := [.cool]) (val := fun g => (s.coolOf g).lineReset)
    (fun _ _ => (touches_coolingLineReset (by decide)).mpr (Touches.refl _ _))
    (fun t g h hne => coolOf_setCoolOf_ne _ _ hne) (fun t g _ hv => ?_) g
  have hself : (t.coolingLineReset g).coolOf g = (t.coolOf g).lineReset := coolOf_setCoolOf_self _ _ _
  rw [hself, hv, hcool]

theorem touches_resetToLoops {s : State} :
    Touches [.host, .events, .sup, .reg, .pots, .ae, .scan, .cool] s s.resetLoops :=
  (touches_resetBegun.mono (by decide)).trans
    ((touches_resetPots.mono (by decide)).trans (touches_resetLoops.mono (by decide)))

theorem resetLoops_allocatable (s : State) (g : Group) : s.resetLoops.allocatable g = s.allocatable g :=
  allocatable_congr (touches_resetToLoops.settings (by decide))
    (by rw [unit_congr (touches_resetToLoops.link (by decide))])

theorem carriage_alloc_get (s : State) (g : Group) : s.carriage.alloc.get g = s.allocatable g := Six.get_ofFn _ _

theorem touches_slotsReset {s : State} : Touches [.link] s s.slotsReset :=
  (touches_setLink (by decide)).mpr (Touches.refl _ _)

theorem slotsReset_coolOf (s : State) (g : Group) : s.slotsReset.coolOf g = s.coolOf g :=
  coolOf_congr (touches_slotsReset.cool (by decide)) g

theorem slotsReset_unit (s : State) (g : Group) : s.slotsReset.unit g = (s.unit g).lineReset := Six.get_ofFn _ _

theorem slotsReset_not_allocatable (s : State) (g : Group) : s.slotsReset.allocatable g = false := by
  unfold State.allocatable
  rw [slotsReset_unit]
  simp [GroupUnit.lineReset]

/-- What a line reset makes of a loop's records: a join credit of a group that was allocatable becomes 0 (R80,
R86). -/
theorem resetLink_coolOf (s : State) (g : Group) :
    s.resetLink.coolOf g = { (s.coolOf g).lineReset with
      cap := { (s.coolOf g).lineReset.cap with
        credit := if s.allocatable g then 0 else (s.coolOf g).lineReset.cap.credit } } := by
  have hstage : s.resetLink.cool = (s.resetLoops.slotsReset.aligned s.resetLoops.carriage.alloc).cool := by
    rw [resetLink_eq]
    refine Touches.cool (l := [.link]) ?_ (by decide)
    exact (touches_eachGroup fun _ _ => (touches_rewriteStage (by decide)).mpr (Touches.refl _ _)).mpr
      (Touches.refl _ _)
  rw [coolOf_congr hstage, aligned_coolOf, carriage_alloc_get, resetLoops_allocatable]
  unfold State.alignedCap
  rw [slotsReset_not_allocatable, slotsReset_coolOf, resetLoops_coolOf]
  cases s.allocatable g <;> rfl

/-! ### The units (R109) -/

theorem rewriteStage_unit_self (s : State) (g : Group) :
    (s.rewriteStage g).unit g = { s.unit g with
      stage := if s.fitted g then (s.unit g).stage.write (s.coolOf g).loop.stage else (s.unit g).stage } := by
  unfold State.rewriteStage
  split
  · exact unit_setUnit_self _ _ _
  · rfl

theorem rewriteStage_unit_ne (s : State) {g h : Group} (e : h ≠ g) : (s.rewriteStage g).unit h = s.unit h := by
  unfold State.rewriteStage
  split
  · exact unit_setUnit_ne _ _ e
  · rfl

theorem ValueSlot.write_settle (ack v : Nat) : (ValueSlot.settle ack).write v = ⟨v, false, .absent⟩ := by
  unfold ValueSlot.write ValueSlot.settle
  split
  · rename_i h; rw [h]
  · rfl

theorem resetLink_unit (s : State) (g : Group) :
    s.resetLink.unit g = { (s.unit g).lineReset with
      stage := ⟨if s.fitted g then (s.coolOf g).loop.stage else (s.unit g).record.ackStage, false, .absent⟩ } := by
  have hunit : ∀ g, (s.resetLoops.slotsReset.aligned s.resetLoops.carriage.alloc).unit g = (s.unit g).lineReset :=
    fun g => by
      rw [unit_congr (touches_aligned.link (by decide)), slotsReset_unit,
        unit_congr (touches_resetToLoops.link (by decide))]
  have hset : (s.resetLoops.slotsReset.aligned s.resetLoops.carriage.alloc).settings = s.settings :=
    by
    rw [touches_aligned.settings (by decide), touches_slotsReset.settings (by decide),
      touches_resetToLoops.settings (by decide)]
  have hstage : ∀ g, ((s.resetLoops.slotsReset.aligned s.resetLoops.carriage.alloc).coolOf g).loop.stage
      = (s.coolOf g).loop.stage := fun g => by
    rw [aligned_coolOf, slotsReset_coolOf, resetLoops_coolOf]
    split <;> rfl
  rw [resetLink_eq]
  refine eachGroup_view (view := State.unit) (l := [.link])
    (val := fun g => { (s.unit g).lineReset with
      stage := ⟨if s.fitted g then (s.coolOf g).loop.stage else (s.unit g).record.ackStage, false, .absent⟩ })
    (fun _ _ => (touches_rewriteStage (by decide)).mpr (Touches.refl _ _))
    (fun t g h hne => rewriteStage_unit_ne t hne) (fun t g ht hv => ?_) g
  rw [rewriteStage_unit_self, hv, hunit, fitted_congr ((ht.settings (by decide)).trans hset),
    coolOf_congr (ht.cool (by decide)), hstage]
  unfold GroupUnit.lineReset
  dsimp only
  rw [ValueSlot.write_settle]
  cases s.fitted g <;> rfl

/-- The parts of the link that belong to no group after a line reset (R99, R109 step 1). -/
theorem resetLink_bus (s : State) :
    s.resetLink.link.bus = s.link.bus.discard ∧ s.resetLink.link.lastServed = s.link.lastServed := by
  have key : ∀ (xs : List Group) (t : State), (xs.foldl State.rewriteStage t).link.bus = t.link.bus
      ∧ (xs.foldl State.rewriteStage t).link.lastServed = t.link.lastServed := by
    intro xs
    induction xs with
    | nil => exact fun _ => ⟨rfl, rfl⟩
    | cons g xs ih =>
      intro t
      have hg : (t.rewriteStage g).link.bus = t.link.bus ∧ (t.rewriteStage g).link.lastServed = t.link.lastServed := by
        unfold State.rewriteStage
        split <;> exact ⟨rfl, rfl⟩
      rw [List.foldl_cons, (ih _).1, (ih _).2]
      exact hg
  have hslots : ∀ t : State, t.slotsReset.link.bus = t.link.bus.discard
      ∧ t.slotsReset.link.lastServed = t.link.lastServed := fun _ => ⟨rfl, rfl⟩
  have hlink : s.resetLoops.link = s.link := touches_resetToLoops.link (by decide)
  rw [resetLink_eq]
  unfold State.eachGroup
  rw [(key _ _).1, (key _ _).2, touches_aligned.link (by decide), (hslots _).1, (hslots _).2, hlink]
  exact ⟨rfl, rfl⟩

/-! ### The scan (R40, R49) -/

/-- The segments that a discard leaves: the one whose frame is being sent (R49). -/
def State.segmentsKept (s : State) : List Segment := if s.host.reporting then s.scan.segments.take 1 else []

theorem scanLineReset_scan (s : State) : s.scanLineReset.scan = { s.scan with
    pass := none, segments := s.segmentsKept,
    reportSkips := if s.segmentsKept.length < s.scan.segments.length then satInc 65535 s.scan.reportSkips
      else s.scan.reportSkips } := by
  have hdiscard : s.abandonPass.discardSegments.scan = { s.scan with pass := none, segments := s.segmentsKept } := rfl
  unfold State.scanLineReset State.when
  simp only [decide_eq_true_eq, hdiscard]
  split
  · rw [State.setScan_scan]
    rfl
  · exact hdiscard

/-! ### The ceiling stack (R125) -/

/-- The UTILITY entry that a line reset pushes anew (R120, R125). -/
def State.utilityEntry (s : State) : StackEntry :=
  { id := s.stack.nextId, source := .utility, ceiling := min (s.cfgN .utilityCeiling) s.lineMax, rate := none,
    life := none, pushed := s.energy.time }

theorem utilityEntry_congr {s t : State} (hset : t.settings = s.settings) (he : t.energy = s.energy)
    (hid : t.stack.nextId = s.stack.nextId) : t.utilityEntry = s.utilityEntry := by
  simp only [State.utilityEntry, cfgN_congr hset, lineMax_congr hset, he, hid]

theorem pushUtility_of_empty {s : State} (h : s.stack.entries = []) :
    s.pushUtility.stack = { s.stack with entries := [s.utilityEntry], nextId := idAfter s.stack.nextId } := by
  have hid : s.stack.newId = s.stack.nextId := by
    unfold CeilingStack.newId
    rw [h]
    rfl
  have hevict : s.evictOldest = s := by
    unfold State.evictOldest
    exact if_pos (by rw [h]; decide)
  unfold State.pushUtility State.pushEntry State.postStack State.utilityEntry
  rw [h, hevict]
  simp [hid, h, State.clampCeiling]

/-- The stack in a line reset, with the pot switching procedure ended and the entries removed (R125). -/
def State.stackEmptied (s : State) : State :=
  let w := s.stack.switching
  let s1 := s.when w.inProgress fun s =>
    (s.setSwitching { w with phase := .none, lastEnd := .lineReset }).postSwitch w.pot [3, SwitchEnd.lineReset.code]
  s1.setStack { s1.stack with entries := [] }

theorem stackEmptied_stack (s : State) : s.stackEmptied.stack = { s.stack with
    entries := [],
    switching := if s.stack.switching.phase = .none then s.stack.switching
      else { s.stack.switching with phase := .none, lastEnd := .lineReset } } := by
  unfold State.stackEmptied State.when Switching.inProgress
  by_cases hp : s.stack.switching.phase = .none
  · simp [hp]
  · simp [hp, State.postSwitch, State.setSwitching]

theorem touches_stackEmptied {s : State} : Touches [.stack, .events] s s.stackEmptied := by
  unfold State.stackEmptied State.postSwitch
  simp

/-- A line reset empties the stack but for a UTILITY entry pushed anew (R125). -/
theorem stackLineReset_stack (s : State) : s.stackLineReset.stack = { s.stackEmptied.stack with
    entries := if s.stack.utility then [s.utilityEntry] else [],
    nextId := if s.stack.utility then idAfter s.stack.nextId else s.stack.nextId } := by
  have e : s.stackLineReset = s.stackEmptied.when s.stackEmptied.stack.utility State.pushUtility := rfl
  have hentry : s.stackEmptied.utilityEntry = s.utilityEntry :=
    utilityEntry_congr (touches_stackEmptied.settings (by decide)) (touches_stackEmptied.energy (by decide))
      (by rw [stackEmptied_stack])
  have hempty : s.stackEmptied.stack.entries = [] := by rw [stackEmptied_stack]
  have hutil : s.stackEmptied.stack.utility = s.stack.utility := by rw [stackEmptied_stack]
  have hnext : s.stackEmptied.stack.nextId = s.stack.nextId := by rw [stackEmptied_stack]
  rw [e, hutil]
  cases s.stack.utility
  · simp [State.when, ← hempty, ← hnext]
  · simp [State.when, pushUtility_of_empty hempty, hentry, hnext]

/-! ### The host link and the events (R180) -/

theorem hostLineReset_host (s : State) : s.hostLineReset.host
    = { s.host with queue := [], badLen := 0, timeouts := 0, crcErrors := 0, overruns := 0 } := by
  unfold State.hostLineReset
  rfl

theorem hostLineReset_events (s : State) : s.hostLineReset.events.entries
    = [⟨.resetDone, 0, eventValue [[2#8]], s.energy.time, s.energy.time, 1⟩] := by
  unfold State.hostLineReset
  rfl

/-- What a line reset does after the host link's own part touches no host register (R180). -/
theorem touches_resetAfterHost {s : State} :
    Touches [.sup, .reg, .pots, .ae, .events, .scan, .cool, .link, .stack, .energy] s.hostLineReset
      s.lineResetBlocks := by
  refine Touches.trans ?_ (touches_resetRest.mono (by decide))
  exact (touches_setReg (by decide)).mpr ((touches_supLineReset (by decide)).mpr (Touches.refl _ _))

/-- The kinds that a line reset posts after RESET_DONE. -/
def resetKinds : List EventKind := [.aeHold, .aeEnd, .switch, .stackChange, .supState, .safe, .orderDone, .orderFailed]

theorem posts_lineResetBlocks (s : State) : Posts resetKinds s.hostLineReset s.lineResetBlocks := by
  have hae : Posts resetKinds s.hostLineReset s.resetBegun.aeLineReset :=
    posts_aeLineReset (.of_touches (l := [.sup, .reg]) ((touches_setReg (by decide)).mpr
      ((touches_supLineReset (by decide)).mpr (Touches.refl _ _))) (by decide)) (by decide)
  have hscan : Posts resetKinds s.resetBegun.aeLineReset s.resetPots :=
    .of_touches (l := [.scan]) ((touches_scanLineReset (by decide)).mpr (Touches.refl _ _)) (by decide)
  have hlink : Posts resetKinds s.resetPots s.resetLink :=
    (Posts.of_touches touches_resetLoops (by decide)).trans (.of_touches touches_resetLink (by decide))
  have hstack : Posts resetKinds s.resetLink s.lineResetBlocks := by
    rw [lineResetBlocks_eq]
    exact posts_setEnergy (posts_stackLineReset (.refl _ _) (by decide))
  exact hae.trans (hscan.trans (hlink.trans hstack))

/-! ### The line reset as a whole -/

theorem exec_lineReset_of_admits {s : State} {f : Frame} {rest : List Frame} (h : s.Admits .lineReset f rest) :
    exec .lineReset s = .next (s.taken.lineReset.2.answer f true s.taken.lineReset.1) := by
  show Host.Outcome.next (s.serve .lineReset fun _ _ s => s.lineReset) = _
  rw [serve_of_admits h, engineer_of_admits h rfl]

/-- The state that a line reset leaves (R15). -/
def State.lineResetDone (s : State) : State := s.lineResetBlocks.safeIfAsserted

theorem lineReset_done (s : State) :
    s.lineReset = (⟨.ok, beBytes 1 s.lineResetDone.sup.state.code⟩, s.lineResetDone) := by
  unfold State.lineResetDone
  exact lineReset_eq s

theorem lineResetDone_sup (s : State) : s.lineResetDone.sup
    = { s.sup with state := if s.sup.safeLevel then .safe else .setup,
                   cause := if s.sup.safeLevel then .safeInput else .lineReset,
                   lastRun := .none, lossTimer := none } := by
  unfold State.lineResetDone
  rw [safeIfAsserted_sup (by rw [lineResetBlocks_sup]), lineResetBlocks_sup]
  simp

theorem touches_lineResetDone {s : State} :
    Touches [.host, .events, .sup, .reg, .pots, .ae, .scan, .cool, .link, .energy, .stack] s s.lineResetDone :=
  (touches_safeIfAsserted (by decide)).mpr ((touches_lineResetBlocks (by decide)).mpr (Touches.refl _ _))

/-- Entry to SAFE after a line reset touches the supervisor, the event queue, and nothing but the values of the
regulator and the link that the reset has laid down (R11, R15). -/
theorem touches_resetDone {s : State} : Touches [.sup, .events, .link, .reg] s.lineResetBlocks s.lineResetDone :=
  (touches_safeIfAsserted (by decide)).mpr (Touches.refl _ _)

theorem lineResetDone_host (s : State) : s.lineResetDone.host
    = { s.host with queue := [], badLen := 0, timeouts := 0, crcErrors := 0, overruns := 0 } := by
  rw [touches_resetDone.host (by decide), touches_resetAfterHost.host (by decide), hostLineReset_host]

theorem lineResetDone_reg (s : State) : s.lineResetDone.reg = Regulator.initial :=
  safeIfAsserted_reg (lineResetBlocks_reg s)

theorem lineResetDone_link (s : State) : s.lineResetDone.link = s.resetLink.link := by
  have hlink : s.lineResetBlocks.link = s.resetLink.link := touches_resetStack.link (by decide)
  rw [← hlink]
  refine safeIfAsserted_link_of_idle fun g => ?_
  rw [unit_congr hlink, resetLink_unit]
  rfl

theorem lineResetDone_cool (s : State) : s.lineResetDone.cool = s.resetLink.cool :=
  (touches_resetDone.cool (by decide)).trans (touches_resetStack.cool (by decide))

theorem lineResetDone_scan (s : State) : s.lineResetDone.scan = { s.scan with
    pass := none, segments := s.segmentsKept,
    reportSkips := if s.segmentsKept.length < s.scan.segments.length then satInc 65535 s.scan.reportSkips
      else s.scan.reportSkips } := by
  have hae : Touches [.pots, .ae, .events] s.resetBegun s.resetBegun.aeLineReset :=
    (touches_aeLineReset (by decide)).mpr (Touches.refl _ _)
  have hscan : s.resetBegun.aeLineReset.scan = s.scan := by
    rw [hae.scan (by decide), touches_resetBegun.scan (by decide)]
  have hhost : s.resetBegun.aeLineReset.host = s.hostLineReset.host := by
    rw [hae.host (by decide)]
    exact Touches.host (l := [.sup, .reg]) ((touches_setReg (by decide)).mpr
      ((touches_supLineReset (by decide)).mpr (Touches.refl _ _))) (by decide)
  have hkept : s.resetBegun.aeLineReset.segmentsKept = s.segmentsKept := by
    unfold State.segmentsKept HostLink.reporting
    rw [hscan, hhost, hostLineReset_host]
  rw [touches_resetDone.scan (by decide), touches_resetStack.scan (by decide), touches_resetLink.scan (by decide),
    touches_resetLoops.scan (by decide)]
  unfold State.resetPots
  rw [scanLineReset_scan, hkept, hscan]

/-- RESET_DONE is the first entry of the event queue after a line reset (R180). -/
theorem lineReset_resetDone (s : State) :
    ∃ e more, s.lineResetDone.events.entries = e :: more ∧ e.kind = .resetDone ∧ e.subject = 0
      ∧ e.value = eventValue [[2#8]] ∧ e.count = 1 := by
  unfold State.lineResetDone
  obtain ⟨more, h⟩ := (posts_safeIfAsserted (posts_lineResetBlocks s) (by decide)).first _ _ (hostLineReset_events s)
    (show EventKind.resetDone ∉ resetKinds by decide)
  exact ⟨_, more, h, rfl, rfl, rfl, rfl⟩

theorem lineResetDone_energy (s : State) :
    s.lineResetDone.energy = { s.energy with limiter := Limiter.initial } := by
  have hlink : s.resetLink.stackLineReset.energy = s.energy := by
    rw [Touches.energy (l := [.stack, .events]) ((touches_stackLineReset (by decide)).mpr (Touches.refl _ _))
        (by decide), touches_resetLink.energy (by decide), touches_resetToLoops.energy (by decide)]
  rw [touches_resetDone.energy (by decide), lineResetBlocks_eq]
  unfold State.energyLineReset State.setLimiter
  rw [State.setEnergy_energy, hlink]

theorem touches_resetToLink {s : State} :
    Touches [.host, .events, .sup, .reg, .pots, .ae, .scan, .cool, .link] s s.resetLink :=
  (touches_resetToLoops.mono (by decide)).trans (touches_resetLink.mono (by decide))

theorem lineResetDone_stack (s : State) : s.lineResetDone.stack = { s.stack with
    entries := if s.stack.utility then [s.utilityEntry] else [],
    nextId := if s.stack.utility then idAfter s.stack.nextId else s.stack.nextId,
    switching := if s.stack.switching.phase = .none then s.stack.switching
      else { s.stack.switching with phase := .none, lastEnd := .lineReset } } := by
  have hstack : s.resetLink.stack = s.stack := touches_resetToLink.stack (by decide)
  have hentry : s.resetLink.utilityEntry = s.utilityEntry :=
    utilityEntry_congr (touches_resetToLink.settings (by decide)) (touches_resetToLink.energy (by decide))
      (by rw [hstack])
  rw [touches_resetDone.stack (by decide), lineResetBlocks_eq,
    Touches.stack (l := [.energy]) ((touches_energyLineReset (by decide)).mpr (Touches.refl _ _)) (by decide),
    stackLineReset_stack, stackEmptied_stack, hentry, hstack]

theorem lineResetDone_pots_ae (s : State) :
    s.lineResetDone.pots = s.resetBegun.aeLineReset.pots ∧ s.lineResetDone.ae = s.resetBegun.aeLineReset.ae := by
  have ht : Touches [.scan, .cool, .link, .stack, .events, .energy] s.resetBegun.aeLineReset s.lineResetBlocks := by
    refine Touches.trans (t := s.resetPots) ((touches_scanLineReset (by decide)).mpr (Touches.refl _ _)) ?_
    exact (touches_resetLoops.mono (by decide)).trans
      ((touches_resetLink.mono (by decide)).trans (touches_resetStack.mono (by decide)))
  exact ⟨(touches_resetDone.pots (by decide)).trans (ht.pots (by decide)),
    (touches_resetDone.ae (by decide)).trans (ht.ae (by decide))⟩

theorem resetBegun_pot (s : State) (p : Nat) : s.resetBegun.pot p = s.pot p := by
  unfold State.pot
  rw [touches_resetBegun.pots (by decide)]

theorem aesOpen_resetBegun (s : State) : s.resetBegun.aesOpen = s.aesOpen := by
  simp only [State.aesOpen, resetBegun_pot]

theorem endRecord_resetBegun (s : State) : s.resetBegun.endRecord = s.endRecord := by
  funext p k
  simp only [State.endRecord, resetBegun_pot, touches_resetBegun.ae (by decide)]

theorem resetBegun_ae (s : State) : s.resetBegun.ae = s.ae := touches_resetBegun.ae (by decide)

theorem resetBegun_pots (s : State) : s.resetBegun.pots = s.pots := touches_resetBegun.pots (by decide)

section
variable {s : State} (hm : s.ae.map.length = 12) (hl : s.pots.length = 384)
include hm hl

theorem lineResetDone_aesClosed : s.AesClosed s.lineResetDone s.aesOpen := by
  obtain ⟨hp, ha⟩ := lineResetDone_pots_ae s
  obtain ⟨hpots, hmap, hpot, hflag, hexcess⟩ := aeLineReset_closed (s := s.resetBegun)
    (by rw [resetBegun_ae, hm]) (by rw [resetBegun_pots, hl])
  rw [aesOpen_resetBegun] at hpot hflag
  refine ⟨by rw [hp, hpots], by rw [ha, hmap], fun p hmem => ?_, fun p hmem => ?_, by rw [ha, hexcess, resetBegun_ae]⟩
  · have := hpot p hmem
    rw [resetBegun_pot] at this
    unfold State.pot at this ⊢
    rw [hp]
    exact this
  · rw [ha, hflag p hmem, resetBegun_ae]

theorem lineResetDone_log (hlog : s.ae.log.length ≤ 128) (hc : s.ae.closed ≤ 4294967295) :
    s.lineResetDone.ae.log
      = keepNewest Config.aeLogSize (s.ae.log ++ s.aesOpen.zipIdx.map fun x => s.endRecord x.1 x.2) := by
  have h := aeLineReset_log (s := s.resetBegun) (by rw [resetBegun_ae, hm]) (by rw [resetBegun_pots, hl])
    (by rw [resetBegun_ae]; exact hlog) (by rw [resetBegun_ae]; exact hc)
  rw [(lineResetDone_pots_ae s).2, h, aesOpen_resetBegun, endRecord_resetBegun, resetBegun_ae]

omit hm in
theorem lineResetDone_ae_of_none (h : s.aesOpen = []) : s.lineResetDone.ae = s.ae := by
  rw [(lineResetDone_pots_ae s).2, aeLineReset_of_none (by rw [resetBegun_pots, hl]) (by rw [aesOpen_resetBegun, h]),
    resetBegun_ae]

omit hm in
theorem lineResetDone_last (hc : s.ae.closed ≤ 4294967295) (h : s.aesOpen ≠ []) :
    s.lineResetDone.ae.closed = (s.ae.closed + (s.aesOpen.length - 1)) % 4294967295 + 1 := by
  rw [(lineResetDone_pots_ae s).2, aeLineReset_last (by rw [resetBegun_pots, hl]) (by rw [resetBegun_ae]; exact hc)
    (by rwa [aesOpen_resetBegun]), aesOpen_resetBegun, resetBegun_ae]

theorem lineResetDone_quiet (hf : s.AeFollows) (hflag : ∀ p ∈ potNumbers, s.ae.flag p = (s.pot p).ae.state.inAe)
    (hcount : 1 ≤ s.cfgN .aeHoldCount) :
    (∀ p ∈ potNumbers, s.lineResetDone.ae.flag p = false) ∧ s.lineResetDone.ae.count = 0
      ∧ s.lineResetDone.ae.hold = false ∧ s.lineResetDone.ae.lamp = false := by
  have hset : s.resetBegun.settings = s.settings := touches_resetBegun.settings (by decide)
  rw [(lineResetDone_pots_ae s).2]
  refine aeLineReset_quiet (by rw [resetBegun_ae, hm]) (by rw [resetBegun_pots, hl]) ?_ (fun p hp => ?_)
    (by rwa [cfgN_congr hset])
  · obtain ⟨hcnt, hlamp, hhold⟩ := hf
    refine ⟨?_, ?_, ?_⟩
    · rwa [resetBegun_ae]
    · rwa [resetBegun_ae]
    · rwa [resetBegun_ae, cfgN_congr hset]
  · rw [resetBegun_ae, resetBegun_pot]
    exact hflag p hp

end

/-- The AE hold count is a setting of 1 to 8 (11.6). -/
theorem aeHoldCount_pos {s : State} (h : s.SettingsKept) : 1 ≤ s.cfgN .aeHoldCount := by
  obtain ⟨_, hrange, _⟩ := h
  have : (1 : Int) ≤ s.cfg .aeHoldCount := (hrange .aeHoldCount (by decide)).1
  unfold State.cfgN
  omega

theorem State.MapKept.follows {s : State} (h : s.MapKept) : s.AeFollows := by
  obtain ⟨_, _, hcount, hlamp, hhold, _⟩ := h
  exact ⟨hcount, hlamp, hhold⟩

end Sys2Proof.Machine

/-- Settles O21: the state that the reset leaves is read block by block, each at the stage of the reset that lays it
down. -/
theorem lineResetReturnsTheLineToSetup : Obligations.LineResetReturnsTheLineToSetup := by
  unfold Obligations.LineResetReturnsTheLineToSetup
  intro f rest s h hmap hset
  have hhold := aeHoldCount_pos hset
  have hfollows := State.MapKept.follows hmap
  obtain ⟨hm, hl, _, _, _, hflag, _⟩ := hmap
  refine ⟨s.taken.lineResetDone, ?_, ?_, ?_, ?_, ?_, ?_, ?_, ?_, ?_, fun g => ?_, fun g => ?_, ?_, ?_, ?_⟩
  · have hcode : beBytes 1 s.taken.lineResetDone.sup.state.code = [if s.sup.safeLevel then 3#8 else 0#8] := by
      rw [lineResetDone_sup, State.taken_sup, beBytes_one]
      cases s.sup.safeLevel <;> rfl
    rw [exec_lineReset_of_admits h, lineReset_done, hcode]
  · exact Touches.trans ((touches_taken (by decide)).mpr (Touches.refl _ _)) touches_lineResetDone
  · rw [lineResetDone_sup, State.taken_sup]
  · rw [lineResetDone_host]
    rfl
  · exact lineReset_resetDone s.taken
  · rw [lineResetDone_reg]
  · rw [lineResetDone_energy, State.taken_energy]
    rfl
  · extract_lets closing record log
    have hopen : s.taken.aesOpen = closing := rfl
    obtain ⟨_, _, hpot, _, hexcess⟩ := lineResetDone_aesClosed (s := s.taken) hm hl
    obtain ⟨hflags, hcount, hheld, hlamp⟩ := lineResetDone_quiet (s := s.taken) hm hl
      ⟨hfollows.count, hfollows.lamp, hfollows.hold⟩ hflag hhold
    refine ⟨fun p hp => ?_, hflags, hcount, hheld, hlamp, hexcess, fun hlog hc => ?_, fun hnone => ?_,
      fun hsome hc => ?_⟩
    · have hmem : p ∈ s.taken.aesOpen ↔ (s.pot p).ae.state.inAe = true :=
        mem_aesOpen.trans (and_iff_right hp)
      rw [hpot p hp]
      simp only [hmem]
      rfl
    · exact lineResetDone_log (s := s.taken) hm hl hlog hc
    · have hae := lineResetDone_ae_of_none (s := s.taken) hl hnone
      rw [hae]
      exact ⟨rfl, rfl⟩
    · exact lineResetDone_last (s := s.taken) hl hc hsome
  · have hkept : s.taken.segmentsKept = (match s.host.transmitter with
        | .sendingReport _ => s.scan.segments.take 1
        | .sendingReply _ | .idle => []) := by
      unfold State.segmentsKept HostLink.reporting
      rw [State.taken_transmitter, State.taken_scan]
      cases s.host.transmitter <;> rfl
    rw [lineResetDone_scan, hkept, State.taken_scan]
    rfl
  · rw [coolOf_congr (lineResetDone_cool s.taken), resetLink_coolOf]
    rw [coolOf_congr State.taken_cool, show s.taken.allocatable g = s.allocatable g from rfl]
    refine ⟨rfl, ?_⟩
    dsimp only
    rw [Cooling.lineReset_cap]
  · rw [unit_congr (lineResetDone_link s.taken), resetLink_unit]
    rfl
  · rw [lineResetDone_link, (resetLink_bus s.taken).1, State.taken_link]
    unfold Bus.discard
    cases s.link.bus <;> rfl
  · rw [lineResetDone_link, (resetLink_bus s.taken).2, State.taken_link]
  · rw [lineResetDone_stack, State.taken_stack,
      utilityEntry_congr State.taken_settings State.taken_energy (by rw [State.taken_stack])]
    refine ⟨rfl, rfl, rfl, rfl, fun hu => ?_, fun hu => ?_⟩
    · simp [hu]
    · simp only [hu, if_true]
      exact ⟨rfl, rfl⟩
end

section
/-! PROOFS. The requests that only read: what they report (O10, O12; R51, R68, R118, R154, R161, R164, R175, R179), and
the counted lists that payloads carry (11.1). -/

open Sys2Proof Sys2Proof.Machine

namespace Sys2Proof.Machine

/-! ### Taking a request whose rule has been worked out -/

/-- A command that takes a request of kind `k` answers an admitted frame as the rule of the kind does. -/
theorem exec_answers {c : Instr} {k : RequestKind} {rule : List Byte → Bool → State → Reply × State} {s u : State}
    {f : Frame} {rest : List Frame} {r : Reply} (hc : exec c s = .next (s.serve k rule)) (h : s.Admits k f rest)
    (hr : rule f.payload (s.engineer f) s.taken = (r, u)) : exec c s = .next (u.answer f (s.engineer f) r) := by
  rw [hc, serve_of_admits h, hr]

/-! ### Counted lists (11.1) -/

theorem field_drop (xs : List Byte) (m n k : Nat) : field (xs.drop m) n k = field xs (m + n) k := by
  unfold field
  rw [List.drop_drop]

/-- A payload that is one counted list holds its count and that many things. -/
theorem length_of_countedOk {unit : Nat} {payload : List Byte} (h : countedOk unit payload = true) :
    payload.length = 1 + unit * countOf payload := by
  cases payload with
  | nil => exact absurd h Bool.false_ne_true
  | cons c rest =>
    have hcount : countOf (c :: rest) = c.toNat := by simp [countOf, field, beNat]
    unfold countedOk afterCounted at h
    dsimp only at h
    split at h
    · have hend : rest.length ≤ unit * c.toNat := by simpa using h
      rw [hcount, List.length_cons]
      omega
    · exact absurd h Bool.false_ne_true

theorem readIds_eq (n : Nat) {xs : List Byte} (h : 2 * n ≤ xs.length) :
    readIds n xs = (List.range n).map fun k => field xs (2 * k) 2 := by
  induction n generalizing xs with
  | zero => rfl
  | succ n ih =>
    match xs, h with
    | a :: b :: rest, h =>
      rw [List.range_succ_eq_map, List.map_cons, List.map_map, readIds, ih (by simp at h; omega)]
      rfl

/-! ### Layouts (11.1) -/

theorem baudRate_of_mem {code rate : Nat} (h : (code, rate) ∈ [(0, 57600), (1, 115200), (2, 460800), (3, 921600)]) :
    baudRate code = rate := by
  simp only [List.mem_cons, Prod.mk.injEq, List.not_mem_nil, or_false] at h
  rcases h with ⟨rfl, rfl⟩ | ⟨rfl, rfl⟩ | ⟨rfl, rfl⟩ | ⟨rfl, rfl⟩ <;> rfl

/-- A byte of named bits: the first in bit 0 (11.1). -/
def namedBits (flags : List Bool) : List Byte :=
  [BitVec.ofNat 8 (flags.zipIdx.map fun x => x.1.toNat * 2 ^ x.2).sum]

theorem IntervalFlags.byte_eq (f : IntervalFlags) :
    beBytes 1 f.byte = namedBits [f.shortened, f.limited, f.aeHeld, f.estimated, f.clockNotSet] := by
  simp [namedBits, IntervalFlags.byte, Nat.mul_comm, Nat.add_assoc]

theorem PeriodFlags.byte_eq (f : PeriodFlags) :
    beBytes 1 f.byte = namedBits [f.saturated, f.estimated, f.clockNotSet, f.shortenedSeen] := by
  simp [namedBits, PeriodFlags.byte, Nat.mul_comm, Nat.add_assoc]

/-- The AE part of a pot record as GET_POTS carries it (R52). -/
def PotAe.bytes (a : PotAe) : List Byte :=
  beBytes 1 a.state.code ++ flagByte a.frozen ++ beBytes 4 a.timer ++ timeBytes a.pendingTime ++ timeBytes a.startTime
    ++ beBytes 2 a.vRef ++ beBytes 2 a.peak ++ beBytes 8 a.excess ++ beBytes 1 a.recover ++ flagByte a.quench
    ++ flagByte a.long ++ beBytes 2 a.lifetime ++ beBytes 2 a.spikes

/-- The R36 fields of a pot record stand before its R52 fields. -/
theorem Pot.bytes_eq (x : Pot) : x.bytes
    = flagByte (!x.fitted) ++ beBytes 1 x.entry ++ flagByte x.cutOut ++ beBytes 2 x.lastVoltage
      ++ beBytes 1 x.status.code ++ optTimeBytes x.lastFresh ++ flagByte x.seeded ++ beBytes 2 x.filtered
      ++ beBytes 4 x.resistance ++ beBytes 1 x.stale ++ flagByte x.staleNow ++ x.ae.bytes := by
  unfold Pot.bytes PotAe.bytes
  simp only [List.append_assoc]

/-! ### The items named (R175) -/

theorem ofId?_isNone_iff {n : Nat} : (Item.ofId? n).isNone = true ↔ ∀ i : Item, i.id ≠ n := by
  rw [Option.isNone_iff_eq_none]
  constructor
  · rintro h i rfl
    simp at h
  · intro h
    cases e : Item.ofId? n with
    | none => rfl
    | some i => exact absurd (Item.id_of_ofId? e) (h i)

theorem readIds_payload {payload : List Byte} (h : RequestKind.getItems.lengthOk payload = true) :
    readIds (countOf payload) (payload.drop 1)
      = (List.range (countOf payload)).map fun k => field payload (1 + 2 * k) 2 := by
  have hlen := length_of_countedOk h
  rw [readIds_eq _ (by rw [List.length_drop]; omega)]
  simp only [field_drop]

theorem getItems_badValue {s : State} {payload : List Byte} (h : countOf payload = 0 ∨ 32 < countOf payload) :
    s.getItems payload = (⟨.badValue, []⟩, s) := if_pos h

section
variable {s : State} {payload : List Byte} (hl : RequestKind.getItems.lengthOk payload = true)
  (h1 : 1 ≤ countOf payload) (h2 : countOf payload ≤ 32)
include hl h1 h2

theorem getItems_noSuch {k : Nat} (hk : k < countOf payload) (hno : ∀ i : Item, i.id ≠ field payload (1 + 2 * k) 2)
    (hbefore : ∀ j < k, ∃ i : Item, i.id = field payload (1 + 2 * j) 2) :
    s.getItems payload = (⟨.noSuch, beBytes 1 k⟩, s) := by
  have hfind : (readIds (countOf payload) (payload.drop 1)).findIdx? (fun n => (Item.ofId? n).isNone) = some k := by
    rw [readIds_payload hl, List.findIdx?_eq_some_iff_getElem]
    refine ⟨by simpa using hk, ?_, fun j hj => ?_⟩
    · rw [List.getElem_map, List.getElem_range, ofId?_isNone_iff]
      exact hno
    · obtain ⟨i, hi⟩ := hbefore j hj
      rw [List.getElem_map, List.getElem_range, ← hi, Item.ofId?_id]
      exact Bool.false_ne_true
  unfold State.getItems
  dsimp only
  rw [if_neg (by omega), hfind]

theorem getItems_ok {items : List Item}
    (hi : items.map (·.id) = (List.range (countOf payload)).map fun k => field payload (1 + 2 * k) 2) :
    s.getItems payload = (⟨.ok, items.flatMap fun i => beSigned 4 (s.cfg i)⟩, s) := by
  have hfind : (items.map (·.id)).findIdx? (fun n => (Item.ofId? n).isNone) = none := by
    simp [List.findIdx?_eq_none_iff]
  have hnamed : (items.map (·.id)).filterMap Item.ofId? = items := by
    simp [List.filterMap_map]
  unfold State.getItems
  dsimp only
  rw [if_neg (by omega), readIds_payload hl, ← hi, hfind, hnamed]

end

/-! ### Runs of pots and histories (R51, R154, R161) -/

section
variable {s : State} {payload : List Byte}

/-- The run of pots that GET_POTS asks for stands in the pot table, and its count in its bound (R51). -/
abbrev PotsAsked (first count : Nat) : Prop := 1 ≤ count ∧ count ≤ 21 ∧ 1 ≤ first ∧ first + count - 1 ≤ 384

theorem getPots_ok (h : PotsAsked (field payload 0 2) (field payload 2 1)) : s.getPots payload
    = (⟨.ok, beBytes 2 (field payload 0 2) ++ beBytes 1 (field payload 2 1)
        ++ (List.range (field payload 2 1)).flatMap fun k => (s.pot (field payload 0 2 + k)).bytes⟩, s) :=
  if_neg (by simp only [Config.pots]; omega)

theorem getPots_badValue (h : ¬ PotsAsked (field payload 0 2) (field payload 2 1)) :
    s.getPots payload = (⟨.badValue, []⟩, s) :=
  if_pos (by simp only [Config.pots]; omega)

theorem getDemandLog_ok (h : 1 ≤ field payload 1 1 ∧ field payload 1 1 ≤ 32) : s.getDemandLog payload
    = (⟨.ok, beBytes 1 s.energy.demandLog.length
        ++ beBytes 1 (fromNewest s.energy.demandLog (field payload 0 1) (field payload 1 1)).length
        ++ (fromNewest s.energy.demandLog (field payload 0 1) (field payload 1 1)).flatMap DemandRecord.bytes⟩, s) :=
  if_neg (by omega)

theorem getDemandLog_badValue (h : ¬ (1 ≤ field payload 1 1 ∧ field payload 1 1 ≤ 32)) :
    s.getDemandLog payload = (⟨.badValue, []⟩, s) := if_pos (by omega)

theorem getPeriods_ok (h : 1 ≤ field payload 1 1 ∧ field payload 1 1 ≤ 12) : s.getPeriods payload
    = (⟨.ok, beBytes 1 s.energy.history.length
        ++ beBytes 1 (fromNewest s.energy.history (field payload 0 1) (field payload 1 1)).length
        ++ (fromNewest s.energy.history (field payload 0 1) (field payload 1 1)).flatMap PeriodRecord.bytes⟩, s) :=
  if_neg (by omega)

theorem getPeriods_badValue (h : ¬ (1 ≤ field payload 1 1 ∧ field payload 1 1 ≤ 12)) :
    s.getPeriods payload = (⟨.badValue, []⟩, s) := if_pos (by omega)

end

/-! ### The AE log (R68) -/

section
variable {m : AeMonitor} {first count : Nat}

theorem logFrom_of_held {older newer : List AeRecord} {r : AeRecord} (hlog : m.log = older ++ r :: newer)
    (hr : r.number = first) (hold : ∀ x ∈ older, x.number ≠ first) :
    m.logFrom first count = ((r :: newer).take count, true) := by
  have hany : m.log.any (fun r => r.number == first) = true := by simp [hlog, hr]
  have hdrop : m.log.dropWhile (fun r => r.number != first) = r :: newer := by
    rw [hlog, List.dropWhile_append_of_pos (by simpa using hold), List.dropWhile_cons_of_neg (by simp [hr])]
  unfold AeMonitor.logFrom
  rw [if_pos hany, hdrop]

theorem logFrom_of_not_held (h : ∀ x ∈ m.log, x.number ≠ first) :
    m.logFrom first count
      = if m.log = [] ∨ first = nextAeNumber m.closed then ([], true) else (m.log.take count, false) := by
  have hany : ¬ m.log.any (fun r => r.number == first) = true := by simpa using h
  unfold AeMonitor.logFrom
  rw [if_neg hany]
  simp only [Bool.or_eq_true, List.isEmpty_iff, beq_iff_eq]

end

/-- The reply of GET_AE_LOG to a count that it takes (R68). -/
theorem getAeLog_eq {s : State} {payload : List Byte} {records : List AeRecord} {whole : Bool} (h1 : 1 ≤ field payload 4 1)
    (h2 : field payload 4 1 ≤ 32)
    (hfrom : s.ae.logFrom (field payload 0 4) (field payload 4 1) = (records, whole)) :
    s.getAeLog payload = (⟨if whole then .ok else .part, beBytes 4 ((s.ae.log.head?.map (·.number)).getD 0)
      ++ beBytes 4 ((s.ae.log.getLast?.map (·.number)).getD 0) ++ beBytes 1 records.length
      ++ records.flatMap AeRecord.bytes⟩, s) := by
  unfold State.getAeLog
  dsimp only
  rw [if_neg (by omega), hfrom]

end Sys2Proof.Machine

/-- Settles O10: the rule of each kind lays out the records in the order of 11.1. -/
theorem identityScanTableAndStackAreReported : Obligations.IdentityScanTableAndStackAreReported := by
  unfold Obligations.IdentityScanTableAndStackAreReported
  refine ⟨fun f rest s rate h hrate => ?_, fun f rest s => ⟨fun h => ?_, fun h => ?_⟩⟩
  · have hbaud : baudRate s.taken.host.baudCode = rate := baudRate_of_mem hrate
    refine exec_answers (k := .identify) rfl h ?_
    unfold State.identify
    rw [hbaud]
    rfl
  · exact exec_answers (k := .getScanTable) rfl h rfl
  · intro k w entry
    have hentry : StackEntry.bytes = entry := by
      funext e
      simp only [StackEntry.bytes, entry]
      cases e.life <;> rfl
    refine exec_answers (k := .getStack) rfl h ?_
    unfold State.getStack Switching.bytes
    rw [hentry]
    rfl

/-- Settles O12: each rule's test of its operands is the one stated, and each record's bytes are the layout stated. -/
theorem runsOfRecordsAreReported : Obligations.RunsOfRecordsAreReported := by
  unfold Obligations.RunsOfRecordsAreReported
  intro yes bits
  refine ⟨fun f rest s => ?_, fun f rest s h => ?_⟩
  · intro p pot demand period reply
    have hpot : pot = Pot.bytes := funext fun x => x.bytes_eq.symm
    have hdemand : DemandRecord.bytes = demand := by
      funext r
      simp only [DemandRecord.bytes, IntervalFlags.byte_eq]
      rfl
    have hperiod : PeriodRecord.bytes = period := by
      funext r
      simp only [PeriodRecord.bytes, PeriodFlags.byte_eq]
      rfl
    refine ⟨fun h => ?_, fun h => ?_, fun h => ?_, fun h => ?_⟩
    · intro first count
      split
      · rename_i hasked
        rw [hpot]
        exact exec_answers (k := .getPots) rfl h (getPots_ok hasked)
      · rename_i hasked
        exact exec_answers (k := .getPots) rfl h (getPots_badValue hasked)
    · have hlen : RequestKind.getItems.lengthOk p = true := by
        obtain ⟨_, _, _, hlen⟩ := h
        exact hlen
      refine ⟨fun hc => ?_, fun h1 h2 k hk hno hbefore => ?_, fun h1 h2 items hi => ?_⟩
      · exact exec_answers (k := .getItems) rfl h (getItems_badValue hc)
      · exact exec_answers (k := .getItems) rfl h (getItems_noSuch hlen h1 h2 hk hno hbefore)
      · exact exec_answers (k := .getItems) rfl h (getItems_ok hlen h1 h2 hi)
    · intro held start count asked
      split
      · rename_i hcount
        rw [← hdemand]
        exact exec_answers (k := .getDemandLog) rfl h (getDemandLog_ok hcount)
      · rename_i hcount
        exact exec_answers (k := .getDemandLog) rfl h (getDemandLog_badValue hcount)
    · intro held start count asked
      split
      · rename_i hcount
        rw [← hperiod]
        exact exec_answers (k := .getPeriods) rfl h (getPeriods_ok hcount)
      · rename_i hcount
        exact exec_answers (k := .getPeriods) rfl h (getPeriods_badValue hcount)
  · intro log first count next laid reply
    have found : ∀ {records : List AeRecord} {whole : Bool} {r : Result} {oldest newest : Nat}, 1 ≤ count → count ≤ 32 →
        s.ae.logFrom first count = (records, whole) → (if whole then Result.ok else .part) = r →
        (log.head?.map (·.number)).getD 0 = oldest → (log.getLast?.map (·.number)).getD 0 = newest →
        exec .getAeLog s = .next (reply r oldest newest records) := by
      rintro records whole r oldest newest h1 h2 hfrom rfl rfl rfl
      exact exec_answers (k := .getAeLog) rfl h (getAeLog_eq (s := s.taken) h1 h2 hfrom)
    refine ⟨fun hc => ?_, fun h1 h2 => ⟨fun he => ?_, fun oldest newest ho hn => ⟨?_, fun hno hf => ?_, fun hno hf => ?_⟩⟩⟩
    · exact exec_answers (k := .getAeLog) rfl h (if_pos hc)
    · refine found h1 h2 (whole := true) ?_ rfl ?_ ?_
      · rw [logFrom_of_not_held (by rw [show s.ae.log = [] from he]; exact fun _ hx => absurd hx List.not_mem_nil), if_pos (.inl he)]
      · rw [he]
        rfl
      · rw [he]
        rfl
    · intro older r newer hlog hr hold
      exact found h1 h2 (logFrom_of_held hlog hr hold) rfl (by rw [ho]; rfl) (by rw [hn]; rfl)
    · refine found h1 h2 (whole := true) ?_ rfl (by rw [ho]; rfl) (by rw [hn]; rfl)
      rw [logFrom_of_not_held hno, if_pos (.inr hf)]
    · refine found h1 h2 (whole := false) ?_ rfl (by rw [ho]; rfl) (by rw [hn]; rfl)
      rw [logFrom_of_not_held hno, if_neg]
      rintro (he | he)
      · rw [show log = [] from he] at ho
        simp at ho
      · exact hf he
end

section
/-! PROOFS. Operations that work on one pot at a time: what they leave to the other pots, and what a run of them over
several pots does to each. -/

open Sys2Proof Sys2Proof.Machine

namespace Sys2Proof.Machine

theorem pot_congr {s t : State} (h : t.pots = s.pots) (p : Nat) : t.pot p = s.pot p := by
  unfold State.pot
  rw [h]

theorem flag_congr {m k : AeMonitor} (h : k.map = m.map) (p : Nat) : k.flag p = m.flag p := by
  unfold AeMonitor.flag
  rw [h]

/-- The pot table and the AE map have the sizes of the part (R52, R65). -/
structure State.PotsWhole (s : State) : Prop where
  pots : s.pots.length = 384
  map : s.ae.map.length = 12

/-- From `s` to `t` no pot but `p` has changed, nor the map flag of any other. -/
structure OnlyPot (p : Nat) (s t : State) : Prop where
  pots : t.pots.length = s.pots.length
  map : t.ae.map.length = s.ae.map.length
  pot : ∀ q, 1 ≤ q → q ≠ p → t.pot q = s.pot q
  flag : ∀ q, 1 ≤ q → q ≠ p → t.ae.flag q = s.ae.flag q

section
variable {p : Nat} {s t u : State}

theorem OnlyPot.of_same (hp : t.pots = s.pots) (hm : t.ae.map = s.ae.map) : OnlyPot p s t :=
  ⟨by rw [hp], by rw [hm], fun q _ _ => pot_congr hp q, fun q _ _ => flag_congr hm q⟩

theorem OnlyPot.refl (p : Nat) (s : State) : OnlyPot p s s := OnlyPot.of_same rfl rfl

theorem OnlyPot.trans (h : OnlyPot p s t) (k : OnlyPot p t u) : OnlyPot p s u :=
  ⟨k.pots.trans h.pots, k.map.trans h.map, fun q h1 hq => (k.pot q h1 hq).trans (h.pot q h1 hq),
    fun q h1 hq => (k.flag q h1 hq).trans (h.flag q h1 hq)⟩

theorem OnlyPot.whole (h : OnlyPot p s t) (hw : s.PotsWhole) : t.PotsWhole :=
  ⟨h.pots.trans hw.pots, h.map.trans hw.map⟩

theorem OnlyPot.of_touches {l : List Block} (h : Touches l s t) (hp : .pots ∉ l) (hm : .ae ∉ l) : OnlyPot p s t :=
  .of_same (h.pots hp) (by rw [h.ae hm])

theorem onlyPot_setPot {x : Pot} (hp : 1 ≤ p) : OnlyPot p s (s.setPot p x) :=
  ⟨pots_length_setPot s p x, rfl, fun _ h1 hq => pot_setPot_ne s x hp h1 hq, fun _ _ _ => rfl⟩

theorem onlyPot_setPotAe {a : PotAe} (hp : 1 ≤ p) : OnlyPot p s (s.setPotAe p a) := onlyPot_setPot hp

theorem onlyPot_closeAe {c : EndCause} {nx : AeState} (hw : s.PotsWhole) (hp1 : 1 ≤ p) (hp : p ≤ 384) :
    OnlyPot p s (s.closeAe p c nx) := by
  obtain ⟨_, hpot, hpots, hmap, hflag, _⟩ := closeAe_spec s p c nx hw.map hw.pots hp1 hp
  exact ⟨hpots.trans hw.pots.symm, hmap.trans hw.map.symm, hpot, hflag⟩

theorem closeAe_pot_self {c : EndCause} {nx : AeState} (hw : s.PotsWhole) (hp1 : 1 ≤ p) (hp : p ≤ 384) :
    (s.closeAe p c nx).pot p = { s.pot p with ae := { (s.pot p).ae with frozen := false, state := nx } } := by
  obtain ⟨hself, _⟩ := closeAe_spec s p c nx hw.map hw.pots hp1 hp
  exact hself

theorem closeAe_closes {c : EndCause} {nx : AeState} (hw : s.PotsWhole) (hp1 : 1 ≤ p) (hp : p ≤ 384) :
    s.AeClosed (s.closeAe p c nx) p (s.pot p).ae c := by
  obtain ⟨_, _, _, _, _, hclosed, _⟩ := closeAe_spec s p c nx hw.map hw.pots hp1 hp
  exact hclosed

theorem State.PotsWhole.setPot_self {x : Pot} (hw : s.PotsWhole) (hp1 : 1 ≤ p) (hp : p ≤ 384) :
    (s.setPot p x).pot p = x := pot_setPot_self s p x hp1 (hw.pots ▸ hp)

theorem State.PotsWhole.setPotAe_self {a : PotAe} (hw : s.PotsWhole) (hp1 : 1 ≤ p) (hp : p ≤ 384) :
    (s.setPotAe p a).pot p = { s.pot p with ae := a } := hw.setPot_self hp1 hp

end

/-! ### A run over several pots -/

section
variable {f : State → Nat → State} {xs : List Nat} {s : State}

theorem foldl_others (hf : ∀ u p, p ∈ xs → u.PotsWhole → OnlyPot p u (f u p)) (hw : s.PotsWhole) :
    (xs.foldl f s).PotsWhole ∧ ∀ q, 1 ≤ q → q ∉ xs →
      (xs.foldl f s).pot q = s.pot q ∧ (xs.foldl f s).ae.flag q = s.ae.flag q := by
  induction xs generalizing s with
  | nil => exact ⟨hw, fun _ _ _ => ⟨rfl, rfl⟩⟩
  | cons x xs ih =>
    have hx := hf s x List.mem_cons_self hw
    obtain ⟨hwhole, hrest⟩ := ih (fun u p hp => hf u p (List.mem_cons_of_mem _ hp)) (hx.whole hw)
    refine ⟨hwhole, fun q h1 hq => ?_⟩
    obtain ⟨hqx, hqxs⟩ := List.ne_and_not_mem_of_not_mem_cons hq
    obtain ⟨hpot, hflag⟩ := hrest q h1 hqxs
    exact ⟨hpot.trans (hx.pot q h1 hqx), hflag.trans (hx.flag q h1 hqx)⟩

/-- In a run over pots each of which is taken once, pot `p` is taken as it stood before the run, and the pots taken
after it are others. -/
theorem foldl_at (hf : ∀ u p, p ∈ xs → u.PotsWhole → OnlyPot p u (f u p)) (hw : s.PotsWhole) (hnd : xs.Nodup)
    {p : Nat} (h1 : 1 ≤ p) (hp : p ∈ xs) :
    ∃ before after, xs = before ++ p :: after ∧ p ∉ after
      ∧ (before.foldl f s).PotsWhole ∧ (before.foldl f s).pot p = s.pot p
      ∧ (xs.foldl f s).pot p = (f (before.foldl f s) p).pot p
      ∧ (xs.foldl f s).ae.flag p = (f (before.foldl f s) p).ae.flag p := by
  obtain ⟨before, after, rfl⟩ := List.append_of_mem hp
  obtain ⟨hpa, hpb⟩ : p ∉ after ∧ p ∉ before := by
    have := List.nodup_append.mp hnd
    obtain ⟨_, hcons, hdis⟩ := this
    exact ⟨(List.nodup_cons.mp hcons).1, fun h => hdis p h p List.mem_cons_self rfl⟩
  obtain ⟨hwb, hb⟩ := foldl_others (xs := before) (fun u q hq => hf u q (by simp [hq])) hw
  have hstep := hf (before.foldl f s) p hp hwb
  obtain ⟨_, ha⟩ := foldl_others (xs := after) (fun u q hq => hf u q (by simp [hq])) (hstep.whole hwb)
  refine ⟨before, after, rfl, hpa, hwb, (hb p h1 hpb).1, ?_, ?_⟩
  · rw [List.foldl_append, List.foldl_cons]
    exact (ha p h1 hpa).1
  · rw [List.foldl_append, List.foldl_cons]
    exact (ha p h1 hpa).2

end

end Sys2Proof.Machine
end

section
/-! PROOFS. SET_SCAN_TABLE (O39; R33 to R35, R53): the tests of a table, and the pots brought into line with it. -/

open Sys2Proof Sys2Proof.Machine

namespace Sys2Proof.Machine

/-! ### Entries and their conflicts (R33, R34) -/

theorem readScanEntries_length (n : Nat) {xs : List Byte} (h : 5 * n ≤ xs.length) :
    (readScanEntries n xs).length = n := by
  induction n generalizing xs with
  | zero => rfl
  | succ n ih =>
    match xs, h with
    | a :: b :: c :: d :: e :: rest, h =>
      rw [readScanEntries, List.length_cons, ih (by simp at h; omega)]

/-- An entry's own fields are right (R33). -/
abbrev ScanEntry.Right (e : ScanEntry) : Prop :=
  1 ≤ e.module ∧ e.module ≤ 31 ∧ e.firstChan ≤ 15 ∧ 1 ≤ e.count ∧ e.count ≤ 16
    ∧ e.firstChan + e.count ≤ 16 ∧ 1 ≤ e.firstPot ∧ e.firstPot + e.count - 1 ≤ 384

/-- An entry covers pot `p` (R33). -/
abbrev ScanEntry.Covers (e : ScanEntry) (p : Nat) : Prop := e.firstPot ≤ p ∧ p < e.firstPot + e.count

/-- Two entries name a pot, or a channel of one module, in common (R34). -/
abbrev ScanEntry.Clash (e f : ScanEntry) : Prop :=
  (∃ p, e.Covers p ∧ f.Covers p)
    ∨ e.module = f.module ∧ ∃ c, (e.firstChan ≤ c ∧ c < e.firstChan + e.count) ∧ f.firstChan ≤ c ∧ c < f.firstChan + f.count

theorem ScanEntry.ok_iff {e : ScanEntry} : e.ok = true ↔ e.Right := by
  simp only [ScanEntry.ok, Config.pots, decide_eq_true_eq]

theorem runsMeet_iff {a n b m : Nat} (hn : 1 ≤ n) (hm : 1 ≤ m) :
    runsMeet a n b m = true ↔ ∃ k, (a ≤ k ∧ k < a + n) ∧ b ≤ k ∧ k < b + m := by
  simp only [runsMeet, decide_eq_true_eq]
  exact ⟨fun h => ⟨max a b, by omega⟩, fun ⟨k, h⟩ => by omega⟩

theorem ScanEntry.conflicts_iff {e f : ScanEntry} (he : e.Right) (hf : f.Right) : e.conflicts f = true ↔ e.Clash f := by
  obtain ⟨_, _, _, hen, _⟩ := he
  obtain ⟨_, _, _, hfn, _⟩ := hf
  simp only [ScanEntry.conflicts, Bool.or_eq_true, Bool.and_eq_true, beq_iff_eq, runsMeet_iff hen hfn]

section
variable {t : List ScanEntry} {d : ScanEntry}

theorem firstConflict_eq_none (h : ∀ i j, i < j → j < t.length → (t.getD i d).conflicts (t.getD j d) = false) (k : Nat) :
    firstConflict k t = none := by
  induction t generalizing k with
  | nil => rfl
  | cons e rest ih =>
    have hfind : rest.findIdx? e.conflicts = none := by
      rw [List.findIdx?_eq_none_iff]
      intro x hx
      obtain ⟨j, hj, rfl⟩ := List.mem_iff_getElem.mp hx
      have := h 0 (j + 1) (by omega) (by simpa using hj)
      rwa [List.getD_cons_zero, List.getD_cons_succ, List.getD_eq_getElem _ _ hj] at this
    rw [firstConflict, hfind]
    exact ih (fun i j hij hj => h (i + 1) (j + 1) (by omega) (by simpa using hj)) (k + 1)

/-- The pair of lowest indices in conflict gives the index of its second entry (R34). -/
theorem firstConflict_eq_some {i j : Nat} (hij : i < j) (hj : j < t.length)
    (h : (t.getD i d).conflicts (t.getD j d) = true)
    (hfirst : ∀ i' j', i' < j' → j' < t.length → i' < i ∨ i' = i ∧ j' < j →
      (t.getD i' d).conflicts (t.getD j' d) = false) (k : Nat) :
    firstConflict k t = some (k + j) := by
  induction t generalizing i j k with
  | nil => exact absurd hj (Nat.not_lt_zero _)
  | cons e rest ih =>
    obtain ⟨j, rfl⟩ : ∃ m, j = m + 1 := ⟨j - 1, by omega⟩
    have hj : j < rest.length := by simpa using hj
    cases i with
    | zero =>
      have hfind : rest.findIdx? e.conflicts = some j := by
        rw [List.findIdx?_eq_some_iff_getElem]
        refine ⟨hj, ?_, fun m hm => ?_⟩
        · rwa [List.getD_cons_zero, List.getD_cons_succ, List.getD_eq_getElem _ _ hj] at h
        · have hm' : m < rest.length := by omega
          have := hfirst 0 (m + 1) (by omega) (by simpa using hm') (.inr ⟨rfl, by omega⟩)
          rw [List.getD_cons_zero, List.getD_cons_succ, List.getD_eq_getElem _ _ hm'] at this
          exact Bool.eq_false_iff.mp this
      rw [firstConflict, hfind]
      exact congrArg some (by omega)
    | succ i =>
      have hfind : rest.findIdx? e.conflicts = none := by
        rw [List.findIdx?_eq_none_iff]
        intro x hx
        obtain ⟨m, hm, rfl⟩ := List.mem_iff_getElem.mp hx
        have := hfirst 0 (m + 1) (by omega) (by simpa using hm) (.inl (by omega))
        rwa [List.getD_cons_zero, List.getD_cons_succ, List.getD_eq_getElem _ _ hm] at this
      rw [firstConflict, hfind]
      refine (ih (by omega) hj h (fun i' j' hij' hj' hlt => ?_) (k + 1)).trans (congrArg some (by omega))
      exact hfirst (i' + 1) (j' + 1) (by omega) (by simpa using hj') (by omega)

/-! ### The tests of a table (R34) -/

theorem tableFault_of_length (h : t.length = 0 ∨ 32 < t.length) : tableFault t = some 0xFF := if_pos h

theorem tableFault_of_wrong (h1 : 1 ≤ t.length) (h2 : t.length ≤ 32) {i : Nat} (hi : i < t.length)
    (hw : ¬ (t.getD i d).Right) (hb : ∀ j < i, (t.getD j d).Right) : tableFault t = some i := by
  have hfind : t.findIdx? (fun e => !e.ok) = some i := by
    rw [List.findIdx?_eq_some_iff_getElem]
    refine ⟨hi, ?_, fun j hj => ?_⟩
    · rw [← List.getD_eq_getElem _ d hi]
      simpa using mt ScanEntry.ok_iff.mp hw
    · rw [← List.getD_eq_getElem _ d (by omega)]
      simpa using ScanEntry.ok_iff.mpr (hb j hj)
  unfold tableFault
  rw [if_neg (by simp only [Config.scanEntries]; omega), hfind]

theorem tableFault_of_right (h1 : 1 ≤ t.length) (h2 : t.length ≤ 32) (hr : ∀ i < t.length, (t.getD i d).Right) :
    tableFault t = firstConflict 0 t := by
  have hfind : t.findIdx? (fun e => !e.ok) = none := by
    rw [List.findIdx?_eq_none_iff]
    intro x hx
    obtain ⟨i, hi, rfl⟩ := List.mem_iff_getElem.mp hx
    rw [← List.getD_eq_getElem _ d hi]
    simpa using ScanEntry.ok_iff.mpr (hr i hi)
  unfold tableFault
  rw [if_neg (by simp only [Config.scanEntries]; omega), hfind]

/-! ### The entry that covers a pot -/

theorem coveringEntry_eq_some {i p : Nat} (hi : i < t.length) (hc : (t.getD i d).Covers p)
    (hb : ∀ j < i, ¬ (t.getD j d).Covers p) : coveringEntry t p = some i := by
  unfold coveringEntry
  rw [List.findIdx?_eq_some_iff_getElem]
  refine ⟨hi, ?_, fun j hj => ?_⟩
  · rw [← List.getD_eq_getElem _ d hi]
    exact decide_eq_true hc
  · rw [← List.getD_eq_getElem _ d (by omega), decide_eq_true_iff]
    exact hb j hj

theorem coveringEntry_eq_none {p : Nat} (h : ∀ i < t.length, ¬ (t.getD i d).Covers p) : coveringEntry t p = none := by
  unfold coveringEntry
  rw [List.findIdx?_eq_none_iff]
  intro x hx
  obtain ⟨i, hi, rfl⟩ := List.mem_iff_getElem.mp hx
  rw [← List.getD_eq_getElem _ d hi]
  exact decide_eq_false (h i hi)

end

/-! ### The pots brought into line (R35, R53) -/

/-- A pot record brought into line with a table in which `covering` is the entry that covers the pot (R35, R53). -/
def Pot.installed (x : Pot) (covering : Option Nat) : Pot :=
  match covering with
  | some i => if x.fitted then { x with entry := i } else Pot.newlyFitted i
  | none =>
    if x.fitted then
      { Pot.initial with ae := { x.ae with state := .out, frozen := if x.ae.state.inAe then false else x.ae.frozen } }
    else x

section
variable {s : State} {t : List ScanEntry} {p : Nat} (hw : s.PotsWhole) (hp1 : 1 ≤ p) (hp : p ≤ 384)
include hw hp1 hp

theorem onlyPot_installPot : OnlyPot p s (s.installPot t p) := by
  unfold State.installPot
  dsimp only
  split
  · split
    · exact onlyPot_setPot hp1
    · exact onlyPot_setPot hp1
  · split
    · split
      · exact (onlyPot_closeAe hw hp1 hp).trans (onlyPot_setPot hp1)
      · exact onlyPot_setPot hp1
    · exact .refl p s

theorem installPot_pot_self : (s.installPot t p).pot p = (s.pot p).installed (coveringEntry t p) := by
  unfold State.installPot Pot.installed
  dsimp only
  cases coveringEntry t p with
  | some i =>
    dsimp only
    split
    · exact hw.setPot_self hp1 hp
    · exact hw.setPot_self hp1 hp
  | none =>
    dsimp only
    split
    · split
      · rw [((onlyPot_closeAe hw hp1 hp).whole hw).setPot_self hp1 hp, closeAe_pot_self hw hp1 hp]
        rfl
      · rw [hw.setPot_self hp1 hp]
        rfl
    · rfl

theorem installPot_flag (hc : coveringEntry t p = none) (hf : (s.pot p).fitted = true)
    (hin : (s.pot p).ae.state.inAe = true) : (s.installPot t p).ae.flag p = false := by
  obtain ⟨_, _, hflag, _⟩ := closeAe_closes (c := .signalLost) (nx := .out) hw hp1 hp
  unfold State.installPot
  dsimp only
  rw [hc]
  dsimp only
  rw [if_pos hf, if_pos hin]
  exact hflag

end

theorem installTable_scan (s : State) (t : List ScanEntry) :
    (s.installTable t).scan = { s.scan with pass := none, table := t } := by
  unfold State.installTable
  rw [Touches.scan (l := [.pots, .ae, .events])
    ((touches_foldl fun u p => (touches_installPot (by decide)).mpr (Touches.refl _ u)).mpr (Touches.refl _ _)) (by decide)]
  rfl

/-- Every pot is brought into line with the table, and no other pot with it (R35, R53). -/
theorem installTable_pot {s : State} (hw : s.PotsWhole) (t : List ScanEntry) {p : Nat} (h1 : 1 ≤ p) (h2 : p ≤ 384) :
    (s.installTable t).pot p = (s.pot p).installed (coveringEntry t p)
      ∧ (coveringEntry t p = none → (s.pot p).fitted = true → (s.pot p).ae.state.inAe = true →
        (s.installTable t).ae.flag p = false) := by
  have hf : ∀ (u : State) q, q ∈ potNumbers → u.PotsWhole → OnlyPot q u (u.installPot t q) := by
    intro u q hq hu
    obtain ⟨hq1, hq2⟩ := mem_pots.mp hq
    exact onlyPot_installPot hu hq1 hq2
  obtain ⟨before, after, _, _, hwb, hb, hpot, hflag⟩ :=
    foldl_at (s := s.setScan { s.scan with pass := none, table := t }) hf ⟨hw.pots, hw.map⟩ potNumbers_nodup h1
      (mem_pots.mpr ⟨h1, h2⟩)
  have hb : _ = s.pot p := hb
  refine ⟨?_, fun hc hfit hin => ?_⟩
  · refine hpot.trans ?_
    rw [installPot_pot_self hwb h1 h2, hb]
  · refine hflag.trans ?_
    exact installPot_flag hwb h1 h2 hc (by rw [hb]; exact hfit) (by rw [hb]; exact hin)

/-! ### The request -/

theorem exec_setScanTable_of_admits {s u : State} {f : Frame} {rest : List Frame} (h : s.Admits .setScanTable f rest)
    {r : Reply} (hr : s.taken.setScanTable f.payload = (r, u)) :
    exec .setScanTable s = .next (u.answer f true r) := by
  rw [← engineer_of_admits h rfl]
  exact exec_answers (k := .setScanTable) rfl h hr

section
variable {s : State} {payload : List Byte} (hs : s.sup.state = .setup)
include hs

theorem setScanTable_of_fault {i : Nat}
    (h : tableFault (readScanEntries (countOf payload) (payload.drop 1)) = some i) :
    s.setScanTable payload = (⟨.badValue, beBytes 1 i⟩, s) := by
  unfold State.setScanTable
  rw [if_neg (by rw [hs]; decide)]
  dsimp only
  rw [h]

theorem setScanTable_of_right (h : tableFault (readScanEntries (countOf payload) (payload.drop 1)) = none) :
    s.setScanTable payload
      = (⟨.ok, []⟩, s.installTable (readScanEntries (countOf payload) (payload.drop 1))) := by
  unfold State.setScanTable
  rw [if_neg (by rw [hs]; decide)]
  dsimp only
  rw [h]
  rfl

end

end Sys2Proof.Machine

/-- Settles O39: the tests of R34 give the index named, and an accepted table reaches each pot once. -/
theorem scanTableIsInstalledOrRefused : Obligations.ScanTableIsInstalledOrRefused := by
  unfold Obligations.ScanTableIsInstalledOrRefused
  intro f rest s h hmap n table entry right covers uses conflict reply bad
  obtain ⟨hm, hl, _⟩ := hmap
  have hlen : table.length = n := by
    obtain ⟨_, _, _, hlen⟩ := h
    have hpayload : f.payload.length = 1 + 5 * n := length_of_countedOk hlen
    exact readScanEntries_length n (by rw [List.length_drop]; omega)
  refine ⟨fun hs => exec_setScanTable_of_admits h (if_pos hs), fun hs => ?_⟩
  have hbad : ∀ {i : Nat}, tableFault table = some i → bad i := fun hi =>
    exec_setScanTable_of_admits h (setScanTable_of_fault (s := s.taken) hs hi)
  refine ⟨fun hn => hbad (tableFault_of_length (by rwa [hlen])), fun h1 h2 => ⟨hlen, fun i hi hw hb => ?_, fun hr => ?_⟩⟩
  · exact hbad (tableFault_of_wrong (by rwa [hlen]) (by rwa [hlen]) (by rwa [hlen]) hw hb)
  have hright : tableFault table = firstConflict 0 table :=
    tableFault_of_right (by rwa [hlen]) (by rwa [hlen]) (by rwa [hlen])
  have hconf : ∀ i j, i < j → j < n → ((entry i).conflicts (entry j) = true ↔ conflict i j) := fun i j hij hj =>
    ScanEntry.conflicts_iff (hr i (by omega)) (hr j hj)
  refine ⟨fun i j hij hj hc hfirst => hbad ?_, fun hno => ?_⟩
  · rw [hright, firstConflict_eq_some hij (by rwa [hlen]) ((hconf i j hij hj).mpr hc), Nat.zero_add]
    intro i' j' hij' hj' hlt
    rw [hlen] at hj'
    exact Bool.eq_false_iff.mpr (mt (hconf i' j' hij' hj').mp (hfirst i' j' hij' hj' hlt))
  · have hnone : tableFault table = none := by
      rw [hright]
      refine firstConflict_eq_none (d := ⟨0, 0, 0, 0⟩) (fun i j hij hj => ?_) 0
      rw [hlen] at hj
      exact Bool.eq_false_iff.mpr (mt (hconf i j hij hj).mp (hno i j hij hj))
    refine ⟨s.taken.installTable table, exec_setScanTable_of_admits h (setScanTable_of_right (s := s.taken) hs hnone), ?_,
      installTable_scan s.taken table, fun p hp1 hp => ?_⟩
    · exact (touches_installTable (by decide)).mpr ((touches_taken (by decide)).mpr (Touches.refl _ _))
    obtain ⟨hpot, hflag⟩ := installTable_pot (s := s.taken) ⟨hl, hm⟩ table hp1 hp
    dsimp only
    refine ⟨fun i hi hc => ?_, fun hun => ?_⟩
    · have hcover : coveringEntry table p = some i :=
        coveringEntry_eq_some (d := ⟨0, 0, 0, 0⟩) (by rwa [hlen]) hc fun j hj hcj =>
          hno j i hj hi (.inl ⟨p, hcj, hc⟩)
      rw [hcover] at hpot
      exact hpot
    · have hcover : coveringEntry table p = none := coveringEntry_eq_none (d := ⟨0, 0, 0, 0⟩) (by rwa [hlen])
      rw [hcover] at hpot
      refine ⟨fun hx => ?_, fun hx => ⟨?_, hflag hcover hx⟩⟩
      · exact hpot.trans (if_neg (Bool.eq_false_iff.mp hx))
      · exact hpot.trans (if_pos hx)
end

section
/-! PROOFS. The events that an operation leaves as they stand, and the hold flag with the AE count through an operation
on one pot (R65, R66). -/

open Sys2Proof Sys2Proof.Machine

namespace Sys2Proof.Machine

/-! ### Events left as they stand (R176) -/

/-- From `s` to `t` the entries of the event queue whose kind and subject `keep` picks stand as they were. -/
structure Leaves (keep : EventKind → Nat → Bool) (s t : State) : Prop where
  entries : (t.events.entries.filter fun e => keep e.kind e.subject)
    = s.events.entries.filter fun e => keep e.kind e.subject
  overrun : s.events.overrun = true → t.events.overrun = true

/-- The events of kind `k` (R186). -/
def ofKind (k : EventKind) : EventKind → Nat → Bool := fun x _ => x == k

/-- The events of kind `k` about subject `n` (R176). -/
def ofSubject (k : EventKind) (n : Nat) : EventKind → Nat → Bool := fun x m => x == k && m == n

section
variable {keep : EventKind → Nat → Bool} {s t u : State}

theorem Leaves.of_events (h : t.events = s.events) : Leaves keep s t := ⟨by rw [h], fun ho => h ▸ ho⟩

theorem Leaves.refl (keep : EventKind → Nat → Bool) (s : State) : Leaves keep s s := .of_events rfl

theorem Leaves.trans (h : Leaves keep s t) (k : Leaves keep t u) : Leaves keep s u :=
  ⟨k.entries.trans h.entries, fun ho => k.overrun (h.overrun ho)⟩

theorem Leaves.of_touches {l : List Block} (h : Touches l s t) (he : .events ∉ l) : Leaves keep s t :=
  .of_events (h.events he)

theorem Leaves.tells {k : EventKind} {n : Nat} {fields : List (List Byte)} (h : Leaves keep s t)
    (hk : keep k n = true) (ht : s.Tells k n fields) : t.Tells k n fields := by
  rcases ht with ho | ⟨e, he, hkind, hsub, hval⟩
  · exact .inl (h.overrun ho)
  · have hmem : e ∈ s.events.entries.filter fun e => keep e.kind e.subject :=
      List.mem_filter.mpr ⟨he, by rw [hkind, hsub]; exact hk⟩
    rw [← h.entries] at hmem
    exact .inr ⟨e, (List.mem_filter.mp hmem).1, hkind, hsub, hval⟩

theorem leaves_self_post {k : EventKind} {n : Nat} {fields : List (List Byte)} (hk : keep k n = false) :
    Leaves keep s (s.post k n fields) := by
  have other : ∀ e : Event, keep e.kind e.subject = true → e.about k n = false := by
    intro e he
    refine Bool.eq_false_iff.mpr fun h => ?_
    simp only [Event.about, Bool.and_eq_true, beq_iff_eq] at h
    obtain ⟨hkind, hsub⟩ := h
    rw [hkind, hsub, hk] at he
    exact Bool.false_ne_true he
  unfold State.post EventQueue.evalAttn EventQueue.post
  constructor
  · simp only [State.setEvents_events]
    split
    · rw [List.filter_map]
      have hpick : ((fun e : Event => keep e.kind e.subject)
          ∘ fun e : Event => if e.about k n then e.again (eventValue fields) s.energy.time else e)
          = fun e => keep e.kind e.subject := by
        funext e
        simp only [Function.comp_apply]
        split <;> rfl
      rw [hpick, List.map_congr_left (g := id), List.map_id]
      intro e he
      rw [other e (List.mem_filter.mp he).2]
      rfl
    · split
      · simp [hk]
      · rfl
  · intro ho
    simp only [State.setEvents_events]
    split
    · exact ho
    · split
      · exact ho
      · rfl

theorem leaves_post {k : EventKind} {n : Nat} {fields : List (List Byte)} (h : Leaves keep s t)
    (hk : keep k n = false) : Leaves keep s (t.post k n fields) := h.trans (leaves_self_post hk)

theorem leaves_setAe {x : AeMonitor} (h : Leaves keep s t) : Leaves keep s (t.setAe x) := h.trans (.of_events rfl)

theorem leaves_setPotAe {p : Nat} {a : PotAe} (h : Leaves keep s t) : Leaves keep s (t.setPotAe p a) :=
  h.trans (.of_events rfl)

theorem leaves_evalHold (hk : keep .aeHold 0 = false) : Leaves keep s s.evalHold := by
  unfold State.evalHold
  dsimp only
  split
  · exact .refl keep s
  · exact leaves_post (leaves_setAe (.refl keep s)) hk

theorem leaves_closeAe {p : Nat} {c : EndCause} {nx : AeState} (hh : keep .aeHold 0 = false)
    (he : keep .aeEnd p = false) : Leaves keep s (s.closeAe p c nx) := by
  unfold State.closeAe State.setAeFlag
  dsimp only
  exact leaves_setPotAe (leaves_post (leaves_setPotAe (Leaves.trans (leaves_setAe (leaves_setAe (.refl keep s)))
    (leaves_evalHold hh))) he)

end

/-! ### The hold flag brought into line (R66) -/

theorem evalHold_ae (s : State) :
    s.evalHold.ae = { s.ae with hold := decide (s.cfgN .aeHoldCount ≤ s.ae.count) } := by
  unfold State.evalHold
  dsimp only
  split
  · rename_i h
    rw [h]
  · rfl

theorem evalHold_pots (s : State) : s.evalHold.pots = s.pots :=
  Touches.pots (l := [.ae, .events]) ((touches_evalHold (by decide)).mpr (Touches.refl _ s)) (by decide)

/-- A change of the hold flag is told with the count, and nothing is told without one (R66). -/
theorem evalHold_told (s : State) :
    (s.evalHold.ae.hold ≠ s.ae.hold →
      s.evalHold.Tells .aeHold 0 [flagByte s.evalHold.ae.hold, beBytes 2 s.evalHold.ae.count])
    ∧ (s.evalHold.ae.hold = s.ae.hold → s.evalHold.events = s.events) := by
  rw [evalHold_ae]
  dsimp only
  unfold State.evalHold
  dsimp only
  split
  · rename_i h
    exact ⟨fun hne => absurd h hne, fun _ => rfl⟩
  · rename_i h
    exact ⟨fun _ => tells_post_self, fun he => absurd he h⟩

/-! ### An operation on one pot -/

/-- From `s` to `t` no pot but `q` has changed, the count has followed the map flag of `q`, lamp and hold flag have
followed the count, and AE_HOLD has been posted at a change of the hold flag and not otherwise (R65, R66). -/
structure CountKept (q : Nat) (s t : State) : Prop where
  only : OnlyPot q s t
  settings : t.settings = s.settings
  count : t.ae.count + (s.ae.flag q).toNat = s.ae.count + (t.ae.flag q).toNat
  follows : t.AeFollows
  told : t.ae.hold ≠ s.ae.hold → t.Tells .aeHold 0 [flagByte t.ae.hold, beBytes 2 t.ae.count]
  untold : t.ae.hold = s.ae.hold → Leaves (ofKind .aeHold) s t

/-- From `s` to `t` no pot but `q` has changed, and of the monitor what stands beside the map, its count and the flags
that follow it. -/
structure MapUntouched (q : Nat) (s t : State) : Prop where
  only : OnlyPot q s t
  settings : t.settings = s.settings
  map : t.ae.map = s.ae.map
  count : t.ae.count = s.ae.count
  lamp : t.ae.lamp = s.ae.lamp
  hold : t.ae.hold = s.ae.hold
  leaves : Leaves (ofKind .aeHold) s t

section
variable {q : Nat} {s t u : State}

theorem MapUntouched.trans (h : MapUntouched q s t) (k : MapUntouched q t u) : MapUntouched q s u :=
  ⟨h.only.trans k.only, k.settings.trans h.settings, k.map.trans h.map, k.count.trans h.count, k.lamp.trans h.lamp,
    k.hold.trans h.hold, h.leaves.trans k.leaves⟩

theorem MapUntouched.refl (q : Nat) (s : State) : MapUntouched q s s :=
  ⟨.refl q s, rfl, rfl, rfl, rfl, rfl, .refl _ s⟩

theorem mapUntouched_setPot {x : Pot} (hq : 1 ≤ q) : MapUntouched q s (s.setPot q x) :=
  ⟨onlyPot_setPot hq, rfl, rfl, rfl, rfl, rfl, .of_events rfl⟩

theorem mapUntouched_setPotAe {a : PotAe} (hq : 1 ≤ q) : MapUntouched q s (s.setPotAe q a) := mapUntouched_setPot hq

theorem mapUntouched_post {k : EventKind} {n : Nat} {fields : List (List Byte)} (hk : k ≠ .aeHold) :
    MapUntouched q s (s.post k n fields) :=
  ⟨.of_same rfl rfl, rfl, rfl, rfl, rfl, rfl, leaves_self_post (beq_eq_false_iff_ne.mpr hk)⟩

theorem MapUntouched.flag (h : MapUntouched q s t) (r : Nat) : t.ae.flag r = s.ae.flag r := flag_congr h.map r

theorem MapUntouched.follows (h : MapUntouched q s t) (hs : s.AeFollows) : t.AeFollows := by
  refine ⟨?_, ?_, ?_⟩
  · rw [h.count, h.map, hs.count]
  · rw [h.lamp, h.count, hs.lamp]
  · rw [h.hold, h.count, cfgN_congr h.settings, hs.hold]

theorem MapUntouched.kept (h : MapUntouched q s t) (hs : s.AeFollows) : CountKept q s t :=
  ⟨h.only, h.settings, by rw [h.count, h.flag], h.follows hs, fun hne => absurd h.hold hne, fun _ => h.leaves⟩

/-- What leaves the map untouched may come before an operation that keeps count. -/
theorem MapUntouched.trans_kept (h : MapUntouched q s t) (k : CountKept q t u) : CountKept q s u := by
  refine ⟨h.only.trans k.only, k.settings.trans h.settings, ?_, k.follows, fun hne => k.told ?_, fun he => ?_⟩
  · rw [← h.flag, k.count, h.count]
  · rwa [h.hold]
  · exact h.leaves.trans (k.untold (by rwa [h.hold]))

/-- What leaves the map untouched may come after an operation that keeps count. -/
theorem CountKept.trans_untouched (h : CountKept q s t) (k : MapUntouched q t u) : CountKept q s u := by
  refine ⟨h.only.trans k.only, k.settings.trans h.settings, ?_, k.follows h.follows, fun hne => ?_, fun he => ?_⟩
  · rw [k.count, k.flag, h.count]
  · rw [k.hold] at hne ⊢
    rw [k.count]
    exact k.leaves.tells rfl (h.told hne)
  · exact (h.untold (by rwa [← k.hold])).trans k.leaves

/-- The hold flag brought into line after the map flag of `q` has been written (R65, R66). -/
theorem evalHold_kept {b : Bool} (hs : s.AeFollows) (hm : s.ae.map.length = 12) (hq1 : 1 ≤ q) (hq : q ≤ 384)
    (honly : OnlyPot q s u) (hset : u.settings = s.settings) (hmap : u.ae.map = aeMapSet s.ae.map q b)
    (hcount : u.ae.count = aeMapCount u.ae.map) (hlamp : u.ae.lamp = decide (0 < u.ae.count))
    (hhold : u.ae.hold = s.ae.hold) (hl : Leaves (ofKind .aeHold) s u) : CountKept q s u.evalHold := by
  obtain ⟨htold, hquiet⟩ := evalHold_told u
  have hkeep : u.evalHold.settings = u.settings :=
    Touches.settings (l := [.ae, .events]) ((touches_evalHold (by decide)).mpr (Touches.refl _ u)) (by decide)
  have hflag : u.evalHold.ae.flag q = b := by
    rw [flag_congr (m := u.ae) (by rw [evalHold_ae])]
    unfold AeMonitor.flag
    rw [hmap, map_flag_set _ _ _ _ hm hq1 hq hq1, if_pos rfl]
  refine ⟨honly.trans (.of_same (evalHold_pots u) (by rw [evalHold_ae])), hkeep.trans hset, ?_,
    evalHold_follows hcount hlamp, fun hne => htold (by rwa [hhold]), fun he => ?_⟩
  · rw [hflag, evalHold_ae]
    dsimp only
    rw [hcount, hmap, hs.count]
    exact aeMapCount_set s.ae q b hm hq
  · exact hl.trans (.of_events (hquiet (by rwa [hhold])))

theorem closeAe_kept {c : EndCause} {nx : AeState} (hs : s.AeFollows) (hw : s.PotsWhole) (hq1 : 1 ≤ q) (hq : q ≤ 384) :
    CountKept q s (s.closeAe q c nx) := by
  have hflagged : OnlyPot q s ((s.aeLogged q c).setAeFlag q false) :=
    ⟨rfl, aeMapSet_length _ _ _, fun _ _ _ => rfl, fun r h1 hr => by
      unfold AeMonitor.flag
      exact (map_flag_set s.ae.map q r false hw.map hq1 hq h1).trans (if_neg hr)⟩
  have hheld : CountKept q s ((s.aeLogged q c).setAeFlag q false).evalHold :=
    evalHold_kept hs hw.map hq1 hq hflagged rfl rfl rfl rfl rfl (.of_events rfl)
  unfold State.closeAe
  exact hheld.trans_untouched ((mapUntouched_setPotAe hq1).trans ((mapUntouched_post (by decide)).trans
    (mapUntouched_setPotAe hq1)))

end

end Sys2Proof.Machine
end

section
/-! PROOFS. A fresh reading (O42; R43, R44, R54 to R59, R64 to R66, R69). -/

open Sys2Proof Sys2Proof.Machine

namespace Sys2Proof.Machine

/-! ### Charges (R59, R69) -/

/-- The AE fields of a pot once the reading `v` is charged (R59). -/
def PotAe.charged (a : PotAe) (v current period : Nat) : PotAe :=
  { a with excess := min Config.accountMax (a.excess + (v - a.vRef) * current * period), peak := max a.peak v }

section
variable {s : State} {q v : Nat}

theorem addExcess_settled (n : Nat) :
    Touches [.energy, .events] (s.setAe { s.ae with excess := s.ae.excess.add n }) (s.addExcess n) := by
  unfold State.addExcess
  simp

theorem addExcess_leaves {keep : EventKind → Nat → Bool} (n : Nat) (hk : keep .energySaturated 5 = false) :
    Leaves keep s (s.addExcess n) := by
  have noted : ∀ (u : State) a b, Leaves keep u (u.noteSaturation 5 a b) := fun u a b => by
    unfold State.noteSaturation
    split
    · exact leaves_self_post hk
    · exact .refl keep u
  unfold State.addExcess State.when
  dsimp only
  refine Leaves.trans (.of_events ?_) (noted _ _ _)
  split <;> rfl

theorem chargeAe_ae (s : State) (q v : Nat) : (s.chargeAe q v).ae = { s.ae with
    excess := s.ae.excess.add ((v - (s.pot q).ae.vRef) * s.front.line.current * s.cfgN .scanPeriod) } := by
  unfold State.chargeAe
  rw [(addExcess_settled _).ae (by decide)]
  rfl

theorem chargeAe_pot_self (hw : s.PotsWhole) (hq1 : 1 ≤ q) (hq : q ≤ 384) : (s.chargeAe q v).pot q
    = { s.pot q with ae := (s.pot q).ae.charged v s.front.line.current (s.cfgN .scanPeriod) } := by
  unfold State.chargeAe
  rw [pot_congr ((addExcess_settled _).pots (by decide))]
  exact hw.setPotAe_self hq1 hq

theorem chargeAe_leaves {keep : EventKind → Nat → Bool} (hk : keep .energySaturated 5 = false) :
    Leaves keep s (s.chargeAe q v) := by
  unfold State.chargeAe
  exact (leaves_setPotAe (.refl keep s)).trans (addExcess_leaves _ hk)

theorem chargeAe_untouched (hq1 : 1 ≤ q) : MapUntouched q s (s.chargeAe q v) := by
  have hae := chargeAe_ae s q v
  have hpots : OnlyPot q s (s.chargeAe q v) := by
    unfold State.chargeAe
    exact (onlyPot_setPotAe hq1).trans (.of_same ((addExcess_settled _).pots (by decide))
      (by rw [(addExcess_settled _).ae (by decide)]; rfl))
  have hset : (s.chargeAe q v).settings = s.settings := Touches.settings (l := [.pots, .ae, .energy, .events])
    ((touches_chargeAe (by decide)).mpr (Touches.refl _ s)) (by decide)
  exact ⟨hpots, hset, by rw [hae], by rw [hae], by rw [hae], by rw [hae], chargeAe_leaves rfl⟩

end

/-! ### The start of an AE (R57) -/

/-- The AE fields of a pot whose AE starts, before its first charge (R57). -/
def PotAe.started (a : PotAe) (vRef : Nat) (start : Time) : PotAe :=
  { a with state := .active, vRef := vRef, frozen := true, startTime := start, peak := 0, excess := 0, recover := 0,
           quench := false, long := false, lifetime := satInc Config.counterMax a.lifetime }

/-- The AE of pot `q` started, told and flagged, before its first charge (R57, R65, R66). -/
def State.aeBegun (s : State) (q v : Nat) (start : Time) : State :=
  (((s.setPotAe q ((s.pot q).ae.started (s.pot q).filtered start)).setAeFlag q true).post .aeStart q
    [beBytes 2 v]).evalHold

theorem startAe_eq (s : State) (q v : Nat) (start : Time) : s.startAe q v start = (s.aeBegun q v start).chargeAe q v :=
  rfl

section
variable {s : State} {q v : Nat} {start : Time} (hw : s.PotsWhole) (hq1 : 1 ≤ q) (hq : q ≤ 384)
include hw hq1 hq

theorem aeBegun_kept (hs : s.AeFollows) : CountKept q s (s.aeBegun q v start) := by
  have hflagged : OnlyPot q (s.setPotAe q ((s.pot q).ae.started (s.pot q).filtered start))
      ((s.setPotAe q ((s.pot q).ae.started (s.pot q).filtered start)).setAeFlag q true) :=
    ⟨rfl, aeMapSet_length _ _ _, fun _ _ _ => rfl, fun r h1 hr => by
      unfold AeMonitor.flag
      exact (map_flag_set s.ae.map q r true hw.map hq1 hq h1).trans (if_neg hr)⟩
  exact evalHold_kept hs hw.map hq1 hq ((onlyPot_setPotAe hq1).trans (hflagged.trans (.of_same rfl rfl))) rfl rfl rfl
    rfl rfl (leaves_post (.of_events rfl) rfl)

theorem aeBegun_pot_self : (s.aeBegun q v start).pot q
    = { s.pot q with ae := (s.pot q).ae.started (s.pot q).filtered start } := by
  unfold State.aeBegun
  rw [pot_congr (evalHold_pots _)]
  exact hw.setPotAe_self hq1 hq

theorem aeBegun_flag : (s.aeBegun q v start).ae.flag q = true := by
  unfold State.aeBegun
  rw [evalHold_ae]
  exact (map_flag_set s.ae.map q q true hw.map hq1 hq hq1).trans (if_pos rfl)

omit hw hq1 hq in
theorem aeBegun_excess : (s.aeBegun q v start).ae.excess = s.ae.excess := by
  unfold State.aeBegun
  rw [evalHold_ae]
  rfl

end


theorem touches_aeBegun {s : State} {q v : Nat} {start : Time} : Touches [.pots, .ae, .events] s (s.aeBegun q v start) := by
  unfold State.aeBegun
  simp

section
variable {s : State} {q v : Nat} {start : Time} (hw : s.PotsWhole) (hq1 : 1 ≤ q) (hq : q ≤ 384)
include hw hq1 hq

omit hq1 hq in
theorem aeBegun_whole : (s.aeBegun q v start).PotsWhole := by
  unfold State.aeBegun
  refine ⟨?_, ?_⟩
  · rw [evalHold_pots]
    exact (pots_length_setPot _ _ _).trans hw.pots
  · rw [evalHold_ae]
    exact (aeMapSet_length _ _ _).trans hw.map

theorem startAe_pot_self : (s.startAe q v start).pot q
    = { s.pot q with
        ae := ((s.pot q).ae.started (s.pot q).filtered start).charged v s.front.line.current (s.cfgN .scanPeriod) } := by
  rw [startAe_eq, chargeAe_pot_self (aeBegun_whole hw) hq1 hq, aeBegun_pot_self hw hq1 hq,
    touches_aeBegun.front (by decide), cfgN_congr (touches_aeBegun.settings (by decide))]

theorem startAe_flag : (s.startAe q v start).ae.flag q = true := by
  rw [startAe_eq, (chargeAe_untouched hq1).flag, aeBegun_flag hw hq1 hq]

theorem startAe_excess : (s.startAe q v start).ae.excess
    = s.ae.excess.add ((v - (s.pot q).filtered) * s.front.line.current * s.cfgN .scanPeriod) := by
  rw [startAe_eq, chargeAe_ae, aeBegun_pot_self hw hq1 hq, touches_aeBegun.front (by decide),
    cfgN_congr (touches_aeBegun.settings (by decide)), aeBegun_excess]
  rfl

theorem startAe_kept (hs : s.AeFollows) : CountKept q s (s.startAe q v start) :=
  (aeBegun_kept hw hq1 hq hs).trans_untouched (chargeAe_untouched hq1)

end

theorem startAe_tells (s : State) (q v : Nat) (start : Time) : (s.startAe q v start).Tells .aeStart q [beBytes 2 v] := by
  rw [startAe_eq]
  exact (chargeAe_leaves (keep := ofKind .aeStart) rfl).tells rfl
    ((leaves_evalHold (keep := ofKind .aeStart) rfl).tells rfl tells_post_self)

/-! ### What every evaluation has in common -/

/-- From `s` to `t` a reading of pot `q` has been evaluated: the count is kept, the map flag of the pot agrees with its
AE state, and of its voltage part only the filtered voltage may have gone back to `before` (R54, R65). -/
structure Evaluated (q before : Nat) (s t : State) : Prop where
  kept : CountKept q s t
  flag : t.ae.flag q = (t.pot q).ae.state.inAe
  record : t.pot q = { s.pot q with ae := (t.pot q).ae }
    ∨ t.pot q = { s.pot q with filtered := before, ae := (t.pot q).ae }

section
variable {s t u : State} {q before n : Nat} {a : PotAe}

/-- An evaluation in which the pot neither enters nor leaves an AE. -/
theorem MapUntouched.evaluated (h : MapUntouched q s t) (hs : s.AeFollows)
    (hflag : s.ae.flag q = (s.pot q).ae.state.inAe) (hpot : t.pot q = { s.pot q with filtered := n, ae := a })
    (hn : n = (s.pot q).filtered ∨ n = before) (hin : a.state.inAe = (s.pot q).ae.state.inAe) :
    Evaluated q before s t := by
  refine ⟨h.kept hs, ?_, ?_⟩
  · rw [h.flag, hflag, hpot, hin]
  · rw [hpot]
    exact hn.imp (fun e => by rw [e]) (fun e => by rw [e])

/-- What leaves the map untouched may come before an evaluation. -/
theorem MapUntouched.trans_evaluated (h : MapUntouched q s t) (hpot : t.pot q = { s.pot q with filtered := n, ae := a })
    (hn : n = (s.pot q).filtered ∨ n = before) (k : Evaluated q before t u) : Evaluated q before s u := by
  refine ⟨h.trans_kept k.kept, k.flag, ?_⟩
  rcases k.record with hr | hr
  · rw [hpot] at hr
    exact hn.imp (fun e => by rwa [e] at hr) (fun e => by rwa [e] at hr)
  · rw [hpot] at hr
    exact .inr hr

end

/-! ### The machine, state by state (R54 to R58) -/

section
variable {s : State} {q v before : Nat}

theorem evalQuiet_high (h : s.cfgN .aeOn ≤ v) : s.evalQuiet q v before
    = s.setPot q { s.pot q with filtered := before, ae :=
        { (s.pot q).ae with state := .pending, frozen := true, pendingTime := s.energy.time, timer := 0 } } := if_pos h

theorem evalQuiet_suspect (h : ¬ s.cfgN .aeOn ≤ v)
    (hr : 0 < s.cfgN .suspectRes ∧ s.cfgN .suspectRes ≤ (s.pot q).resistance) : s.evalQuiet q v before
    = (s.setPotAe q { (s.pot q).ae with state := .suspect }).post .potSuspect q [beBytes 4 (s.pot q).resistance] :=
  (if_neg h).trans (if_pos hr)

theorem evalQuiet_normal (h : ¬ s.cfgN .aeOn ≤ v)
    (hr : ¬ (0 < s.cfgN .suspectRes ∧ s.cfgN .suspectRes ≤ (s.pot q).resistance)) :
    s.evalQuiet q v before = s.setPotAe q { (s.pot q).ae with state := .normal } :=
  (if_neg h).trans (if_neg hr)

theorem evalSuspect_high (h : s.cfgN .aeOn ≤ v) : s.evalSuspect q v before
    = (s.setPot q { s.pot q with filtered := before, ae := { (s.pot q).ae with timer := 0 } }).startAe q v
        s.energy.time := if_pos h

theorem evalSuspect_normal (h : ¬ s.cfgN .aeOn ≤ v)
    (hr : s.cfgN .suspectRes = 0 ∨ (s.pot q).resistance + s.cfgN .suspectHyst < s.cfgN .suspectRes) :
    s.evalSuspect q v before = s.setPotAe q { (s.pot q).ae with state := .normal } :=
  (if_neg h).trans (if_pos hr)

theorem evalSuspect_stays (h : ¬ s.cfgN .aeOn ≤ v)
    (hr : ¬ (s.cfgN .suspectRes = 0 ∨ (s.pot q).resistance + s.cfgN .suspectHyst < s.cfgN .suspectRes)) :
    s.evalSuspect q v before = s := (if_neg h).trans (if_neg hr)

theorem evalPending_high (h : s.cfgN .aeOn ≤ v) :
    s.evalPending q v = s.startAe q v (s.pot q).ae.pendingTime := if_pos h

theorem evalPending_spike (h : ¬ s.cfgN .aeOn ≤ v) : s.evalPending q v
    = s.setPotAe q { (s.pot q).ae with
        state := .normal, frozen := false, spikes := satInc Config.counterMax (s.pot q).ae.spikes } := if_neg h

theorem evalInAe_active_low (ha : (s.pot q).ae.state = .active) (h : v < s.cfgN .aeOff) :
    s.evalInAe q v = s.setPotAe q { (s.pot q).ae with state := .recovering, recover := 1 } :=
  (if_pos ha).trans (if_pos (decide_eq_true h))

theorem evalInAe_active_high (ha : (s.pot q).ae.state = .active) (h : ¬ v < s.cfgN .aeOff) : s.evalInAe q v = s :=
  (if_pos ha).trans (if_neg (by simpa using h))

theorem evalInAe_recovering_high (ha : (s.pot q).ae.state ≠ .active) (h : ¬ v < s.cfgN .aeOff) :
    s.evalInAe q v = s.setPotAe q { (s.pot q).ae with state := .active, recover := 0 } :=
  (if_neg ha).trans (if_pos (by simpa using h))

/-- A pot in RECOVERING after one more reading below AE_OFF (R58). -/
def State.recovered (s : State) (q : Nat) : State :=
  s.setPotAe q { (s.pot q).ae with recover := (s.pot q).ae.recover + 1 }

theorem evalInAe_recovering_low (ha : (s.pot q).ae.state ≠ .active) (h : v < s.cfgN .aeOff) : s.evalInAe q v
    = if s.cfgN .recoverScans ≤ (s.pot q).ae.recover + 1 then (s.recovered q).closeAe q .normalEnd .normal
      else s.recovered q :=
  (if_neg ha).trans (if_neg (by simpa using h))

end

section
variable {s : State} {q v before : Nat} (hs : s.AeFollows) (hw : s.PotsWhole) (hq1 : 1 ≤ q) (hq : q ≤ 384)
  (hflag : s.ae.flag q = (s.pot q).ae.state.inAe)
include hs hw hq1 hq hflag

/-- A pot whose AE state is written, within an AE or without. -/
theorem setPotAe_evaluated {a : PotAe} (hin : a.state.inAe = (s.pot q).ae.state.inAe) :
    Evaluated q before s (s.setPotAe q a) :=
  (mapUntouched_setPotAe hq1).evaluated hs hflag (hw.setPotAe_self hq1 hq) (.inl rfl) hin

omit hflag in
theorem startAe_evaluated {start : Time} : Evaluated q before s (s.startAe q v start) := by
  refine ⟨startAe_kept hw hq1 hq hs, ?_, .inl ?_⟩
  · rw [startAe_flag hw hq1 hq, startAe_pot_self hw hq1 hq]
    rfl
  · rw [startAe_pot_self hw hq1 hq]

omit hflag in
theorem closeAe_evaluated {c : EndCause} {nx : AeState} (hnx : nx.inAe = false) :
    Evaluated q before s (s.closeAe q c nx) := by
  obtain ⟨_, _, hoff, _⟩ := closeAe_closes (c := c) (nx := nx) hw hq1 hq
  refine ⟨closeAe_kept hs hw hq1 hq, ?_, .inl ?_⟩
  · rw [hoff, closeAe_pot_self hw hq1 hq, hnx]
  · rw [closeAe_pot_self hw hq1 hq]

theorem evalQuiet_evaluated (hin : (s.pot q).ae.state.inAe = false) :
    Evaluated q before s (s.evalQuiet q v before) := by
  by_cases hv : s.cfgN .aeOn ≤ v
  · rw [evalQuiet_high hv]
    exact (mapUntouched_setPot hq1).evaluated hs hflag (hw.setPot_self hq1 hq) (.inr rfl) hin.symm
  by_cases hr : 0 < s.cfgN .suspectRes ∧ s.cfgN .suspectRes ≤ (s.pot q).resistance
  · rw [evalQuiet_suspect hv hr]
    exact ((mapUntouched_setPotAe hq1).trans (mapUntouched_post (by decide))).evaluated hs hflag
      (hw.setPotAe_self hq1 hq) (.inl rfl) hin.symm
  · rw [evalQuiet_normal hv hr]
    exact setPotAe_evaluated hs hw hq1 hq hflag hin.symm

theorem evalSuspect_evaluated (hin : (s.pot q).ae.state.inAe = false) :
    Evaluated q before s (s.evalSuspect q v before) := by
  by_cases hv : s.cfgN .aeOn ≤ v
  · rw [evalSuspect_high hv]
    have hset : MapUntouched q s (s.setPot q { s.pot q with filtered := before, ae := { (s.pot q).ae with timer := 0 } }) :=
      mapUntouched_setPot hq1
    exact hset.trans_evaluated (hw.setPot_self hq1 hq) (.inr rfl)
      (startAe_evaluated (hset.follows hs) (hset.only.whole hw) hq1 hq)
  by_cases hr : s.cfgN .suspectRes = 0 ∨ (s.pot q).resistance + s.cfgN .suspectHyst < s.cfgN .suspectRes
  · rw [evalSuspect_normal hv hr]
    exact setPotAe_evaluated hs hw hq1 hq hflag hin.symm
  · rw [evalSuspect_stays hv hr]
    exact (MapUntouched.refl q s).evaluated hs hflag rfl (.inl rfl) rfl

theorem evalPending_evaluated (hin : (s.pot q).ae.state.inAe = false) :
    Evaluated q before s (s.evalPending q v) := by
  by_cases hv : s.cfgN .aeOn ≤ v
  · rw [evalPending_high hv]
    exact startAe_evaluated hs hw hq1 hq
  · rw [evalPending_spike hv]
    exact setPotAe_evaluated hs hw hq1 hq hflag hin.symm

theorem evalInAe_evaluated (hin : (s.pot q).ae.state.inAe = true) : Evaluated q before s (s.evalInAe q v) := by
  by_cases ha : (s.pot q).ae.state = .active
  · by_cases hv : v < s.cfgN .aeOff
    · rw [evalInAe_active_low ha hv]
      exact setPotAe_evaluated hs hw hq1 hq hflag hin.symm
    · rw [evalInAe_active_high ha hv]
      exact (MapUntouched.refl q s).evaluated hs hflag rfl (.inl rfl) rfl
  · by_cases hv : v < s.cfgN .aeOff
    · rw [evalInAe_recovering_low ha hv]
      have hrec : MapUntouched q s (s.recovered q) := mapUntouched_setPotAe hq1
      split
      · exact hrec.trans_evaluated (hw.setPotAe_self hq1 hq) (.inl rfl)
          (closeAe_evaluated (hrec.follows hs) (hrec.only.whole hw) hq1 hq rfl)
      · exact setPotAe_evaluated hs hw hq1 hq hflag rfl
    · rw [evalInAe_recovering_high ha hv]
      exact setPotAe_evaluated hs hw hq1 hq hflag hin.symm

theorem evalCharged_evaluated (hin : (s.pot q).ae.state.inAe = true) :
    Evaluated q before s ((s.chargeAe q v).evalInAe q v) := by
  have hc : MapUntouched q s (s.chargeAe q v) := chargeAe_untouched hq1
  have hpot := chargeAe_pot_self (v := v) hw hq1 hq
  have hstate : ((s.chargeAe q v).pot q).ae.state = (s.pot q).ae.state := by
    rw [hpot]; rfl
  refine hc.trans_evaluated hpot (.inl rfl) (evalInAe_evaluated (hc.follows hs) (hc.only.whole hw) hq1 hq ?_ ?_)
  · rw [hc.flag, hflag, hstate]
  · rw [hstate, hin]

theorem evalAe_evaluated : Evaluated q before s (s.evalAe q v before) := by
  unfold State.evalAe
  cases hst : (s.pot q).ae.state with
  | out => exact (MapUntouched.refl q s).evaluated hs hflag rfl (.inl rfl) rfl
  | unmonitored => exact evalQuiet_evaluated hs hw hq1 hq hflag (by rw [hst]; rfl)
  | normal => exact evalQuiet_evaluated hs hw hq1 hq hflag (by rw [hst]; rfl)
  | suspect => exact evalSuspect_evaluated hs hw hq1 hq hflag (by rw [hst]; rfl)
  | pending => exact evalPending_evaluated hs hw hq1 hq hflag (by rw [hst]; rfl)
  | active => exact evalCharged_evaluated hs hw hq1 hq hflag (by rw [hst]; rfl)
  | recovering => exact evalCharged_evaluated hs hw hq1 hq hflag (by rw [hst]; rfl)

end

end Sys2Proof.Machine
end

section
/-! PROOFS. The reading of a pot before its evaluation (R43, R44), and the statement O42. -/

open Sys2Proof Sys2Proof.Machine

namespace Sys2Proof.Machine

/-! ### The voltage part (R43, R44) -/

/-- The filtered voltage after the filter step for the reading `v` (R43 step 3). -/
def Pot.stepped (x : Pot) (v shift : Nat) : Nat :=
  if x.seeded = false then v else if x.ae.frozen then x.filtered else filterStep x.filtered v shift

/-- A pot record once a reading has been noted in it (R43 step 1). -/
def Pot.noted (x : Pot) (v : Nat) (st : ReadStatus) (now : Time) : Pot :=
  { x with lastVoltage := v, status := st, lastFresh := some now, stale := 0, staleNow := false }

theorem Pot.fresh_of_cutOut {x : Pot} (h : x.cutOut = true) (v : Nat) (st : ReadStatus) (now : Time)
    (current shift backEmf : Nat) : x.fresh v st now current shift backEmf = x.noted v st now := if_pos h

theorem Pot.fresh_of_connected {x : Pot} (h : x.cutOut = false) (v : Nat) (st : ReadStatus) (now : Time)
    (current shift backEmf : Nat) : x.fresh v st now current shift backEmf
      = { x.noted v st now with
          seeded := true, filtered := x.stepped v shift,
          resistance := if 10000 ≤ current then pseudoResistance (x.stepped v shift) backEmf current
                        else x.resistance } := by
  have hstep : (if !x.seeded then v else if x.ae.frozen then x.filtered else filterStep x.filtered v shift)
      = x.stepped v shift := by
    unfold Pot.stepped
    simp only [Bool.not_eq_true']
  unfold Pot.fresh
  dsimp only
  rw [hstep, if_neg (Bool.eq_false_iff.mp h)]
  rfl

/-- The state once a fresh reading of pot `q` stands in the pot's voltage part (R43, R44). -/
def State.readingTaken (s : State) (q v : Nat) (st : ReadStatus) : State :=
  s.setPot q ((s.pot q).fresh v st s.energy.time s.front.line.current (s.cfgN .filterShift) (s.cfgN .backEmf))

section
variable {s : State} {q : Nat} (hf : (s.pot q).fitted = true) (v : Nat) (st : ReadStatus)
include hf

theorem freshReading_of_cutOut (h : (s.pot q).cutOut = true) : s.freshReading q v st = s.readingTaken q v st :=
  (if_pos hf).trans (if_pos h)

theorem freshReading_of_connected (h : (s.pot q).cutOut = false) : s.freshReading q v st
    = (s.readingTaken q v st).evalAe q v (if (s.pot q).seeded then (s.pot q).filtered else v) :=
  (if_pos hf).trans (if_neg (Bool.eq_false_iff.mp h))

end

section
variable {s : State} {q v before : Nat}

theorem evalAe_of_quiet (h : (s.pot q).ae.state = .normal ∨ (s.pot q).ae.state = .unmonitored) :
    s.evalAe q v before = s.evalQuiet q v before := by
  unfold State.evalAe
  rcases h with h | h <;> rw [h]

theorem evalAe_of_suspect (h : (s.pot q).ae.state = .suspect) : s.evalAe q v before = s.evalSuspect q v before := by
  unfold State.evalAe
  rw [h]

theorem evalAe_of_pending (h : (s.pot q).ae.state = .pending) : s.evalAe q v before = s.evalPending q v := by
  unfold State.evalAe
  rw [h]

theorem evalAe_of_inAe (h : (s.pot q).ae.state = .active ∨ (s.pot q).ae.state = .recovering) :
    s.evalAe q v before = (s.chargeAe q v).evalInAe q v := by
  unfold State.evalAe
  rcases h with h | h <;> rw [h]

end

theorem evalQuiet_ae (s : State) (q v before : Nat) : (s.evalQuiet q v before).ae = s.ae :=
  Touches.ae (l := [.pots, .events]) ((touches_evalQuiet (by decide)).mpr (Touches.refl _ s)) (by decide)

/-! ### The readings of an AE in progress (R58, R59) -/

section
variable {s : State} {q v : Nat} (hw : s.PotsWhole) (hq1 : 1 ≤ q) (hq : q ≤ 384)
include hw hq1 hq

theorem evalInAe_excess : (s.evalInAe q v).ae.excess = s.ae.excess := by
  by_cases ha : (s.pot q).ae.state = .active
  · by_cases hv : v < s.cfgN .aeOff
    · rw [evalInAe_active_low ha hv]
      rfl
    · rw [evalInAe_active_high ha hv]
  · by_cases hv : v < s.cfgN .aeOff
    · rw [evalInAe_recovering_low ha hv]
      have hrec : (s.recovered q).PotsWhole := OnlyPot.whole (p := q) (onlyPot_setPotAe hq1) hw
      obtain ⟨_, _, _, _, _, _, hexcess⟩ := closeAe_spec (s.recovered q) q .normalEnd .normal hrec.map hrec.pots hq1 hq
      split
      · exact hexcess
      · rfl
    · rw [evalInAe_recovering_high ha hv]
      rfl

theorem evalInAe_active_pot (ha : (s.pot q).ae.state = .active) : (s.evalInAe q v).pot q
    = { s.pot q with ae := { (s.pot q).ae with
          state := if v < s.cfgN .aeOff then .recovering else .active,
          recover := if v < s.cfgN .aeOff then 1 else (s.pot q).ae.recover } } := by
  by_cases hv : v < s.cfgN .aeOff
  · rw [evalInAe_active_low ha hv, hw.setPotAe_self hq1 hq, if_pos hv, if_pos hv]
  · rw [evalInAe_active_high ha hv, if_neg hv, if_neg hv, ← ha]

/-- The last reading below AE_OFF ends the AE (R58, R64). -/
theorem evalInAe_ends (ha : (s.pot q).ae.state ≠ .active) (hv : v < s.cfgN .aeOff)
    (hr : s.cfgN .recoverScans ≤ (s.pot q).ae.recover + 1) :
    (s.evalInAe q v).pot q = { s.pot q with ae := { (s.pot q).ae with
          state := .normal, frozen := false, recover := (s.pot q).ae.recover + 1 } }
      ∧ s.AeClosed (s.evalInAe q v) q (s.pot q).ae .normalEnd := by
  have hrec : (s.recovered q).PotsWhole := OnlyPot.whole (p := q) (onlyPot_setPotAe hq1) hw
  have hpot : (s.recovered q).pot q = _ := hw.setPotAe_self hq1 hq
  have hclosed := closeAe_closes (c := .normalEnd) (nx := .normal) hrec hq1 hq
  rw [evalInAe_recovering_low ha hv, if_pos hr, closeAe_pot_self hrec hq1 hq]
  rw [hpot] at hclosed ⊢
  exact ⟨rfl, hclosed⟩

end

/-! ### The reading as a whole -/

section
variable {s : State} {q : Nat} (hs : s.AeFollows) (hw : s.PotsWhole) (hq1 : 1 ≤ q) (hq : q ≤ 384)
  (hflag : s.ae.flag q = (s.pot q).ae.state.inAe) (v : Nat) (st : ReadStatus)
include hs hw hq1 hq hflag

omit hs hflag in
theorem readingTaken_pot_self : (s.readingTaken q v st).pot q
    = (s.pot q).fresh v st s.energy.time s.front.line.current (s.cfgN .filterShift) (s.cfgN .backEmf) :=
  hw.setPot_self hq1 hq

omit hs hflag in
theorem readingTaken_pot_ae : ((s.readingTaken q v st).pot q).ae = (s.pot q).ae := by
  rw [readingTaken_pot_self hw hq1 hq]
  unfold Pot.fresh
  dsimp only
  split <;> rfl

theorem readingTaken_evaluated {before : Nat} :
    Evaluated q before (s.readingTaken q v st) ((s.readingTaken q v st).evalAe q v before) := by
  have htaken : MapUntouched q s (s.readingTaken q v st) := mapUntouched_setPot hq1
  refine evalAe_evaluated (htaken.follows hs) (htaken.only.whole hw) hq1 hq ?_
  rw [htaken.flag, hflag, readingTaken_pot_ae hw hq1 hq]

/-- The count is kept, and the map flag agrees with the AE state (R65). -/
theorem freshReading_kept (hf : (s.pot q).fitted = true) : CountKept q s (s.freshReading q v st)
    ∧ (s.freshReading q v st).ae.flag q = ((s.freshReading q v st).pot q).ae.state.inAe := by
  have htaken : MapUntouched q s (s.readingTaken q v st) := mapUntouched_setPot hq1
  cases hc : (s.pot q).cutOut with
  | true =>
    rw [freshReading_of_cutOut hf v st hc]
    exact ⟨htaken.kept hs, by rw [htaken.flag, hflag, readingTaken_pot_ae hw hq1 hq]⟩
  | false =>
    rw [freshReading_of_connected hf v st hc]
    obtain ⟨kept, flag, _⟩ := readingTaken_evaluated hs hw hq1 hq hflag v st
      (before := if (s.pot q).seeded then (s.pot q).filtered else v)
    exact ⟨htaken.trans_kept kept, flag⟩

end

end Sys2Proof.Machine

/-- Settles O42: every evaluation keeps the count, and each state of the machine is read from its own equations. -/
theorem freshReadingDrivesTheAnodeEffectMachine : Obligations.FreshReadingDrivesTheAnodeEffectMachine := by
  unfold Obligations.FreshReadingDrivesTheAnodeEffectMachine
  intro s q v st hmap hq1 hq hfit t x y a b current full up taken stepped resistance before read high low suspect
    charged charges started quiet member told
  have hs : s.AeFollows := State.MapKept.follows hmap
  obtain ⟨hm, hl, _, _, _, hflags, _⟩ := hmap
  have hw : s.PotsWhole := ⟨hl, hm⟩
  have hflag : s.ae.flag q = a.state.inAe := hflags q (mem_pots.mpr ⟨hq1, hq⟩)
  obtain ⟨hkept, hagrees⟩ := freshReading_kept hs hw hq1 hq hflag v st hfit
  have hmember : ∀ a : PotAe, member a = a.state.inAe.toNat := fun a => by
    simp only [member]
    cases a.state.inAe <;> rfl
  refine ⟨(touches_freshReading (by decide)).mpr (Touches.refl _ s),
    ⟨?_, hkept.follows.lamp, ?_, hkept.told, fun h => (hkept.untold h).entries⟩, 
    fun r h1 _ hr => hkept.only.pot r h1 hr, fun hc => ?_, fun hc => ?_⟩
  · rw [hmember, hmember, ← hflag, ← hagrees]
    exact hkept.count
  · rw [← cfgN_congr hkept.settings]
    exact hkept.follows.hold
  · have ht : t = s.readingTaken q v st := freshReading_of_cutOut hfit v st hc
    refine ⟨?_, by rw [ht]; rfl, by rw [ht]; rfl⟩
    simp only [y, ht]
    rw [readingTaken_pot_self hw hq1 hq, Pot.fresh_of_cutOut hc]
    rfl
  have ht : t = (s.readingTaken q v st).evalAe q v before := freshReading_of_connected hfit v st hc
  have hpot : (s.readingTaken q v st).pot q = read stepped := by
    rw [readingTaken_pot_self hw hq1 hq, Pot.fresh_of_connected hc]
    rfl
  obtain ⟨_, _, hrecord⟩ := readingTaken_evaluated hs hw hq1 hq hflag v st (before := before)
  have hwu : (s.readingTaken q v st).PotsWhole := (onlyPot_setPot hq1).whole hw
  have hae : ((s.readingTaken q v st).pot q).ae = a := readingTaken_pot_ae hw hq1 hq v st
  rw [← ht] at hrecord
  have hres : ((s.readingTaken q v st).pot q).resistance = resistance := by rw [hpot]
  generalize hu : s.readingTaken q v st = u at *
  have huae : u.ae = s.ae := by rw [← hu]; rfl
  have hufront : u.front = s.front := by rw [← hu]; rfl
  have huset : u.settings = s.settings := by rw [← hu]; rfl
  have huenergy : u.energy = s.energy := by rw [← hu]; rfl
  have huevents : u.events = s.events := by rw [← hu]; rfl
  have hcfg : ∀ i, u.cfgN i = s.cfgN i := cfgN_congr huset
  have hstarted : ∀ (w : State) (vRef timer : Nat) (start : Time), w.PotsWhole → w.ae = s.ae → w.front = s.front →
      w.settings = s.settings → (w.pot q).filtered = vRef → (w.pot q).ae = { a with timer := timer } →
      t = w.startAe q v start → y.filtered = vRef ∧ started vRef timer start := by
    intro w vRef timer start hww hwae hwfront hwset hwf hwa e
    have hy : y = _ := (congrArg (fun t : State => t.pot q) e).trans (startAe_pot_self hww hq1 hq)
    have hexcess := startAe_excess (v := v) (start := start) hww hq1 hq
    rw [← e, hwf, hwae, hwfront, cfgN_congr hwset] at hexcess
    refine ⟨?_, ?_, hexcess, ?_, ?_⟩
    · rw [hy, hwf]
    · simp only [b]
      rw [hy, hwf, hwa, hwfront, cfgN_congr hwset]
      rfl
    · rw [e]
      exact startAe_flag hww hq1 hq
    · rw [e]
      exact startAe_tells w q v start
  have hcu : MapUntouched q u (u.chargeAe q v) := chargeAe_untouched hq1
  have hwc : (u.chargeAe q v).PotsWhole := hcu.only.whole hwu
  have hccfg : ∀ i, (u.chargeAe q v).cfgN i = s.cfgN i := cfgN_congr (hcu.settings.trans huset)
  have hcae := chargeAe_ae u q v
  rw [huae, hae, hufront, hcfg] at hcae
  have hcpot : (u.chargeAe q v).pot q = { read stepped with ae := charged a } := by
    rw [chargeAe_pot_self hwu hq1 hq, hae, hpot, hufront, hcfg]
    rfl
  have hcharges : t = (u.chargeAe q v).evalInAe q v → charges a.vRef := fun ht =>
    (congrArg (fun t : State => t.ae.excess) ht).trans ((evalInAe_excess hwc hq1 hq).trans (by rw [hcae]; rfl))
  refine ⟨?_, fun hst => ?_, fun hst => ?_, fun hst => ?_, fun hst => ?_, fun hst => ?_⟩
  · rw [hpot] at hrecord
    exact hrecord
  · rw [evalAe_of_quiet (by rwa [hae])] at ht
    refine ⟨(congrArg State.ae ht).trans ((evalQuiet_ae u q v before).trans huae), fun hv => ?_, fun hv h0 h1 => ?_, fun hv hr => ?_⟩
    · rw [evalQuiet_high (by rw [hcfg]; exact hv)] at ht
      simp only [y, ht]
      rw [hwu.setPot_self hq1 hq, hae, hpot, huenergy]
    · rw [evalQuiet_suspect (by rw [hcfg]; exact hv) (by rw [hcfg, hres]; exact ⟨h0, h1⟩)] at ht
      refine ⟨?_, ?_⟩
      · simp only [y, ht]
        rw [pot_congr (State.post_pots _ _ _ _), hwu.setPotAe_self hq1 hq, hae, hpot]
      · rw [ht, hres]
        exact tells_post_self
    · rw [evalQuiet_normal (by rw [hcfg]; exact hv) (by rw [hcfg, hres]; omega)] at ht
      refine ⟨?_, ?_⟩
      · simp only [y, ht]
        rw [hwu.setPotAe_self hq1 hq, hae, hpot]
      · rw [ht, ← huevents]
        rfl
  · rw [evalAe_of_suspect (hae ▸ hst)] at ht
    refine ⟨fun hv => ?_, fun hv => ?_⟩
    · rw [evalSuspect_high (by rw [hcfg]; exact hv), huenergy] at ht
      have hself := hwu.setPot_self (x := { u.pot q with filtered := before, ae := { (u.pot q).ae with timer := 0 } }) hq1 hq
      refine hstarted _ before 0 s.energy.time (OnlyPot.whole (p := q) (onlyPot_setPot hq1) hwu) huae hufront huset ?_ ?_ ht
      · rw [hself]
      · rw [hself, hae]
    · by_cases hr : suspect = 0 ∨ resistance + s.cfgN .suspectHyst < suspect
      · rw [evalSuspect_normal (by rw [hcfg]; exact hv) (by rw [hcfg, hcfg, hres]; exact hr)] at ht
        refine ⟨(congrArg State.ae ht).trans huae, ?_⟩
        simp only [y, ht]
        rw [hwu.setPotAe_self hq1 hq, hae, hpot, if_pos hr]
      · rw [evalSuspect_stays (by rw [hcfg]; exact hv) (by rw [hcfg, hcfg, hres]; exact hr)] at ht
        refine ⟨(congrArg State.ae ht).trans huae, ?_⟩
        simp only [y, ht]
        rw [hpot, if_neg hr, ← hst]
  · rw [evalAe_of_pending (hae ▸ hst)] at ht
    refine ⟨fun hv => ?_, fun hv => ?_⟩
    · rw [evalPending_high (by rw [hcfg]; exact hv), hae] at ht
      exact hstarted u stepped a.timer a.pendingTime hwu huae hufront huset (by rw [hpot]) hae ht
    · rw [evalPending_spike (by rw [hcfg]; exact hv)] at ht
      refine ⟨(congrArg State.ae ht).trans huae, ?_⟩
      simp only [y, ht]
      rw [hwu.setPotAe_self hq1 hq, hae, hpot]
      rfl
  · rw [evalAe_of_inAe (by rw [hae]; exact .inl hst)] at ht
    have hact : ((u.chargeAe q v).pot q).ae.state = .active := by rw [hcpot]; exact hst
    have hy : y = _ := (congrArg (fun t : State => t.pot q) ht).trans (evalInAe_active_pot hwc hq1 hq hact)
    refine ⟨by rw [hy, hcpot], hcharges ht, ?_⟩
    simp only [b]
    rw [hy, hcpot, hccfg]
  · rw [evalAe_of_inAe (by rw [hae]; exact .inr hst)] at ht
    have hrec : ((u.chargeAe q v).pot q).ae.state ≠ .active := by
      have : ((u.chargeAe q v).pot q).ae.state = .recovering := by rw [hcpot]; exact hst
      rw [this]
      decide
    have hhigh : ¬ low → y = { read stepped with ae := { charged a with state := .active, recover := 0 } } := by
      intro hv
      rw [evalInAe_recovering_high hrec (by rw [hccfg]; exact hv)] at ht
      simp only [y, ht]
      rw [hwc.setPotAe_self hq1 hq, hcpot]
    have hcounts : low → a.recover + 1 < s.cfgN .recoverScans →
        y = { read stepped with ae := { charged a with recover := a.recover + 1 } } := by
      intro hv hr
      rw [evalInAe_recovering_low hrec (by rw [hccfg]; exact hv), if_neg (by rw [hccfg, hcpot]; exact Nat.not_le.mpr hr)]
        at ht
      simp only [y, ht]
      unfold State.recovered
      rw [hwc.setPotAe_self hq1 hq, hcpot]
    have hends : low → s.cfgN .recoverScans ≤ a.recover + 1 →
        y = { read stepped with ae := { charged a with state := .normal, frozen := false, recover := a.recover + 1 } }
          ∧ s.AeClosed t q (charged a) .normalEnd := by
      intro hv hr
      obtain ⟨hend, hclosed⟩ := evalInAe_ends hwc hq1 hq hrec (v := v) (by rw [hccfg]; exact hv)
        (by rw [hccfg, hcpot]; exact hr)
      rw [← ht, hcpot] at hend hclosed
      refine ⟨hend, ?_⟩
      unfold State.AeClosed at hclosed ⊢
      rwa [hcae] at hclosed
    refine ⟨?_, hcharges ht, fun hv => ?_, fun hv hr => ?_, fun hv hr => ?_⟩
    · by_cases hv : low
      · rcases Nat.lt_or_ge (a.recover + 1) (s.cfgN .recoverScans) with hr | hr
        · rw [hcounts hv hr]
        · rw [(hends hv hr).1]
      · rw [hhigh hv]
    · simp only [b]
      rw [hhigh hv]
    · simp only [b]
      rw [hcounts hv hr]
    · obtain ⟨hend, hclosed⟩ := hends hv hr
      refine ⟨?_, hclosed⟩
      simp only [b]
      rw [hend]
end

section
/-! PROOFS. The replies of measuring modules as bytes (R41, R185). -/

open Sys2Proof Sys2Proof.Machine

namespace Sys2Proof.Machine

theorem beNat_singleton (b : Byte) : beNat [b] = b.toNat := by simp [beNat]

theorem field_take {xs : List Byte} {m n k : Nat} (h : n + k ≤ m) : field (xs.take m) n k = field xs n k := by
  unfold field
  rw [List.drop_take, List.take_take, Nat.min_eq_left (by omega)]

theorem toNat_getD_eq_field (xs : List Byte) (n : Nat) : (xs.getD n 0#8).toNat = field xs n 1 := by
  unfold field
  rw [List.getD_eq_getElem?_getD, ← List.head?_drop]
  cases xs.drop n with
  | nil => rfl
  | cons b rest => exact (beNat_singleton b).symm

/-- The channels of a reply read by place (R185). -/
theorem readChannels_eq {n : Nat} {xs : List Byte} (h : xs.length = 3 * n) :
    readChannels xs = (List.range n).map fun k => (field xs (3 * k) 2, field xs (3 * k + 2) 1) := by
  induction n generalizing xs with
  | zero => rw [List.length_eq_zero_iff.mp h]; rfl
  | succ n ih =>
    match xs, h with
    | a :: b :: st :: rest, h =>
      rw [List.range_succ_eq_map, List.map_cons, List.map_map, readChannels, ih (by simp at h; omega),
        ← beNat_singleton st]
      rfl

/-- What is not a whole and right reply to a poll of `e` is none (R41, R185). -/
theorem goodReply_eq_none {e : ScanEntry} {bytes : List Byte}
    (h : bytes.length ≠ 3 * e.count + 5 ∨ bytes.getD 0 0#8 ≠ 0x69#8 ∨ field bytes 1 1 ≠ e.module + 0x80
      ∨ field bytes 2 1 ≠ e.count ∨ crcGood (bytes.drop 1) = false
      ∨ (∃ k < e.count, 2 < field bytes (5 + 3 * k) 1)) : goodReply e bytes = none := by
  unfold goodReply
  dsimp only
  refine if_neg ?_
  rintro ⟨hlen, hsync, hmodule, hcount, hcrc, hst⟩
  rw [toNat_getD_eq_field] at hmodule hcount
  rcases h with h | h | h | h | h | ⟨k, hk, h⟩
  · exact h hlen
  · exact h hsync
  · exact h hmodule
  · exact h hcount
  · rw [h] at hcrc
    exact Bool.false_ne_true hcrc
  · rw [readChannels_eq (n := e.count) (by rw [List.length_take, List.length_drop]; omega)] at hst
    have hle := of_decide_eq_true (List.all_eq_true.mp hst _ (List.mem_map.mpr ⟨k, List.mem_range.mpr hk, rfl⟩))
    dsimp only at hle
    rw [field_take (by omega), field_drop, show 3 + (3 * k + 2) = 5 + 3 * k by omega] at hle
    omega

/-! ### A reply that a module gives -/

/-- The bytes of a reply to a poll of `e` that the CRC covers: address, count, and value and status of each channel
(R185). -/
def ScanEntry.answered (e : ScanEntry) (readings : List (Word16 × Byte)) : List Byte :=
  [BitVec.ofNat 8 (e.module + 0x80), BitVec.ofNat 8 e.count] ++ readings.flatMap fun x => beBytes 2 x.1.toNat ++ [x.2]

/-- A reply to a poll of `e` (R185). -/
def ScanEntry.reply (e : ScanEntry) (readings : List (Word16 × Byte)) : List Byte :=
  0x69#8 :: e.answered readings ++ beBytes 2 (crc (e.answered readings)).toNat

/-- The values and statuses that the channels of a reply carry (R185). -/
def channelsOf (readings : List (Word16 × Byte)) : List (Nat × Nat) := readings.map fun x => (x.1.toNat, x.2.toNat)

theorem readings_length (readings : List (Word16 × Byte)) :
    (readings.flatMap fun x => beBytes 2 x.1.toNat ++ [x.2]).length = 3 * readings.length := by
  induction readings with
  | nil => rfl
  | cons x rest ih =>
    simp only [List.flatMap_cons, List.length_append, beBytes_length, List.length_cons, List.length_nil, ih]
    omega

theorem readChannels_readings (readings : List (Word16 × Byte)) :
    readChannels (readings.flatMap fun x => beBytes 2 x.1.toNat ++ [x.2]) = channelsOf readings := by
  induction readings with
  | nil => rfl
  | cons x rest ih =>
    have hvalue : beNat (beBytes 2 x.1.toNat) = x.1.toNat := by
      rw [beNat_beBytes]
      exact Nat.mod_eq_of_lt x.1.isLt
    have hfirst : ∀ more, readChannels (beBytes 2 x.1.toNat ++ [x.2] ++ more)
        = (beNat (beBytes 2 x.1.toNat), x.2.toNat) :: readChannels more := fun _ => rfl
    rw [List.flatMap_cons, hfirst, ih, hvalue]
    rfl

theorem findIdx?_channelsOf {readings : List (Word16 × Byte)} {k : Nat} (hk : k < readings.length)
    (hopen : (readings.getD k (0#16, 0#8)).2 = 1#8) (hfirst : ∀ j < k, (readings.getD j (0#16, 0#8)).2 ≠ 1#8) :
    (channelsOf readings).findIdx? (fun c => c.2 == 1) = some k := by
  unfold channelsOf
  rw [List.findIdx?_eq_some_iff_getElem]
  refine ⟨by rwa [List.length_map], ?_, fun j hj => ?_⟩
  · rw [List.getD_eq_getElem _ _ hk] at hopen
    simp [hopen]
  · have hne := hfirst j hj
    rw [List.getD_eq_getElem _ _ (by omega)] at hne
    simpa using fun h => hne (BitVec.eq_of_toNat_eq h)

theorem goodReply_reply {e : ScanEntry} {readings : List (Word16 × Byte)} (hlen : readings.length = e.count)
    (hc : e.count < 256) (hm : e.module < 128) (hst : ∀ x ∈ readings, x.2.toNat ≤ 2) :
    goodReply e (e.reply readings) = some (channelsOf readings) := by
  have hbody : (readings.flatMap fun x => beBytes 2 x.1.toNat ++ [x.2]).length = 3 * e.count := by
    rw [readings_length, hlen]
  have hchans : readChannels (((e.reply readings).drop 3).take (3 * e.count)) = channelsOf readings := by
    rw [← readChannels_readings, ← hbody]
    exact congrArg readChannels (List.take_left' rfl)
  have hwhole : (e.reply readings).length = 3 * e.count + 5 := by
    simp only [ScanEntry.reply, ScanEntry.answered, List.length_append, List.length_cons, hbody, beBytes_length,
      List.length_nil]
    omega
  have hcrc : crcGood ((e.reply readings).drop 1) = true := crcGood_withCrc (e.answered readings)
  have hstatus : (channelsOf readings).all (fun c => decide (c.2 ≤ 2)) = true := by
    simpa [channelsOf] using hst
  have hmodule : ((e.reply readings).getD 1 0#8).toNat = e.module + 0x80 := by
    show (BitVec.ofNat 8 (e.module + 0x80)).toNat = _
    rw [BitVec.toNat_ofNat]
    omega
  have hcount : ((e.reply readings).getD 2 0#8).toNat = e.count := by
    show (BitVec.ofNat 8 e.count).toNat = _
    rw [BitVec.toNat_ofNat]
    omega
  unfold goodReply
  dsimp only
  rw [hchans]
  exact if_pos ⟨hwhole, rfl, hmodule, hcount, hcrc, hstatus⟩

end Sys2Proof.Machine
end

section
/-! PROOFS. Stale readings, and a poll that brings none (O41; R41, R42, R62). -/

open Sys2Proof Sys2Proof.Machine

namespace Sys2Proof.Machine

theorem leaves_foldl {α : Type} {keep : EventKind → Nat → Bool} {f : State → α → State} {xs : List α} {s : State}
    (h : ∀ u, ∀ x ∈ xs, Leaves keep u (f u x)) : Leaves keep s (xs.foldl f s) := by
  induction xs generalizing s with
  | nil => exact .refl keep s
  | cons x xs ih =>
    exact (h s x List.mem_cons_self).trans (ih fun u y hy => h u y (List.mem_cons_of_mem _ hy))

/-! ### A lost signal (R62) -/

section
variable {s : State} {p : Nat}

theorem signalLost_of_out (h : (s.pot p).ae.state = .out) : s.signalLost p = s := by
  unfold State.signalLost
  dsimp only
  rw [h]

theorem signalLost_of_inAe (h : (s.pot p).ae.state.inAe = true) :
    s.signalLost p = s.closeAe p .signalLost .unmonitored := by
  unfold State.signalLost
  dsimp only
  cases hst : (s.pot p).ae.state with
  | active | recovering => rfl
  | out | unmonitored | normal | suspect | pending => rw [hst] at h; exact absurd h Bool.false_ne_true

/-- Outside an AE a lost signal leaves the monitor as it is, and a pending AE without its frozen filter (R62). -/
theorem signalLost_of_quiet (h : (s.pot p).ae.state.inAe = false) (hout : (s.pot p).ae.state ≠ .out)
    (hun : (s.pot p).ae.state ≠ .unmonitored) : s.signalLost p
      = s.setPotAe p { (s.pot p).ae with
          state := .unmonitored,
          frozen := if (s.pot p).ae.state = .pending then false else (s.pot p).ae.frozen } := by
  unfold State.signalLost
  dsimp only
  cases hst : (s.pot p).ae.state with
  | out => exact absurd hst hout
  | unmonitored => exact absurd hst hun
  | normal | suspect | pending => rfl
  | active | recovering => rw [hst] at h; exact absurd h.symm Bool.false_ne_true

theorem leaves_signalLost {keep : EventKind → Nat → Bool} (hh : keep .aeHold 0 = false) (he : keep .aeEnd p = false) :
    Leaves keep s (s.signalLost p) := by
  unfold State.signalLost
  dsimp only
  split
  · exact leaves_closeAe hh he
  · exact leaves_closeAe hh he
  · exact leaves_setPotAe (.refl keep s)
  · exact leaves_setPotAe (.refl keep s)
  · exact leaves_setPotAe (.refl keep s)
  · exact .refl keep s
  · exact .refl keep s

variable (hw : s.PotsWhole) (hp1 : 1 ≤ p) (hp : p ≤ 384)
include hw hp1 hp

theorem onlyPot_signalLost : OnlyPot p s (s.signalLost p) := by
  unfold State.signalLost
  dsimp only
  split
  · exact onlyPot_closeAe hw hp1 hp
  · exact onlyPot_closeAe hw hp1 hp
  · exact onlyPot_setPotAe hp1
  · exact onlyPot_setPotAe hp1
  · exact onlyPot_setPotAe hp1
  · exact .refl p s
  · exact .refl p s

/-- A monitored pot that loses its signal becomes UNMONITORED, its AE closed (R62). -/
theorem signalLost_pot_self (hout : (s.pot p).ae.state ≠ .out) (hun : (s.pot p).ae.state ≠ .unmonitored) :
    (s.signalLost p).pot p = { s.pot p with ae := { (s.pot p).ae with
        state := .unmonitored,
        frozen := if (s.pot p).ae.state.inAe = true ∨ (s.pot p).ae.state = .pending then false
                  else (s.pot p).ae.frozen } } := by
  cases hin : (s.pot p).ae.state.inAe with
  | true => rw [signalLost_of_inAe hin, closeAe_pot_self hw hp1 hp, if_pos (.inl rfl)]
  | false =>
    rw [signalLost_of_quiet hin hout hun, hw.setPotAe_self hp1 hp]
    simp only [Bool.false_eq_true, false_or]

theorem signalLost_closes (hin : (s.pot p).ae.state.inAe = true) :
    (s.signalLost p).ae.flag p = false ∧ ∃ fields, (s.signalLost p).Tells .aeEnd p fields := by
  rw [signalLost_of_inAe hin]
  obtain ⟨_, _, hflag, htells⟩ := closeAe_closes (c := .signalLost) (nx := .unmonitored) hw hp1 hp
  exact ⟨hflag, _, htells⟩

end

/-! ### A stale reading (R42) -/

/-- A pot record whose reading has been stale once more (R42). -/
def Pot.staled (x : Pot) : Pot := { x with stale := satInc 255 x.stale, staleNow := true }

/-- A stale reading takes the pot's signal for lost: it is CONNECTED and monitored, and has been stale three times or
more (R42, R62). -/
abbrev Pot.Lost (x : Pot) : Prop :=
  3 ≤ satInc 255 x.stale ∧ x.cutOut = false ∧ x.ae.state ≠ .unmonitored ∧ x.ae.state ≠ .out

section
variable {s : State} {p : Nat} (hw : s.PotsWhole) (hp1 : 1 ≤ p) (hp : p ≤ 384)
include hw hp1 hp

omit hw hp1 hp in
theorem staleReading_of_lost (h : (s.pot p).Lost) :
    s.staleReading p = (s.setPot p (s.pot p).staled).signalLost p := by
  obtain ⟨hn, hc, hun, _⟩ := h
  unfold State.staleReading State.when
  dsimp only
  rw [if_pos (by simp [hn, hc, hun])]
  rfl

theorem staleReading_of_kept (h : ¬ (s.pot p).Lost) : s.staleReading p = s.setPot p (s.pot p).staled := by
  unfold State.staleReading State.when
  dsimp only
  split
  · rename_i hg
    simp only [Bool.and_eq_true, decide_eq_true_eq, Bool.not_eq_true', bne_iff_ne] at hg
    obtain ⟨⟨hn, hc⟩, hun⟩ := hg
    have hout : (s.pot p).ae.state = .out := by
      by_contra hout
      exact h ⟨hn, hc, hun, hout⟩
    exact signalLost_of_out (by rw [hw.setPot_self hp1 hp]; exact hout)
  · rfl

theorem onlyPot_staleReading : OnlyPot p s (s.staleReading p) := by
  have hset : OnlyPot p s (s.setPot p (s.pot p).staled) := onlyPot_setPot hp1
  by_cases h : (s.pot p).Lost
  · rw [staleReading_of_lost h]
    exact hset.trans (onlyPot_signalLost (hset.whole hw) hp1 hp)
  · rw [staleReading_of_kept hw hp1 hp h]
    exact hset

theorem staleReading_pot_kept (h : ¬ (s.pot p).Lost) : (s.staleReading p).pot p = (s.pot p).staled := by
  rw [staleReading_of_kept hw hp1 hp h, hw.setPot_self hp1 hp]

theorem staleReading_pot_lost (h : (s.pot p).Lost) : (s.staleReading p).pot p
    = { (s.pot p).staled with ae := { (s.pot p).ae with
          state := .unmonitored,
          frozen := if (s.pot p).ae.state.inAe = true ∨ (s.pot p).ae.state = .pending then false
                    else (s.pot p).ae.frozen } } := by
  have hset : OnlyPot p s (s.setPot p (s.pot p).staled) := onlyPot_setPot hp1
  have hself : (s.setPot p (s.pot p).staled).pot p = (s.pot p).staled := hw.setPot_self hp1 hp
  rw [staleReading_of_lost h]
  obtain ⟨_, _, hun, hout⟩ := h
  rw [signalLost_pot_self (hset.whole hw) hp1 hp (by rw [hself]; exact hout) (by rw [hself]; exact hun), hself]
  rfl

theorem staleReading_closes (h : (s.pot p).Lost) (hin : (s.pot p).ae.state.inAe = true) :
    (s.staleReading p).ae.flag p = false ∧ ∃ fields, (s.staleReading p).Tells .aeEnd p fields := by
  rw [staleReading_of_lost h]
  exact signalLost_closes (OnlyPot.whole (p := p) (onlyPot_setPot hp1) hw) hp1 hp
    (by rw [hw.setPot_self hp1 hp]; exact hin)

end

theorem leaves_staleReading {keep : EventKind → Nat → Bool} {s : State} {p : Nat} (hh : keep .aeHold 0 = false)
    (he : keep .aeEnd p = false) : Leaves keep s (s.staleReading p) := by
  unfold State.staleReading State.when
  dsimp only
  split
  · exact (Leaves.of_events (s := s) (t := s.setPot p (s.pot p).staled) rfl).trans (leaves_signalLost hh he)
  · exact .of_events rfl

/-! ### A poll without readings (R41) -/

/-- The numbers of the pots of an entry, in channel order (R33). -/
def ScanEntry.numbers (e : ScanEntry) : List Nat := List.range' e.firstPot e.count

theorem ScanEntry.pots_fst (e : ScanEntry) : e.pots.map (·.1) = e.numbers := by
  unfold ScanEntry.pots ScanEntry.numbers
  rw [List.map_map, List.range'_eq_map_range]
  exact List.map_congr_left fun k _ => rfl

/-- The pots of an entry made stale, one after another (R42). -/
def State.staleAll (s : State) (e : ScanEntry) : State := e.numbers.foldl State.staleReading s

theorem staleEntry_eq (s : State) (p : Pass) (fault : ScanFault) (lowest : Nat) :
    s.staleEntry p fault lowest
      = ((s.staleAll (s.scan.entry (s.scan.polled p))).post .scanFault (s.scan.polled p)
          [beBytes 1 fault.code, beBytes 1 lowest]).nextPoll p := by
  unfold State.staleEntry State.staleAll
  rw [← ScanEntry.pots_fst, List.foldl_map]

theorem touches_staleAll {s : State} {e : ScanEntry} : Touches [.pots, .ae, .events] s (s.staleAll e) :=
  (touches_foldl fun u _ => (touches_staleReading (by decide)).mpr (Touches.refl _ u)).mpr (Touches.refl _ s)

/-- The outcome of a poll without readings, before the next poll, changes no more than what the pots made stale do. -/
theorem touches_staleEntry_staleAll {s : State} {p : Pass} {fault : ScanFault} {lowest : Nat} :
    Touches [.events, .scan, .host] (s.staleAll (s.scan.entry (s.scan.polled p))) (s.staleEntry p fault lowest) := by
  rw [staleEntry_eq]
  exact (touches_nextPoll (by decide)).mpr ((touches_post (by decide)).mpr (Touches.refl _ _))

theorem staleEntry_tells (s : State) (p : Pass) (fault : ScanFault) (lowest : Nat) :
    (s.staleEntry p fault lowest).Tells .scanFault (s.scan.polled p) [beBytes 1 fault.code, beBytes 1 lowest] := by
  rw [staleEntry_eq]
  exact (tells_congr (Touches.events (l := [.scan, .host]) ((touches_nextPoll (by decide)).mpr (Touches.refl _ _))
    (by decide))).mpr tells_post_self

theorem leaves_staleEntry {keep : EventKind → Nat → Bool} {s : State} {p : Pass} {fault : ScanFault} {lowest : Nat}
    (hk : keep .scanFault (s.scan.polled p) = false) :
    Leaves keep (s.staleAll (s.scan.entry (s.scan.polled p))) (s.staleEntry p fault lowest) := by
  rw [staleEntry_eq]
  exact (leaves_self_post hk).trans (.of_touches (l := [.scan, .host])
    ((touches_nextPoll (by decide)).mpr (Touches.refl _ _)) (by decide))

/-! ### The outcomes of a poll (R41) -/

section
variable {s : State} {p : Pass} (hp : s.scan.pass = some p)
include hp

theorem pollExpiry_of_pass : s.pollExpiry = s.staleEntry p .noReply 0 := by
  unfold State.pollExpiry
  rw [hp]

variable {bytes : List Byte} {chans : List (Nat × Nat)}

theorem moduleReply_of_bad (hg : goodReply (s.scan.entry (s.scan.polled p)) bytes = none) :
    s.moduleReply bytes = s.staleEntry p .badCrc 0 := by
  unfold State.moduleReply
  rw [hp]
  dsimp only
  rw [hg]

theorem moduleReply_of_open {k : Nat} (hg : goodReply (s.scan.entry (s.scan.polled p)) bytes = some chans)
    (hk : chans.findIdx? (fun c => c.2 == 1) = some k) :
    s.moduleReply bytes = s.staleEntry p .openWire ((s.scan.entry (s.scan.polled p)).firstChan + k) := by
  unfold State.moduleReply
  rw [hp]
  dsimp only
  rw [hg]
  dsimp only
  rw [hk]

theorem moduleReply_of_fresh (hg : goodReply (s.scan.entry (s.scan.polled p)) bytes = some chans)
    (hk : chans.findIdx? (fun c => c.2 == 1) = none) : s.moduleReply bytes = s.freshEntry p chans := by
  unfold State.moduleReply
  rw [hp]
  dsimp only
  rw [hg]
  dsimp only
  rw [hk]

end

/-! ### The pots of the entry (R42) -/

section
variable {s : State} {e : ScanEntry} (hw : s.PotsWhole) (h1 : 1 ≤ e.firstPot) (h2 : e.firstPot + e.count ≤ 385) {q : Nat}
  (hq : 1 ≤ q)
include hw h1 h2 hq

theorem staleAll_other (hn : ¬ (e.firstPot ≤ q ∧ q < e.firstPot + e.count)) : (s.staleAll e).pot q = s.pot q := by
  have hf : ∀ u p, p ∈ e.numbers → State.PotsWhole u → OnlyPot p u (u.staleReading p) := fun u p hp hu => by
    obtain ⟨hp1, hp2⟩ := List.mem_range'_1.mp hp
    exact onlyPot_staleReading hu (by omega) (by omega)
  obtain ⟨_, hothers⟩ := foldl_others hf hw
  exact (hothers q hq (mt List.mem_range'_1.mp hn)).1

/-- A pot of the entry is made stale once, and what is told of the end of its AE stays told. -/
theorem staleAll_at (hin : e.firstPot ≤ q ∧ q < e.firstPot + e.count) : ∃ u : State, u.PotsWhole ∧ u.pot q = s.pot q
    ∧ (s.staleAll e).pot q = (u.staleReading q).pot q ∧ (s.staleAll e).ae.flag q = (u.staleReading q).ae.flag q
    ∧ Leaves (ofSubject .aeEnd q) (u.staleReading q) (s.staleAll e) := by
  have hf : ∀ u p, p ∈ e.numbers → State.PotsWhole u → OnlyPot p u (u.staleReading p) := fun u p hp hu => by
    obtain ⟨hp1, hp2⟩ := List.mem_range'_1.mp hp
    exact onlyPot_staleReading hu (by omega) (by omega)
  obtain ⟨before, after, hsplit, hafter, hwb, hb, hpot, hflag⟩ :=
    foldl_at hf hw List.nodup_range' hq (List.mem_range'_1.mpr hin)
  refine ⟨before.foldl State.staleReading s, hwb, hb, hpot, hflag, ?_⟩
  unfold State.staleAll
  rw [hsplit, List.foldl_append, List.foldl_cons]
  refine leaves_foldl fun u p hp => leaves_staleReading rfl ?_
  have hne : p ≠ q := ne_of_mem_of_not_mem hp hafter
  simp [ofSubject, hne]

end

end Sys2Proof.Machine

/-- Settles O41: each pot of the entry is made stale once, by a reading that finds it as it stood. -/
theorem pollWithoutReadingsMakesItsPotsStale : Obligations.PollWithoutReadingsMakesItsPotsStale := by
  unfold Obligations.PollWithoutReadingsMakesItsPotsStale
  intro s p hpass hmap i e h1 h2 hcount hmodule stale
  obtain ⟨hm, hl, _⟩ := hmap
  have hw : s.PotsWhole := ⟨hl, hm⟩
  have hstale : ∀ fault lowest, stale (s.staleEntry p fault lowest) (BitVec.ofNat 8 fault.code) lowest := by
    intro fault lowest
    refine ⟨staleEntry_tells s p fault lowest, fun q hq1 hq => ?_⟩
    have hpot := pot_congr (Touches.pots (touches_staleEntry_staleAll (s := s) (p := p) (fault := fault) (lowest := lowest))
      (by decide)) q
    dsimp only
    rw [hpot]
    refine ⟨fun hn => staleAll_other hw h1 h2 hq1 hn, fun hlo hhi => ?_⟩
    obtain ⟨u, hwu, hu, hself, hflag, hleaves⟩ := staleAll_at hw h1 h2 hq1 ⟨hlo, hhi⟩
    have hself : (s.staleAll (s.scan.entry (s.scan.polled p))).pot q = _ := hself
    rw [hself]
    by_cases hlost : (s.pot q).Lost
    · have hy := staleReading_pot_lost hwu hq1 hq (by rw [hu]; exact hlost)
      rw [hu] at hy
      rw [hy]
      refine ⟨rfl, fun h => absurd hlost h, fun _ => ⟨rfl, rfl, fun h => if_pos h, fun hin => ?_⟩⟩
      obtain ⟨hoff, fields, htells⟩ := staleReading_closes hwu hq1 hq (by rw [hu]; exact hlost) (by rw [hu]; exact hin)
      refine ⟨?_, ?_⟩
      · rw [flag_congr (congrArg AeMonitor.map (touches_staleEntry_staleAll.ae (by decide)))]
        exact hflag.trans hoff
      · have hend : (s.staleEntry p fault lowest).Tells .aeEnd q fields :=
          (hleaves.trans (leaves_staleEntry rfl)).tells (by simp [ofSubject]) htells
        exact hend.imp id fun ⟨ev, hev, hkind, hsub, _⟩ => ⟨ev, hev, hkind, hsub⟩
    · have hy := staleReading_pot_kept hwu hq1 hq (by rw [hu]; exact hlost)
      rw [hu] at hy
      rw [hy]
      exact ⟨rfl, fun _ => rfl, fun h => absurd h hlost⟩
  refine ⟨⟨s.staleEntry p .noReply 0, ?_, hstale .noReply 0⟩, fun bytes hbad => ?_, fun readings k hlen hk hst hopen hfirst => ?_⟩
  · exact congrArg Host.Outcome.next (pollExpiry_of_pass hpass)
  · exact ⟨s.staleEntry p .badCrc 0, congrArg Host.Outcome.next (moduleReply_of_bad hpass (goodReply_eq_none hbad)),
      hstale .badCrc 0⟩
  · exact ⟨s.staleEntry p .openWire (e.firstChan + k), congrArg Host.Outcome.next
      (moduleReply_of_open hpass (goodReply_reply hlen hcount hmodule hst) (findIdx?_channelsOf (by omega) hopen hfirst)),
      hstale .openWire (e.firstChan + k)⟩
end

section
/-! PROOFS. Scan reports (R45 to R48): the pot entries of a pass and the segments they are cut into. -/

open Sys2Proof Sys2Proof.Machine

namespace Sys2Proof.Machine

/-! ### Lists cut into runs -/

section
variable {α : Type} {size : Nat}

theorem chunks_flatten (fuel : Nat) {xs : List α} (h : xs.length ≤ size * fuel) : (chunks size fuel xs).flatten = xs := by
  induction fuel generalizing xs with
  | zero =>
    obtain rfl : xs = [] := List.length_eq_zero_iff.mp (by simpa using h)
    rfl
  | succ fuel ih =>
    unfold chunks
    split
    · rename_i he
      rw [List.isEmpty_iff.mp he]
      rfl
    · rw [List.flatten_cons, ih (by rw [List.length_drop, Nat.mul_succ] at *; omega), List.take_append_drop]

theorem chunks_length (hsize : 0 < size) (fuel : Nat) {xs : List α} (h : xs.length ≤ size * fuel) :
    (chunks size fuel xs).length = (xs.length + (size - 1)) / size := by
  induction fuel generalizing xs with
  | zero =>
    obtain rfl : xs = [] := List.length_eq_zero_iff.mp (by simpa using h)
    rw [List.length_nil, Nat.zero_add, Nat.div_eq_of_lt (by omega)]
    rfl
  | succ fuel ih =>
    unfold chunks
    split
    · rename_i he
      rw [List.isEmpty_iff.mp he, List.length_nil, List.length_nil, Nat.zero_add, Nat.div_eq_of_lt (by omega)]
    · rename_i he
      have hpos : 0 < xs.length := List.length_pos_iff.mpr (by simpa using he)
      rw [List.length_cons, ih (by rw [List.length_drop, Nat.mul_succ] at *; omega), List.length_drop,
        ← Nat.add_div_right _ hsize]
      rcases Nat.le_total xs.length size with hle | hle
      · rw [Nat.sub_eq_zero_of_le hle, show xs.length + (size - 1) = (xs.length - 1) + size by omega,
          Nat.add_div_right _ hsize, Nat.add_div_right _ hsize, Nat.div_eq_of_lt (by omega), Nat.div_eq_of_lt (by omega)]
      · congr 1
        omega

theorem length_le_of_mem_chunks {fuel : Nat} {xs part : List α} (h : part ∈ chunks size fuel xs) : part.length ≤ size := by
  induction fuel generalizing xs with
  | zero => exact absurd h List.not_mem_nil
  | succ fuel ih =>
    unfold chunks at h
    split at h
    · exact absurd h List.not_mem_nil
    · rcases List.mem_cons.mp h with rfl | h
      · exact List.length_take_le _ _
      · exact ih h

end

/-! ### The pots of a pass in polling order (R38, R45) -/

/-- The pots of an entry in channel order, each with its place in the entry (R33). -/
def ScanEntry.places (e : ScanEntry) : List (Nat × Nat) := (List.range e.count).map fun k => (e.firstPot + k, k)

theorem ScanEntry.pots_eq (e : ScanEntry) : e.pots = e.places.map fun x => (x.1, x.2 == 0) := by
  unfold ScanEntry.pots ScanEntry.places
  rw [List.map_map]
  rfl

/-- The entries of a pass are taken cyclically from the first (R38). -/
theorem Scan.order_eq {c : Scan} {start : Nat} (h : start < c.table.length) :
    c.order start = (List.range c.table.length).map fun i => c.entry ((start + i) % c.table.length) := by
  unfold Scan.order
  rw [← List.rotate_eq_drop_append_take (by omega)]
  refine List.ext_getElem (by simp) fun i h1 h2 => ?_
  rw [List.length_rotate] at h1
  rw [List.getElem_rotate, List.getElem_map, List.getElem_range]
  unfold Scan.entry
  rw [List.getD_eq_getElem _ _ (Nat.mod_lt _ (by omega))]
  congr 2
  omega

/-- The pots of a pass in polling order, each with whether it is the first of its entry (R38, R45). -/
def Scan.polledPots (c : Scan) (start : Nat) : List (Nat × Bool) := (c.order start).flatMap ScanEntry.pots

theorem Scan.polledPots_length (c : Scan) (start : Nat) :
    (c.polledPots start).length = (c.table.map (·.count)).sum := by
  have hpots : ∀ e : ScanEntry, e.pots.length = e.count := fun e => by simp [ScanEntry.pots]
  unfold Scan.polledPots Scan.order
  rw [List.length_flatMap, List.map_append, List.sum_append, Nat.add_comm, ← List.sum_append, ← List.map_append,
    List.take_append_drop]
  simp only [hpots]

theorem Scan.polledPots_eq {c : Scan} {start : Nat} (h : start < c.table.length) : c.polledPots start
    = ((List.range c.table.length).flatMap fun i => (c.entry ((start + i) % c.table.length)).places).map
        fun x => (x.1, x.2 == 0) := by
  unfold Scan.polledPots
  rw [Scan.order_eq h, List.flatMap_map, List.map_flatMap]
  exact congrArg (List.flatMap · _) (funext fun i => ScanEntry.pots_eq _)

/-! ### One pot entry (R46 to R48) -/

/-- The ones among the lowest bits, as the bits that are set (R48). -/
theorem onesBelow_eq_filter (n v : Nat) : onesBelow n v = ((List.range n).filter fun k => v.testBit k).length := by
  rw [onesBelow_eq]
  induction n with
  | zero => rfl
  | succ n ih =>
    rw [Finset.sum_range_succ, ih, List.range_succ, List.filter_append, List.length_append]
    congr 1
    cases h : v.testBit n <;> simp [h]

theorem sum_toNat_eq_filter {α : Type} (f : α → Bool) (xs : List α) :
    ((xs.map f).map Bool.toNat).sum = (xs.filter f).length := by
  induction xs with
  | nil => rfl
  | cons x xs ih =>
    rw [List.map_cons, List.map_cons, List.sum_cons, ih]
    cases h : f x <;> simp [h, Nat.add_comm]

theorem packTags_getLsbD (codes : List Nat) (bits : List Bool) (parity : Bool) (k : Fin 4) :
    (packTags codes bits parity).getLsbD k.val
      = if codes.getD k.val 0 = 9 then parity else bits.getD k.val false := by
  have pack : ∀ b : Fin 4 → Bool, ∀ k : Fin 4, (BitVec.ofNat 4 ((b 0).toNat + 2 * (b 1).toNat + 4 * (b 2).toNat
      + 8 * (b 3).toNat)).getLsbD k.val = b k := by decide
  exact pack (fun k => if codes.getD k.val 0 = 9 then parity else bits.getD k.val false) k

/-- The tag sources in the order of their codes (R47); code 9 is PARITY, which R48 fills. -/
def State.tagSources (s : State) (p : Nat) (first entryFirst : Bool) : List Bool :=
  [false, first, entryFirst, s.ae.flag p, (s.pot p).ae.state == .pending || (s.pot p).ae.state == .suspect,
   (s.pot p).cutOut, (s.pot p).staleNow, (s.pot p).status == .overrange && !(s.pot p).staleNow,
   (s.pot p).ae.state.inAe && (s.pot p).ae.quench, false, (s.pot p).ae.state == .recovering, (s.pot p).ae.frozen]

theorem tagBit_eq (s : State) (code p : Nat) (first entryFirst : Bool) :
    s.tagBit code p first entryFirst = (s.tagSources p first entryFirst).getD code false :=
  match code with
  | 0 | 1 | 2 | 3 | 4 | 5 | 6 | 7 | 8 | 9 | 10 | 11 => rfl
  | _ + 12 => rfl

/-- The tag bit of a slot before PARITY is filled (R47). -/
def State.slotBit (s : State) (p : Nat) (first entryFirst : Bool) (slot : Fin 4) : Bool :=
  (s.tagSources p first entryFirst).getD (s.cfgN (.telSlot slot)) false

/-- The ones among the data bits and the tag bits of a pot entry (R48). -/
def State.onesOf (s : State) (p : Nat) (upPot : Word16) (first entryFirst : Bool) : Nat :=
  ((List.range 16).filter fun k => (s.dataBits p upPot).getLsbD k).length
    + ((List.finRange 4).filter (s.slotBit p first entryFirst)).length

theorem potEntry_tags (s : State) (p : Nat) (upPot : Word16) (first entryFirst : Bool) (slot : Fin 4) :
    (s.potEntry p upPot first entryFirst).tags.getLsbD slot.val
      = if s.cfgN (.telSlot slot) = 9 then decide (s.onesOf p upPot first entryFirst % 2 = 1)
        else s.slotBit p first entryFirst slot := by
  have hbits : (s.tagCodes.map fun c => s.tagBit c p first entryFirst)
      = (List.finRange 4).map (s.slotBit p first entryFirst) := by
    simp only [tagBit_eq]
    rfl
  have hcode : s.tagCodes.getD slot.val 0 = s.cfgN (.telSlot slot) := by
    fin_cases slot <;> rfl
  have hslot : ((List.finRange 4).map (s.slotBit p first entryFirst)).getD slot.val false
      = s.slotBit p first entryFirst slot := by
    fin_cases slot <;> rfl
  have hones : onesBelow 16 (s.dataBits p upPot).toNat
      + (((List.finRange 4).map (s.slotBit p first entryFirst)).map Bool.toNat).sum = s.onesOf p upPot first entryFirst := by
    rw [onesBelow_eq_filter, sum_toNat_eq_filter]
    rfl
  unfold State.potEntry
  dsimp only
  rw [hbits, packTags_getLsbD, hcode, hslot, hones]
  rfl

/-! ### The pot entries of a pass -/

section
variable (s : State)

theorem potEntries_length (n : Word16) (first : Bool) (xs : List (Nat × Bool)) :
    (s.potEntries n first xs).1.length = xs.length := by
  induction xs generalizing n first with
  | nil => rfl
  | cons x xs ih => exact congrArg (· + 1) (ih (n + 1#16) false)

theorem potEntries_upPot (n : Word16) (first : Bool) (xs : List (Nat × Bool)) :
    (s.potEntries n first xs).2 = n + BitVec.ofNat 16 xs.length := by
  induction xs generalizing n first with
  | nil => exact (BitVec.add_zero n).symm
  | cons x xs ih =>
    refine (ih (n + 1#16) false).trans ?_
    rw [List.length_cons, BitVec.add_assoc, Nat.add_comm, BitVec.ofNat_add]

/-- The entry of the `j`th pot has the UP_POT counter counted up to it (R45, R46). -/
theorem potEntries_getElem? (n : Word16) (first : Bool) (xs : List (Nat × Bool)) (j : Nat) :
    (s.potEntries n first xs).1[j]?
      = xs[j]?.map fun x => s.potEntry x.1 (n + BitVec.ofNat 16 (j + 1)) (first && j == 0) x.2 := by
  induction xs generalizing n first j with
  | nil => rfl
  | cons x xs ih =>
    cases j with
    | zero => simp [State.potEntries]
    | succ j =>
      have hrest := ih (n + 1#16) false j
      have hcount : n + 1#16 + BitVec.ofNat 16 (j + 1) = n + BitVec.ofNat 16 (j + 1 + 1) := by
        apply BitVec.eq_of_toNat_eq
        simp only [BitVec.toNat_add, BitVec.toNat_ofNat]
        omega
      rw [hcount] at hrest
      simpa [State.potEntries] using hrest

end

/-! ### The segments of a report (R45) -/

/-- The segments of the report of pass `p`, whose pot entries have been cut into `parts` (R45). -/
def Scan.report (c : Scan) (p : Pass) (parts : List (List PotEntry)) : List Segment :=
  parts.zipIdx.map fun x =>
    { passNumber := c.passNumber, index := x.2, count := parts.length, firstEntry := p.start,
      skips := c.reportSkips, startTime := p.startTime, entries := x.1 }

section
variable {c : Scan} {p : Pass} {parts : List (List PotEntry)}

theorem report_length : (c.report p parts).length = parts.length := by simp [Scan.report]

theorem report_entries : (c.report p parts).map (·.entries) = parts := by
  unfold Scan.report
  rw [List.map_map]
  exact List.zipIdx_map_fst 0 parts

theorem report_flatMap : (c.report p parts).flatMap (·.entries) = parts.flatten := by
  rw [List.flatMap_def, report_entries]

theorem report_sum : ((c.report p parts).map (·.entries.length)).sum = parts.flatten.length := by
  rw [← report_flatMap (c := c) (p := p), List.length_flatMap]

theorem report_at {k : Nat} {x : Segment} (h : (c.report p parts)[k]? = some x) : ∃ part ∈ parts,
    x = { passNumber := c.passNumber, index := k, count := parts.length, firstEntry := p.start,
          skips := c.reportSkips, startTime := p.startTime, entries := part } := by
  unfold Scan.report at h
  rw [List.getElem?_map, List.getElem?_zipIdx, Option.map_map] at h
  obtain ⟨part, hpart, rfl⟩ := Option.map_eq_some_iff.mp h
  exact ⟨part, List.mem_of_getElem? hpart, by simp⟩

end

/-- The pot entries of the report of a pass that started at entry `start` (R45). -/
def State.passEntries (s : State) (start : Nat) : List PotEntry :=
  (s.potEntries 0xFFFF#16 true (s.scan.polledPots start)).1

theorem buildReports_of_kept {s : State} (h : s.scan.segments ≠ []) (p : Pass) :
    s.buildReports p = s.setScan { s.scan with reportSkips := bump s.scan.reportSkips } := by
  unfold State.buildReports
  dsimp only
  rw [if_pos (by simpa using h)]

theorem buildReports_of_empty {s : State} (h : s.scan.segments = []) (p : Pass) : s.buildReports p
    = s.setScan { s.scan with
        segments := s.scan.report p (chunks 128 3 (s.passEntries p.start)), reportSkips := 0,
        upPot := (s.potEntries 0xFFFF#16 true (s.scan.polledPots p.start)).2 } := by
  unfold State.buildReports
  dsimp only
  rw [if_neg (by rw [h]; decide)]
  rfl

theorem passEntries_getElem? {s : State} {start j : Nat} {x : Nat × Nat} (h : start < s.scan.table.length)
    (hx : ((List.range s.scan.table.length).flatMap fun i =>
      (s.scan.entry ((start + i) % s.scan.table.length)).places)[j]? = some x) :
    (s.passEntries start)[j]? = some (s.potEntry x.1 (BitVec.ofNat 16 j) (j == 0) (x.2 == 0)) := by
  have hcount : 0xFFFF#16 + BitVec.ofNat 16 (j + 1) = BitVec.ofNat 16 j := by
    apply BitVec.eq_of_toNat_eq
    simp only [BitVec.toNat_add, BitVec.toNat_ofNat]
    omega
  unfold State.passEntries
  rw [potEntries_getElem?, Scan.polledPots_eq h, List.getElem?_map, hx, hcount]
  rfl

theorem passEntries_length (s : State) (start : Nat) :
    (s.passEntries start).length = (s.scan.table.map (·.count)).sum := by
  unfold State.passEntries
  rw [potEntries_length, Scan.polledPots_length]

end Sys2Proof.Machine
end

section
/-! PROOFS. Scan passes (O40; R37 to R41, R45, R185): the period timer, the polls in turn, and the end of a pass. -/

open Sys2Proof Sys2Proof.Machine

namespace Sys2Proof.Machine

/-! ### The scan period timer and the start of a pass (R37, R38) -/

/-- One advance of the rotation register shifts it, with the exclusive or of its two highest bits below (R38). -/
theorem rotate_bits (r : BitVec 15) : (rotate r).getLsbD 0 = (r.getLsbD 14 ^^ r.getLsbD 13)
    ∧ ∀ k < 14, (rotate r).getLsbD (k + 1) = r.getLsbD k := by
  unfold rotate
  refine ⟨by simp, fun k hk => ?_⟩
  rw [BitVec.getLsbD_or, BitVec.getLsbD_shiftLeft, BitVec.getLsbD_setWidth, BitVec.getLsbD_ofBool]
  simp
  omega

/-- The place at which a pass starts (R38). -/
def State.passStart (s : State) : Nat :=
  if s.cfg .scanRotate = 1 then s.scan.rotation.toNat % s.scan.table.length else 0

/-- The rotation register once a pass has started (R38). -/
def State.passRotation (s : State) : BitVec 15 :=
  if s.cfg .scanRotate = 1 then rotate s.scan.rotation else s.scan.rotation

theorem startPass_eq (s : State) : s.startPass
    = s.setScan { s.scan with
        pass := some ⟨s.passStart, 0, s.energy.time⟩, passNumber := (s.scan.passNumber + 1) % 2 ^ 32,
        upPass := s.scan.upPass + 1#16, rotation := s.passRotation,
        lastPoll := pollFrame (s.scan.entry (s.passStart % s.scan.table.length)) } := by
  unfold State.startPass State.passStart State.passRotation
  simp only [beq_iff_eq]
  rfl

section
variable {s : State}

theorem scanExpiry_of_running {p : Pass} (h : s.scan.pass = some p) :
    s.scanExpiry = s.setScan { s.scan with periodSkips := bump s.scan.periodSkips } := by
  unfold State.scanExpiry
  rw [h]

theorem scanExpiry_of_empty (h : s.scan.pass = none) (ht : s.scan.table = []) : s.scanExpiry = s := by
  unfold State.scanExpiry
  rw [h]
  exact if_pos (by rw [ht]; rfl)

theorem scanExpiry_of_idle (h : s.scan.pass = none) (ht : s.scan.table ≠ []) : s.scanExpiry = s.startPass := by
  unfold State.scanExpiry
  rw [h]
  exact if_neg (by simpa using ht)

/-- An expiry of the scan period timer changes the scan block alone. -/
theorem scanExpiry_eq_setScan (s : State) : s.scanExpiry = s.setScan s.scanExpiry.scan := by
  cases h : s.scan.pass with
  | some p =>
    rw [scanExpiry_of_running h]
    rfl
  | none =>
    by_cases ht : s.scan.table = []
    · rw [scanExpiry_of_empty h ht]
      rfl
    · rw [scanExpiry_of_idle h ht, startPass_eq]
      rfl

theorem scanSample_counting (h : 2 ≤ s.scan.periodLeft) (apart : Bool) :
    s.scanSample apart = s.setScan { s.scan with periodLeft := s.scan.periodLeft - 1 } := if_neg (by omega)

theorem scanSample_ending (h : s.scan.periodLeft ≤ 1) (apart : Bool) : s.scanSample apart
    = (s.setScan { s.scan with periodLeft := s.cfgN .scanPeriod }).when (!apart) State.scanExpiry := if_pos h

end

/-! ### The scan block at a boundary -/

/-- A boundary up to the scan period timer: all that comes before it leaves the scan block alone (R28, log 2). -/
def State.boundaryTimed (s : State) (b : Boundary) : State := (s.boundaryRead b).aeSample b.apart

theorem touches_boundaryTimed {s : State} {b : Boundary} :
    Touches [.ticks, .pins, .energy, .front, .events, .sup, .stack, .host, .link, .reg, .pots] s (s.boundaryTimed b) := by
  have hae : Touches [.pots, .events] (s.boundaryRead b) (s.boundaryTimed b) :=
    (touches_aeSample (by decide)).mpr (Touches.refl _ _)
  exact ((touches_lineSample (by decide)).mpr (Touches.refl _ s)).trans ((touches_boundarySampled.mono (by decide)).trans
    ((touches_boundaryRead.mono (by decide)).trans (hae.mono (by decide))))

theorem boundary_scan (s : State) (b : Boundary) :
    (s.boundary b).scan = ((s.boundaryTimed b).scanSample b.apart).scan := by
  rw [boundary_eq]
  exact Touches.scan (l := [.cool, .energy, .events, .reg, .link]) ((touches_evalLoops (by decide)).mpr (Touches.refl _ _))
    (by decide)

theorem boundaryTimed_time (s : State) (b : Boundary) : (s.boundaryTimed b).energy.time = (s.boundary b).energy.time := by
  have hscan : Touches [.scan] (s.boundaryTimed b) ((s.boundaryTimed b).scanSample b.apart) :=
    (touches_scanSample (by decide)).mpr (Touches.refl _ _)
  rw [boundary_eq, evalLoops_time]
  exact (congrArg Energy.time (hscan.energy (by decide))).symm

/-! ### The outcome of a poll taken (R38, R39, R45) -/

section
variable {s : State} {p : Pass}

theorem nextPoll_of_more (h : p.done + 1 < s.scan.table.length) : s.nextPoll p
    = s.setScan { s.scan with
        pass := some { p with done := p.done + 1 },
        lastPoll := pollFrame (s.scan.entry ((p.start + (p.done + 1)) % s.scan.table.length)) } := if_pos h

/-- The state at the end of a pass, before its report (R39). -/
def State.passEnded (s : State) : State := s.setScan { s.scan with pass := none }

theorem nextPoll_of_unreported (h : s.scan.table.length ≤ p.done + 1) (ht : s.cfg .telEnable ≠ 1) :
    s.nextPoll p = s.passEnded := (if_neg (by dsimp only; omega)).trans (if_neg ht)

theorem nextPoll_of_reported (h : s.scan.table.length ≤ p.done + 1) (ht : s.cfg .telEnable = 1) :
    s.nextPoll p = (s.passEnded.buildReports p).kick := (if_neg (by dsimp only; omega)).trans (if_pos ht)

theorem kick_scan (s : State) : s.kick.scan = s.scan :=
  Touches.scan (l := [.host]) ((touches_kick (by decide)).mpr (Touches.refl _ s)) (by decide)

/-- The end of a pass leaves no pass running, whatever is reported (R39). -/
theorem nextPoll_of_last (h : s.scan.table.length ≤ p.done + 1) : (s.nextPoll p).scan.pass = none := by
  by_cases ht : s.cfg .telEnable = 1
  · rw [nextPoll_of_reported h ht, kick_scan]
    by_cases hseg : s.scan.segments = []
    · rw [buildReports_of_empty (s := s.passEnded) hseg]
      rfl
    · rw [buildReports_of_kept (s := s.passEnded) hseg]
      rfl
  · rw [nextPoll_of_unreported h ht]
    rfl

theorem touches_nextPoll_self : Touches [.scan, .host] s (s.nextPoll p) :=
  (touches_nextPoll (by decide)).mpr (Touches.refl _ s)

theorem pollExpiry_of_none (h : s.scan.pass = none) : s.pollExpiry = s := by
  unfold State.pollExpiry
  rw [h]

theorem moduleReply_of_none (h : s.scan.pass = none) (bytes : List Byte) : s.moduleReply bytes = s := by
  unfold State.moduleReply
  rw [h]

/-- A reply that comes while a pass runs is taken as its poll's outcome (R41, log 33). -/
theorem moduleReply_of_pass (hp : s.scan.pass = some p) (bytes : List Byte) : ∃ u, s.moduleReply bytes = u.nextPoll p
    ∧ Touches [.pots, .ae, .events, .energy] s u := by
  have stale : ∀ fault lowest, ∃ u, s.staleEntry p fault lowest = u.nextPoll p
      ∧ Touches [.pots, .ae, .events, .energy] s u := fun fault lowest =>
    ⟨_, staleEntry_eq s p fault lowest, (touches_post (by decide)).mpr (touches_staleAll.mono (by decide))⟩
  cases hg : goodReply (s.scan.entry (s.scan.polled p)) bytes with
  | none =>
    rw [moduleReply_of_bad hp hg]
    exact stale _ _
  | some chans =>
    cases hf : chans.findIdx? (fun c => c.2 == 1) with
    | some k =>
      rw [moduleReply_of_open hp hg hf]
      exact stale _ _
    | none =>
      rw [moduleReply_of_fresh hp hg hf]
      refine ⟨_, rfl, (touches_foldl fun u x => ?_).mpr (Touches.refl _ s)⟩
      split <;> exact (touches_freshReading (by decide)).mpr (Touches.refl _ u)

end

/-! ### The end of a pass with its report (R45) -/

/-- The runs into which the pot entries of a pass are cut (R45). -/
def State.passParts (s : State) (p : Pass) : List (List PotEntry) := chunks 128 3 (s.passEnded.passEntries p.start)

section
variable {s : State} {p : Pass} (hlast : s.scan.table.length ≤ p.done + 1) (ht : s.cfg .telEnable = 1)
include hlast ht

theorem nextPoll_skipped (hseg : s.scan.segments ≠ []) : (s.nextPoll p).scan
    = { s.scan with pass := none, reportSkips := bump s.scan.reportSkips } := by
  rw [nextPoll_of_reported hlast ht, kick_scan, buildReports_of_kept (s := s.passEnded) hseg]
  rfl

theorem nextPoll_report (hseg : s.scan.segments = []) : (s.nextPoll p).scan
    = { s.scan with
        pass := none, segments := s.scan.report p (s.passParts p), reportSkips := 0,
        upPot := 0xFFFF#16 + BitVec.ofNat 16 (s.scan.table.map (·.count)).sum } := by
  rw [nextPoll_of_reported hlast ht, kick_scan, buildReports_of_empty (s := s.passEnded) hseg, potEntries_upPot,
    Scan.polledPots_length]
  rfl

end

section
variable {s : State} {p : Pass} (htotal : (s.scan.table.map (·.count)).sum ≤ 384)
include htotal

theorem passParts_flatten : (s.passParts p).flatten = s.passEnded.passEntries p.start :=
  chunks_flatten 3 (by rw [passEntries_length]; exact htotal)

theorem passParts_length : (s.passParts p).length = ((s.scan.table.map (·.count)).sum + 127) / 128 := by
  refine (chunks_length (by decide) 3 (by rw [passEntries_length]; exact htotal)).trans ?_
  rw [passEntries_length]
  rfl

end

/-! ### A good reply (R41, R43) -/

theorem findIdx?_channelsOf_none {readings : List (Word16 × Byte)} (h : ∀ x ∈ readings, x.2 ≠ 1#8) :
    (channelsOf readings).findIdx? (fun c => c.2 == 1) = none := by
  rw [List.findIdx?_eq_none_iff]
  intro c hc
  obtain ⟨x, hx, rfl⟩ := List.mem_map.mp hc
  simpa using fun he => h x hx (BitVec.eq_of_toNat_eq he)

/-- The readings of a good reply taken in channel order, an overrange as full scale (R43). -/
def State.readingsTaken (s : State) (e : ScanEntry) (readings : List (Word16 × Byte)) : State :=
  readings.zipIdx.foldl (fun u x =>
    if x.1.2 = 2#8 then u.freshReading (e.firstPot + x.2) 65535 .overrange
    else u.freshReading (e.firstPot + x.2) x.1.1.toNat .ok) s

theorem freshEntry_channelsOf (s : State) (p : Pass) (readings : List (Word16 × Byte)) :
    s.freshEntry p (channelsOf readings)
      = (s.readingsTaken (s.scan.entry (s.scan.polled p)) readings).nextPoll p := by
  have hover : ∀ b : Byte, b.toNat = 2 ↔ b = 2#8 := fun b =>
    ⟨fun h => BitVec.eq_of_toNat_eq h, fun h => by rw [h]; rfl⟩
  unfold State.freshEntry State.readingsTaken channelsOf
  dsimp only
  rw [List.zipIdx_map, List.foldl_map]
  simp only [Prod.map_fst, Prod.map_snd, id_eq, hover]

theorem touches_readingsTaken {s : State} {e : ScanEntry} {readings : List (Word16 × Byte)} :
    Touches [.pots, .ae, .energy, .events] s (s.readingsTaken e readings) :=
  (touches_foldl fun u x => by
    split <;> exact (touches_freshReading (by decide)).mpr (Touches.refl _ u)).mpr (Touches.refl _ s)

end Sys2Proof.Machine

/-- Settles O40: the scan block after each operation is given by its equation, and the pot entries of a report stand in
polling order. -/
theorem passesPollEveryEntryInTurn : Obligations.PassesPollEveryEntryInTurn := by
  unfold Obligations.PassesPollEveryEntryInTurn
  intro s c count entry poll up total polled data source filled goesOn expired
  have hexpired : ∀ u : State, u.scan.table = c.table → u.settings = s.settings →
      expired u.energy.time u.scan u.scanExpiry.scan := by
    intro u htable hset
    have hrotate : u.cfg .scanRotate = s.cfg .scanRotate := cfg_congr hset _
    refine ⟨fun p hp => ?_, fun hp ht => ?_, fun hp ht => ⟨u.passRotation, ?_, ?_⟩⟩
    · rw [scanExpiry_of_running hp]
      rfl
    · rw [scanExpiry_of_empty hp ht]
    · unfold State.passRotation
      rw [hrotate]
      split
      · exact rotate_bits u.scan.rotation
      · rfl
    · have hstart : u.passStart = if s.cfg .scanRotate = 1 then u.scan.rotation.toNat % count else 0 := by
        unfold State.passStart
        rw [hrotate, htable]
      have hpoll : pollFrame (u.scan.entry (u.passStart % u.scan.table.length)) = poll (entry (u.passStart % count)) := by
        unfold Scan.entry
        rw [htable]
        rfl
      rw [scanExpiry_of_idle hp ht, startPass_eq, hpoll, hstart]
      rfl
  have hgoes : ∀ (u : State) (p : Pass), u.scan = c → u.settings = s.settings → goesOn u (u.nextPoll p) p := by
    intro u p hscan hset
    have htel : u.cfg .telEnable = s.cfg .telEnable := cfg_congr hset _
    refine ⟨fun hmore => ?_, fun hlast => ?_⟩
    · refine (nextPoll_of_more (by rw [hscan]; exact hmore)).trans ?_
      rw [hscan]
      rfl
    have hlast : u.scan.table.length ≤ p.done + 1 := by rw [hscan]; exact hlast
    refine ⟨nextPoll_of_last hlast, touches_nextPoll_self, fun ht => ?_, fun ht hseg => ?_, fun ht hseg htotal => ?_⟩
    · exact nextPoll_of_unreported hlast (by rw [htel]; exact ht)
    · rw [nextPoll_skipped hlast (htel.trans ht) hseg]
      exact ⟨rfl, rfl⟩
    have htotal : (u.scan.table.map (·.count)).sum ≤ 384 := by rw [hscan]; exact htotal
    have hsum : (u.scan.table.map (·.count)).sum = total := by rw [hscan]
    have hflat := passParts_flatten (p := p) htotal
    rw [nextPoll_report hlast (htel.trans ht) hseg]
    dsimp only
    refine ⟨rfl, ?_, ?_, ?_, fun k x hx => ?_, fun x hx => ?_, fun hstart j x hx => ?_⟩
    · rw [report_sum, hflat, passEntries_length]
      exact hsum
    · rw [report_length, passParts_length htotal, hsum]
    · rw [hsum]
    · obtain ⟨part, _, rfl⟩ := report_at hx
      rfl
    · obtain ⟨k, hk⟩ := List.mem_iff_getElem?.mp hx
      obtain ⟨part, hpart, rfl⟩ := report_at hk
      refine ⟨length_le_of_mem_chunks hpart, by rw [hscan], report_length.symm, rfl, rfl, rfl⟩
    · have htable : u.scan.table = c.table := by rw [hscan]
      have htable : u.passEnded.scan.table = c.table := htable
      rw [report_flatMap, hflat]
      refine ⟨_, passEntries_getElem? (by rw [htable]; exact hstart) ?_, rfl, fun slot => potEntry_tags _ _ _ _ _ slot⟩
      unfold Scan.entry
      rw [htable]
      exact hx
  refine ⟨fun b => ⟨s.boundary b, rfl, ?_⟩, ⟨s.scanExpiry.scan, congrArg Host.Outcome.next (scanExpiry_eq_setScan s),
    hexpired s rfl rfl⟩, fun hp => ⟨congrArg Host.Outcome.next (pollExpiry_of_none hp), fun bytes =>
      congrArg Host.Outcome.next (moduleReply_of_none hp bytes)⟩, fun p hp => ⟨?_, fun bytes => ?_, ?_⟩⟩
  · have hscan : (s.boundaryTimed b).scan = c := touches_boundaryTimed.scan (by decide)
    have hset : (s.boundaryTimed b).settings = s.settings := touches_boundaryTimed.settings (by decide)
    have htime := boundaryTimed_time s b
    have hanew : { c with periodLeft := s.cfgN .scanPeriod }
        = { (s.boundaryTimed b).scan with periodLeft := (s.boundaryTimed b).cfgN .scanPeriod } := by
      rw [hscan, cfgN_congr hset]
    rw [boundary_scan]
    refine ⟨fun hleft => ?_, fun hleft ha => ?_, fun hleft ha => ?_⟩
    · rw [scanSample_counting (by rw [hscan]; exact hleft), hscan]
      rfl
    · rw [scanSample_ending (by rw [hscan]; exact hleft), ha]
      exact hanew.symm
    · rw [scanSample_ending (by rw [hscan]; exact hleft), ha, ← htime, hanew]
      have htable : (s.boundaryTimed b).scan.table = c.table := by rw [hscan]
      exact hexpired ((s.boundaryTimed b).setScan _) htable hset
  · have ht : Touches [.pots, .ae, .events] s ((s.staleAll (s.scan.entry (s.scan.polled p))).post .scanFault
        (s.scan.polled p) [beBytes 1 ScanFault.noReply.code, beBytes 1 0]) :=
      (touches_post (by decide)).mpr touches_staleAll
    refine ⟨_, _, congrArg Host.Outcome.next ((pollExpiry_of_pass hp).trans (staleEntry_eq s p .noReply 0)), ht,
      hgoes _ p (ht.scan (by decide)) (ht.settings (by decide))⟩
  · obtain ⟨u, he, ht⟩ := moduleReply_of_pass hp bytes
    exact ⟨u, _, congrArg Host.Outcome.next he, ht, hgoes u p (ht.scan (by decide)) (ht.settings (by decide))⟩
  · intro readings hlen hcount hmodule hst checked u
    have hst' : ∀ x ∈ readings, x.2.toNat ≤ 2 ∧ x.2 ≠ 1#8 := fun x hx => by
      rcases hst x hx with h | h <;> rw [h] <;> decide
    have hgood := goodReply_reply (e := s.scan.entry (s.scan.polled p)) hlen hcount hmodule fun x hx => (hst' x hx).1
    have he := (moduleReply_of_fresh hp hgood (findIdx?_channelsOf_none fun x hx => (hst' x hx).2)).trans
      (freshEntry_channelsOf s p readings)
    exact ⟨_, congrArg Host.Outcome.next he, hgoes u p (touches_readingsTaken.scan (by decide))
      (touches_readingsTaken.settings (by decide))⟩
end

section
/-! PROOFS. The pot switching record (R121 to R124): the operations on the ceiling stack that leave it as it is, and
what a line sample and the ends of a procedure make of it. -/

open Sys2Proof Sys2Proof.Machine

namespace Sys2Proof.Machine

/-! ### Operations on the entries leave the record (R112 to R120) -/

section
variable (s : State)

theorem removeEntry_switching (p : StackEntry → Bool) (x : StackChange) :
    (s.removeEntry p x).stack.switching = s.stack.switching := by
  unfold State.removeEntry
  split <;> rfl

theorem pushUtility_switching : s.pushUtility.stack.switching = s.stack.switching := by
  have evict : s.evictOldest.stack.switching = s.stack.switching := by
    unfold State.evictOldest
    dsimp only
    repeat' split
    all_goals rfl
  unfold State.pushUtility
  split
  · rfl
  · exact evict

theorem registerUtility_switching (level : Bool) :
    (s.registerUtility level).stack.switching = s.stack.switching := by
  unfold State.registerUtility
  dsimp only
  split
  · exact pushUtility_switching _
  · exact removeEntry_switching _ _ _

theorem readUtility_switching (pin apart : Bool) :
    (s.readUtility pin apart).stack.switching = s.stack.switching := by
  unfold State.readUtility
  extract_lets k n m
  split
  · split
    · exact registerUtility_switching s false
    · rfl
  · split
    · exact registerUtility_switching s true
    · rfl

theorem expiryPosts_stack (xs : List StackEntry) :
    (xs.foldl (fun s e => s.postStack .expired e) s).stack = s.stack :=
  Touches.stack (l := [.events])
    ((touches_foldl fun _ _ => (touches_postStack (by decide)).mpr (Touches.refl _ _)).mpr (Touches.refl _ s))
    (by decide)

theorem expireEntries_stack : s.expireEntries.stack
    = { s.stack with entries := s.stack.entries.filter fun e => !e.spent } := by
  unfold State.expireEntries
  dsimp only
  rw [expiryPosts_stack, State.setStack_stack]

theorem pushCeiling_switching (payload : List Byte) (eng : Bool) :
    (s.pushCeiling payload eng).2.stack.switching = s.stack.switching := by
  unfold State.pushCeiling
  dsimp only
  repeat' split
  all_goals rfl

theorem popCeiling_switching (eng : Bool) : (s.popCeiling eng).2.stack.switching = s.stack.switching := by
  unfold State.popCeiling
  repeat' split
  all_goals rfl

theorem removeCeiling_switching (payload : List Byte) :
    (s.removeCeiling payload).2.stack.switching = s.stack.switching := by
  unfold State.removeCeiling
  dsimp only
  split
  · rfl
  · split
    · rfl
    · exact removeEntry_switching _ _ _

/-! ### The procedure (R122 to R124) -/

theorem endSwitch_switching (cause : SwitchEnd) : (s.endSwitch cause).stack.switching
    = { s.stack.switching with phase := .none, lastEnd := cause } := by
  have h := removeEntry_switching s (fun e => e.source == .switching) .ended
  rw [← h]
  rfl

end

theorem Switching.inProgress_iff {w : Switching} : w.inProgress = true ↔ w.phase ≠ .none := by
  simp [Switching.inProgress]

theorem Switching.inProgress_eq_false_iff {w : Switching} : w.inProgress = false ↔ w.phase = .none := by
  simp [Switching.inProgress]

/-- The phase that the readiness test of a line sample gives (R122). -/
def switchPhase (low : Bool) : SwitchPhase := if low then .ready else .lowering

theorem switchPhase_ne_none (low : Bool) : switchPhase low ≠ .none := by
  cases low <;> decide

/-- The record of a procedure in progress once a line sample has tested readiness and advanced the timer (R122). -/
def Switching.sampled (w : Switching) (low : Bool) : Switching :=
  { w with phase := switchPhase low, timer := w.timer + 1 }

section
variable {s : State}

theorem switchLow_congr {t : State} (hfront : t.front = s.front) (hset : t.settings = s.settings) :
    t.switchLow = s.switchLow := by
  simp only [State.switchLow, hfront, cfgN_congr hset]

theorem switchReadiness_idle (h : s.stack.switching.phase = .none) : s.switchReadiness = s := by
  unfold State.switchReadiness
  dsimp only
  rw [h]

theorem switchReadiness_kept (h : s.stack.switching.phase = switchPhase s.switchLow) : s.switchReadiness = s := by
  unfold State.switchReadiness
  dsimp only
  rw [h]
  cases s.switchLow <;> rfl

theorem switchReadiness_moves (h : s.stack.switching.phase ≠ .none)
    (hne : s.stack.switching.phase ≠ switchPhase s.switchLow) : s.switchReadiness
      = (s.setSwitching { s.stack.switching with phase := switchPhase s.switchLow }).post .switch
          s.stack.switching.pot [if s.switchLow then [2#8] else [1#8]] := by
  unfold State.switchReadiness
  dsimp only
  cases hp : s.stack.switching.phase with
  | none => exact absurd hp h
  | lowering =>
    cases hl : s.switchLow with
    | true => rfl
    | false => rw [hp, hl] at hne; exact absurd rfl hne
  | ready =>
    cases hl : s.switchLow with
    | true => rw [hp, hl] at hne; exact absurd rfl hne
    | false => rfl

theorem switchReadiness_stack (h : s.stack.switching.phase ≠ .none) : s.switchReadiness.stack
    = { s.stack with switching := { s.stack.switching with phase := switchPhase s.switchLow } } := by
  by_cases hne : s.stack.switching.phase = switchPhase s.switchLow
  · rw [switchReadiness_kept hne, ← hne]
  · rw [switchReadiness_moves h hne]
    rfl

theorem tickSwitch_idle (h : s.stack.switching.phase = .none) : s.tickSwitch = s :=
  if_neg (by rw [Switching.inProgress_eq_false_iff.mpr h]; decide)

theorem tickSwitch_running (h : s.stack.switching.phase ≠ .none) : s.tickSwitch
    = s.setSwitching { s.stack.switching with timer := s.stack.switching.timer + 1 } :=
  if_pos (Switching.inProgress_iff.mpr h)

/-- The end of a procedure by its timer falls due (R122). -/
abbrev State.SwitchLate (s : State) : Prop :=
  s.stack.switching.phase ≠ .none ∧ s.cfgN .switchTimeout * 10 ≤ s.stack.switching.timer

theorem switchTimeout_due (h : s.SwitchLate) : s.switchTimeout = s.endSwitch .timeout :=
  if_pos (by simpa [Switching.inProgress] using h)

theorem switchTimeout_not_due (h : ¬ s.SwitchLate) : s.switchTimeout = s :=
  if_neg (by simpa [Switching.inProgress] using h)

/-- The stack once the lifetimes have been counted (R117). -/
def State.livesCounted (s : State) (apart : Bool) : State := s.tickLives.when (!apart) State.expireEntries

/-- The stack's part of a sample before a procedure's timeout: lifetimes, readiness and the procedure timer (R117,
R122). -/
def State.stackTimed (s : State) (apart : Bool) : State :=
  (s.livesCounted apart).switchReadiness.tickSwitch

theorem stackSample_eq (s : State) (apart : Bool) :
    s.stackSample apart = (s.stackTimed apart).when (!apart) State.switchTimeout := rfl

theorem touches_livesCounted {s : State} {apart : Bool} : Touches [.stack, .events] s (s.livesCounted apart) :=
  (touches_when fun _ => (touches_expireEntries (by decide)).mpr (Touches.refl _ _)).mpr
    ((touches_tickLives (by decide)).mpr (Touches.refl _ s))

theorem livesCounted_switching (s : State) (apart : Bool) :
    (s.livesCounted apart).stack.switching = s.stack.switching := by
  unfold State.livesCounted
  cases apart
  · exact (congrArg CeilingStack.switching (expireEntries_stack s.tickLives)).trans rfl
  · rfl

theorem livesCounted_switchLow (s : State) (apart : Bool) : (s.livesCounted apart).switchLow = s.switchLow :=
  switchLow_congr (touches_livesCounted.front (by decide)) (touches_livesCounted.settings (by decide))

theorem stackTimed_idle (h : s.stack.switching.phase = .none) (apart : Bool) :
    s.stackTimed apart = s.livesCounted apart := by
  have hl : (s.livesCounted apart).stack.switching.phase = .none := by rw [livesCounted_switching, h]
  unfold State.stackTimed
  rw [switchReadiness_idle hl, tickSwitch_idle hl]

theorem stackTimed_stack (h : s.stack.switching.phase ≠ .none) (apart : Bool) : (s.stackTimed apart).stack
    = { (s.livesCounted apart).stack with switching := s.stack.switching.sampled s.switchLow } := by
  have hl : (s.livesCounted apart).stack.switching.phase ≠ .none := by rw [livesCounted_switching]; exact h
  have hr := switchReadiness_stack hl
  rw [livesCounted_switching, livesCounted_switchLow] at hr
  unfold State.stackTimed
  rw [tickSwitch_running (by rw [hr]; exact switchPhase_ne_none _), hr]
  unfold State.setSwitching
  rw [State.setStack_stack, hr]
  rfl

theorem stackSample_switching_idle (h : s.stack.switching.phase = .none) (apart : Bool) :
    (s.stackSample apart).stack.switching = s.stack.switching := by
  have hl := livesCounted_switching s apart
  have hend : (s.livesCounted apart).switchTimeout = s.livesCounted apart :=
    switchTimeout_not_due fun hd => hd.1 (by rw [hl, h])
  rw [stackSample_eq, stackTimed_idle h]
  cases apart
  · exact (congrArg (fun u : State => u.stack.switching) hend).trans hl
  · exact hl

theorem stackTimed_late (h : s.stack.switching.phase ≠ .none) (apart : Bool) :
    (s.stackTimed apart).SwitchLate ↔ s.cfgN .switchTimeout * 10 ≤ s.stack.switching.timer + 1 := by
  have hset : (s.stackTimed apart).settings = s.settings := Touches.settings (l := [.stack, .events])
    ((touches_tickSwitch (by decide)).mpr ((touches_switchReadiness (by decide)).mpr touches_livesCounted)) (by decide)
  unfold State.SwitchLate
  rw [stackTimed_stack h, cfgN_congr hset]
  exact and_iff_right (switchPhase_ne_none _)

theorem stackSample_running (h : s.stack.switching.phase ≠ .none) {apart : Bool}
    (hl : apart = true ∨ ¬ s.cfgN .switchTimeout * 10 ≤ s.stack.switching.timer + 1) :
    s.stackSample apart = s.stackTimed apart := by
  rw [stackSample_eq]
  cases apart
  · exact switchTimeout_not_due (mt (stackTimed_late h false).mp (hl.resolve_left Bool.false_ne_true))
  · rfl

theorem stackSample_timeout (h : s.stack.switching.phase ≠ .none)
    (hl : s.cfgN .switchTimeout * 10 ≤ s.stack.switching.timer + 1) :
    s.stackSample false = (s.stackTimed false).endSwitch .timeout := by
  rw [stackSample_eq]
  exact switchTimeout_due ((stackTimed_late h false).mpr hl)

end

/-! ### A procedure goes on or ends -/

/-- From `w` to `v` no procedure has begun: one in progress in `v` was so in `w`, of the same kind and pot (R121). -/
def Switching.GoesOn (w v : Switching) : Prop :=
  v.inProgress = true → w.inProgress = true ∧ v.pot = w.pot ∧ v.kind = w.kind

theorem Switching.GoesOn.of_eq {w v : Switching} (h : v = w) : w.GoesOn v := fun hv =>
  ⟨h ▸ hv, by rw [h], by rw [h]⟩

theorem Switching.GoesOn.of_ended {w v : Switching} (h : v.phase = .none) : w.GoesOn v := fun hv =>
  absurd h (Switching.inProgress_iff.mp hv)

theorem switchTimeout_goesOn (s : State) : s.stack.switching.GoesOn s.switchTimeout.stack.switching := by
  by_cases h : s.SwitchLate
  · rw [switchTimeout_due h, endSwitch_switching]
    exact .of_ended rfl
  · rw [switchTimeout_not_due h]
    exact .of_eq rfl

theorem stackSample_goesOn (s : State) (apart : Bool) :
    s.stack.switching.GoesOn (s.stackSample apart).stack.switching := by
  by_cases h : s.stack.switching.phase = .none
  · exact .of_eq (stackSample_switching_idle h apart)
  by_cases hl : apart = true ∨ ¬ s.cfgN .switchTimeout * 10 ≤ s.stack.switching.timer + 1
  · rw [stackSample_running h hl, stackTimed_stack h]
    exact fun _ => ⟨Switching.inProgress_iff.mpr h, rfl, rfl⟩
  · obtain ⟨ha, hl⟩ := not_or.mp hl
    rw [Bool.eq_false_iff.mpr ha, stackSample_timeout h (not_not.mp hl), endSwitch_switching]
    exact .of_ended rfl

end Sys2Proof.Machine
end


section
/-! PROOFS. The pot table and the AE map in step (O57; R52, R53, R63, R65, R66): what the monitor's law asks of the
table and the map, kept by every operation on a pot.

A scan table that the law does not restrain may name pot 0, whose number the model reads as pot 1, and pots beyond
384, which no table holds. So the lemmas here hold for whatever number an operation is given. -/

open Sys2Proof Sys2Proof.Machine

namespace Sys2Proof.Machine

/-! ### The law of the pots -/

/-- The record `x` of a pot agrees with the map flag `flag`, and it is OUT when CUT_OUT or NOT_FITTED (R53, R63,
R65). -/
structure Pot.Agrees (x : Pot) (flag : Bool) : Prop where
  flag : flag = x.ae.state.inAe
  cutOut : x.cutOut = true → x.ae.state = .out
  notFitted : x.fitted = false → x.ae.state = .out

/-- What the monitor's law asks of the pot table, the AE map and what follows it (R52, R65, R66). -/
structure State.PotsAgree (s : State) : Prop where
  whole : s.PotsWhole
  follows : s.AeFollows
  pot : ∀ p ∈ potNumbers, (s.pot p).Agrees (s.ae.flag p)

theorem pot_setPot (s : State) (p q : Nat) (x : Pot) :
    (s.setPot p x).pot q = if q - 1 = p - 1 ∧ q - 1 < s.pots.length then x else s.pot q := by
  unfold State.pot State.setPot
  rw [State.setPots_pots]
  simp only [List.getD_eq_getElem?_getD, List.getElem?_set]
  grind

theorem pot_of_gt {s : State} {p : Nat} (h : s.pots.length ≤ p - 1) : s.pot p = Pot.initial :=
  List.getD_eq_default _ _ h

/-- A pot that is not OUT stands in the table. -/
theorem State.PotsAgree.le_of_not_out {s : State} {p : Nat} (h : s.PotsAgree) (hout : (s.pot p).ae.state ≠ .out) :
    p ≤ 384 := by
  by_contra hp
  exact hout (by rw [pot_of_gt (by rw [h.whole.pots]; omega)]; rfl)

theorem inAe_ne_out {x : AeState} (h : x.inAe = true) : x ≠ .out := by
  rintro rfl
  cases h

/-- Every number up to 384 reads the record of a pot of the table. -/
theorem State.PotsAgree.agrees {s : State} {p : Nat} (h : s.PotsAgree) (hp : p ≤ 384) :
    (s.pot p).Agrees (s.ae.flag p) := by
  cases p with
  | zero => exact h.pot 1 (mem_pots.mpr (by decide))
  | succ n => exact h.pot (n + 1) (mem_pots.mpr ⟨Nat.succ_pos n, hp⟩)

/-- The law speaks of the pot table, of the map with what follows it, and of AE_HOLD_COUNT. -/
theorem State.PotsAgree.congr {s t : State} (h : s.PotsAgree) (hpots : t.pots = s.pots) (hmap : t.ae.map = s.ae.map)
    (hfollows : t.AeFollows) : t.PotsAgree := by
  refine ⟨⟨by rw [hpots, h.whole.pots], by rw [hmap, h.whole.map]⟩, hfollows, fun p hp => ?_⟩
  rw [pot_congr hpots, flag_congr hmap]
  exact h.pot p hp

theorem State.AeFollows.congr {s t : State} (h : s.AeFollows) (hmap : t.ae.map = s.ae.map)
    (hcount : t.ae.count = s.ae.count) (hlamp : t.ae.lamp = s.ae.lamp) (hhold : t.ae.hold = s.ae.hold)
    (hcfg : t.cfgN .aeHoldCount = s.cfgN .aeHoldCount) : t.AeFollows := by
  obtain ⟨hc, hl, hh⟩ := h
  refine ⟨?_, ?_, ?_⟩
  · rw [hcount, hmap, hc]
  · rw [hlamp, hcount, hl]
  · rw [hhold, hcount, hcfg, hh]

theorem State.PotsAgree.of_touches {s t : State} {l : List Block} (h : s.PotsAgree) (ht : Touches l s t)
    (hp : .pots ∉ l) (ha : .ae ∉ l) (hs : .settings ∉ l) : t.PotsAgree := by
  have hae := ht.ae ha
  exact h.congr (ht.pots hp) (by rw [hae]) (h.follows.congr (by rw [hae]) (by rw [hae]) (by rw [hae]) (by rw [hae])
    (cfgN_congr (ht.settings hs) _))

/-- A record that agrees with the map flag of its pot may be written. -/
theorem State.PotsAgree.setPot {s : State} (h : s.PotsAgree) {p : Nat} {x : Pot}
    (hx : p ≤ 384 → x.Agrees (s.ae.flag p)) : (s.setPot p x).PotsAgree := by
  refine ⟨⟨(pots_length_setPot s p x).trans h.whole.pots, h.whole.map⟩,
    h.follows.congr rfl rfl rfl rfl rfl, fun q hq => ?_⟩
  obtain ⟨hq1, hq2⟩ := mem_pots.mp hq
  rw [pot_setPot]
  split
  · rename_i hqp
    have hflag : s.ae.flag p = s.ae.flag q := by
      unfold AeMonitor.flag
      rw [hqp.1]
    show x.Agrees (s.ae.flag q)
    exact hflag ▸ hx (by omega)
  · exact h.pot q hq

/-- A record written together with the map flag of its pot, the count and what follows it in step (R65, R66). -/
theorem State.PotsAgree.flagged {s t : State} (h : s.PotsAgree) {p : Nat} {x : Pot} {b : Bool} (hp : p ≤ 384)
    (hpots : t.pots = (s.setPot p x).pots) (hmap : t.ae.map = aeMapSet s.ae.map p b) (hfollows : t.AeFollows)
    (hx : x.Agrees b) : t.PotsAgree := by
  refine ⟨⟨?_, ?_⟩, hfollows, fun q hq => ?_⟩
  · rw [hpots, pots_length_setPot, h.whole.pots]
  · rw [hmap, aeMapSet_length, h.whole.map]
  · obtain ⟨hq1, hq2⟩ := mem_pots.mp hq
    have hpos : aeMapSet s.ae.map p b = aeMapSet s.ae.map (p - 1 + 1) b := rfl
    have hflag : t.ae.flag q = if q = p - 1 + 1 then b else s.ae.flag q := by
      unfold AeMonitor.flag
      rw [hmap, hpos]
      exact map_flag_set s.ae.map (p - 1 + 1) q b h.whole.map (by omega) (by omega) hq1
    rw [pot_congr hpots, pot_setPot, hflag]
    by_cases hqp : q = p - 1 + 1
    · rw [if_pos ⟨by omega, by rw [h.whole.pots]; omega⟩, if_pos hqp]
      exact hx
    · rw [if_neg (fun hc => hqp (by omega)), if_neg hqp]
      exact h.pot q hq

/-! ### Operations that change no pot's fitting or switching state -/

/-- Every pot is fitted in `t` as it is in `s`, and has the same switching state. -/
def SameFitting (s t : State) : Prop :=
  ∀ p, (t.pot p).fitted = (s.pot p).fitted ∧ (t.pot p).cutOut = (s.pot p).cutOut

theorem SameFitting.of_pots {s t : State} (h : t.pots = s.pots) : SameFitting s t := fun p => by
  rw [pot_congr h]
  exact ⟨rfl, rfl⟩

theorem SameFitting.refl (s : State) : SameFitting s s := .of_pots rfl

theorem SameFitting.trans {s t u : State} (h : SameFitting s t) (k : SameFitting t u) : SameFitting s u := fun p =>
  ⟨(k p).1.trans (h p).1, (k p).2.trans (h p).2⟩

theorem sameFitting_setPot {s : State} {p : Nat} {x : Pot} (hf : x.fitted = (s.pot p).fitted)
    (hc : x.cutOut = (s.pot p).cutOut) : SameFitting s (s.setPot p x) := fun q => by
  rw [pot_setPot]
  split
  · rename_i hqp
    have hsame : s.pot q = s.pot p := by
      unfold State.pot
      rw [hqp.1]
    rw [hsame]
    exact ⟨hf, hc⟩
  · exact ⟨rfl, rfl⟩

/-- From `s` to `t` the pot table and the map have stayed in step, and no pot's fitting or switching state has
changed. -/
structure StaysAgreed (s t : State) : Prop where
  agrees : t.PotsAgree
  same : SameFitting s t

section
variable {s t u : State} {p v before : Nat} {x : Pot}

theorem StaysAgreed.trans (h : StaysAgreed s t) (k : StaysAgreed t u) : StaysAgreed s u :=
  ⟨k.agrees, h.same.trans k.same⟩

theorem State.PotsAgree.stays (h : s.PotsAgree) : StaysAgreed s s := ⟨h, .refl s⟩

theorem StaysAgreed.touched {l : List Block} (h : StaysAgreed s t) (ht : Touches l t u) (hp : .pots ∉ l)
    (ha : .ae ∉ l) (hs : .settings ∉ l) : StaysAgreed s u :=
  ⟨h.agrees.of_touches ht hp ha hs, h.same.trans (.of_pots (ht.pots hp))⟩

theorem StaysAgreed.post {k : EventKind} {n : Nat} {fields : List (List Byte)} (h : StaysAgreed s t) :
    StaysAgreed s (t.post k n fields) :=
  h.touched (l := [.events]) ((touches_post (by decide)).mpr (Touches.refl _ t)) (by decide) (by decide) (by decide)

theorem StaysAgreed.foldl {α : Type} {f : State → α → State} {xs : List α}
    (hf : ∀ u x, u.PotsAgree → StaysAgreed u (f u x)) (h : s.PotsAgree) : StaysAgreed s (xs.foldl f s) := by
  induction xs generalizing s with
  | nil => exact h.stays
  | cons x xs ih =>
    have hx := hf s x h
    exact hx.trans (ih hx.agrees)

theorem closeAe_pots {c : EndCause} {nx : AeState} (hp : p - 1 < s.pots.length) : (s.closeAe p c nx).pots
    = (s.setPot p { s.pot p with ae := { (s.pot p).ae with frozen := false, state := nx } }).pots := by
  unfold State.closeAe
  extract_lets a number _ s1 s2 s3 s4
  have h2 : s2.pots = s.pots := evalHold_pots _
  have hself : s4.pot p = { s.pot p with ae := { a with frozen := false } } := by
    show (s2.setPot p _).pot p = _
    rw [pot_setPot, if_pos ⟨rfl, by rw [h2]; exact hp⟩, pot_congr h2]
  have hpots : s4.pots = s.pots.set (p - 1) { s.pot p with ae := { a with frozen := false } } := by
    show s2.pots.set _ { s2.pot p with ae := _ } = _
    rw [h2, pot_congr h2]
  show s4.pots.set _ { s4.pot p with ae := { (s4.pot p).ae with state := nx } } = _
  rw [hself, hpots, List.set_set]
  rfl

theorem signalLost_of_unmonitored (h : (s.pot p).ae.state = .unmonitored) : s.signalLost p = s := by
  unfold State.signalLost
  dsimp only
  rw [h]

theorem ticked_pot (s : State) (q : Nat) : (s.setPots (s.pots.map Pot.tick)).pot q = (s.pot q).tick := by
  unfold State.pot
  rw [State.setPots_pots]
  exact List.getD_map s.pots Pot.initial Pot.tick

variable (h : s.PotsAgree)
include h

/-- A record written that leaves the pot within an AE or without, and OUT when it was. -/
theorem setPot_agreed (hf : x.fitted = (s.pot p).fitted) (hc : x.cutOut = (s.pot p).cutOut)
    (hin : x.ae.state.inAe = (s.pot p).ae.state.inAe) (hout : (s.pot p).ae.state = .out → x.ae.state = .out) :
    StaysAgreed s (s.setPot p x) := by
  refine ⟨h.setPot fun hp => ?_, sameFitting_setPot hf hc⟩
  obtain ⟨hflag, hcut, hfit⟩ := h.agrees hp
  exact ⟨by rw [hflag, hin], fun hx => hout (hcut (by rw [← hc, hx])), fun hx => hout (hfit (by rw [← hf, hx]))⟩

theorem setPotAe_agreed {a : PotAe} (hin : a.state.inAe = (s.pot p).ae.state.inAe)
    (hout : (s.pot p).ae.state = .out → a.state = .out) : StaysAgreed s (s.setPotAe p a) :=
  setPot_agreed h rfl rfl hin hout

/-- The AE of a pot closed with the record that it leaves (R64). -/
theorem closeAe_agreed (hin : (s.pot p).ae.state.inAe = true) {c : EndCause} {nx : AeState} (hnx : nx.inAe = false) :
    StaysAgreed s (s.closeAe p c nx) := by
  have hp := h.le_of_not_out (inAe_ne_out hin)
  have hpots := closeAe_pots (c := c) (nx := nx) (s := s) (p := p) (by rw [h.whole.pots]; omega)
  obtain ⟨_, hcut, hfit⟩ := h.agrees hp
  refine ⟨h.flagged (b := false) hp hpots (by rw [closeAe_ae, evalHold_ae]; rfl) (closeAe_follows s p c nx)
    ⟨hnx.symm, fun hx => ?_, fun hx => ?_⟩, SameFitting.trans ?_ (.of_pots hpots)⟩
  · exact absurd (hcut hx) (inAe_ne_out hin)
  · exact absurd (hfit hx) (inAe_ne_out hin)
  · exact sameFitting_setPot rfl rfl

theorem addExcess_agreed (n : Nat) : StaysAgreed s (s.addExcess n) := by
  have hcharged : StaysAgreed s (s.setAe { s.ae with excess := s.ae.excess.add n }) :=
    ⟨h.congr rfl rfl (h.follows.congr rfl rfl rfl rfl rfl), .refl s⟩
  exact hcharged.touched (addExcess_settled n) (by decide) (by decide) (by decide)

theorem chargeAe_agreed : StaysAgreed s (s.chargeAe p v) := by
  have hset := setPotAe_agreed h (p := p)
    (a := (s.pot p).ae.charged v s.front.line.current (s.cfgN .scanPeriod)) rfl id
  exact hset.trans (addExcess_agreed hset.agrees _)

/-- An AE started in a pot that is not OUT (R57). -/
theorem startAe_agreed (hout : (s.pot p).ae.state ≠ .out) (start : Time) : StaysAgreed s (s.startAe p v start) := by
  have hp := h.le_of_not_out hout
  obtain ⟨_, hcut, hfit⟩ := h.agrees hp
  have hpots : (s.aeBegun p v start).pots
      = (s.setPotAe p ((s.pot p).ae.started (s.pot p).filtered start)).pots := evalHold_pots _
  have hbegun : StaysAgreed s (s.aeBegun p v start) := by
    refine ⟨h.flagged (b := true) hp hpots (by unfold State.aeBegun; rw [evalHold_ae]; rfl)
      (evalHold_follows rfl rfl) ⟨rfl, fun hx => absurd (hcut hx) hout, fun hx => absurd (hfit hx) hout⟩,
      SameFitting.trans ?_ (.of_pots hpots)⟩
    exact sameFitting_setPot rfl rfl
  rw [startAe_eq]
  exact hbegun.trans (chargeAe_agreed hbegun.agrees)

/-! ### The AE machine (R54 to R58, R62) -/

theorem evalQuiet_agreed (hin : (s.pot p).ae.state.inAe = false) (hout : (s.pot p).ae.state ≠ .out) :
    StaysAgreed s (s.evalQuiet p v before) := by
  by_cases hv : s.cfgN .aeOn ≤ v
  · rw [evalQuiet_high hv]
    exact setPot_agreed h rfl rfl hin.symm fun ho => absurd ho hout
  by_cases hr : 0 < s.cfgN .suspectRes ∧ s.cfgN .suspectRes ≤ (s.pot p).resistance
  · rw [evalQuiet_suspect hv hr]
    exact StaysAgreed.post (setPotAe_agreed h hin.symm fun ho => absurd ho hout)
  · rw [evalQuiet_normal hv hr]
    exact setPotAe_agreed h hin.symm fun ho => absurd ho hout

theorem evalSuspect_agreed (hin : (s.pot p).ae.state.inAe = false) (hout : (s.pot p).ae.state ≠ .out) :
    StaysAgreed s (s.evalSuspect p v before) := by
  by_cases hv : s.cfgN .aeOn ≤ v
  · rw [evalSuspect_high hv]
    have hset : StaysAgreed s
        (s.setPot p { s.pot p with filtered := before, ae := { (s.pot p).ae with timer := 0 } }) :=
      setPot_agreed h rfl rfl rfl id
    refine hset.trans (startAe_agreed hset.agrees ?_ _)
    rw [pot_setPot, if_pos ⟨rfl, by rw [h.whole.pots]; have := h.le_of_not_out hout; omega⟩]
    exact hout
  by_cases hr : s.cfgN .suspectRes = 0 ∨ (s.pot p).resistance + s.cfgN .suspectHyst < s.cfgN .suspectRes
  · rw [evalSuspect_normal hv hr]
    exact setPotAe_agreed h hin.symm fun ho => absurd ho hout
  · rw [evalSuspect_stays hv hr]
    exact h.stays

theorem evalPending_agreed (hin : (s.pot p).ae.state.inAe = false) (hout : (s.pot p).ae.state ≠ .out) :
    StaysAgreed s (s.evalPending p v) := by
  by_cases hv : s.cfgN .aeOn ≤ v
  · rw [evalPending_high hv]
    exact startAe_agreed h hout _
  · rw [evalPending_spike hv]
    exact setPotAe_agreed h hin.symm fun ho => absurd ho hout

theorem evalInAe_agreed (hin : (s.pot p).ae.state.inAe = true) : StaysAgreed s (s.evalInAe p v) := by
  have hout := inAe_ne_out hin
  by_cases ha : (s.pot p).ae.state = .active
  · by_cases hv : v < s.cfgN .aeOff
    · rw [evalInAe_active_low ha hv]
      exact setPotAe_agreed h hin.symm fun ho => absurd ho hout
    · rw [evalInAe_active_high ha hv]
      exact h.stays
  by_cases hv : v < s.cfgN .aeOff
  · rw [evalInAe_recovering_low ha hv]
    have hrec : StaysAgreed s (s.recovered p) := setPotAe_agreed h rfl id
    have hself : ((s.recovered p).pot p).ae.state.inAe = true := by
      unfold State.recovered State.setPotAe
      rw [pot_setPot, if_pos ⟨rfl, by rw [h.whole.pots]; have := h.le_of_not_out hout; omega⟩]
      exact hin
    split
    · exact hrec.trans (closeAe_agreed hrec.agrees hself rfl)
    · exact hrec
  · rw [evalInAe_recovering_high ha hv]
    exact setPotAe_agreed h hin.symm fun ho => absurd ho hout

theorem evalCharged_agreed (hin : (s.pot p).ae.state.inAe = true) :
    StaysAgreed s ((s.chargeAe p v).evalInAe p v) := by
  have hc : StaysAgreed s (s.chargeAe p v) := chargeAe_agreed h
  refine hc.trans (evalInAe_agreed hc.agrees ?_)
  have hp : p - 1 < s.pots.length := by
    rw [h.whole.pots]
    have := h.le_of_not_out (inAe_ne_out hin)
    omega
  unfold State.chargeAe
  rw [pot_congr ((addExcess_settled _).pots (by decide))]
  show ((s.setPot p _).pot p).ae.state.inAe = true
  rw [pot_setPot, if_pos ⟨rfl, hp⟩]
  exact hin

theorem evalAe_agreed : StaysAgreed s (s.evalAe p v before) := by
  unfold State.evalAe
  cases hst : (s.pot p).ae.state with
  | out => exact h.stays
  | unmonitored | normal => exact evalQuiet_agreed h (by rw [hst]; rfl) (by rw [hst]; decide)
  | suspect => exact evalSuspect_agreed h (by rw [hst]; rfl) (by rw [hst]; decide)
  | pending => exact evalPending_agreed h (by rw [hst]; rfl) (by rw [hst]; decide)
  | active | recovering => exact evalCharged_agreed h (by rw [hst]; rfl)

theorem signalLost_agreed : StaysAgreed s (s.signalLost p) := by
  cases hin : (s.pot p).ae.state.inAe with
  | true =>
    rw [signalLost_of_inAe hin]
    exact closeAe_agreed h hin rfl
  | false =>
    by_cases hout : (s.pot p).ae.state = .out
    · rw [signalLost_of_out hout]
      exact h.stays
    by_cases hun : (s.pot p).ae.state = .unmonitored
    · rw [signalLost_of_unmonitored hun]
      exact h.stays
    · rw [signalLost_of_quiet hin hout hun]
      exact setPotAe_agreed h hin.symm fun ho => absurd ho hout

/-! ### Readings (R42, R43) -/

theorem staleReading_agreed : StaysAgreed s (s.staleReading p) := by
  have hset : StaysAgreed s (s.setPot p (s.pot p).staled) := setPot_agreed h rfl rfl rfl id
  unfold State.staleReading State.when
  dsimp only
  split
  · exact hset.trans (signalLost_agreed hset.agrees)
  · exact hset

theorem freshReading_agreed {st : ReadStatus} : StaysAgreed s (s.freshReading p v st) := by
  have htaken : StaysAgreed s (s.readingTaken p v st) := by
    have hfresh : ∀ (x : Pot) now current shift emf, (x.fresh v st now current shift emf).fitted = x.fitted
        ∧ (x.fresh v st now current shift emf).cutOut = x.cutOut
        ∧ (x.fresh v st now current shift emf).ae = x.ae := by
      intro x now current shift emf
      unfold Pot.fresh
      dsimp only
      split <;> exact ⟨rfl, rfl, rfl⟩
    obtain ⟨hfit, hcut, hae⟩ := hfresh (s.pot p) s.energy.time s.front.line.current (s.cfgN .filterShift)
      (s.cfgN .backEmf)
    exact setPot_agreed h hfit hcut (by rw [hae]) (fun ho => by rw [hae, ho])
  cases hf : (s.pot p).fitted with
  | false =>
    unfold State.freshReading
    dsimp only
    rw [hf]
    exact h.stays
  | true =>
    cases hc : (s.pot p).cutOut with
    | true =>
      rw [freshReading_of_cutOut hf v st hc]
      exact htaken
    | false =>
      rw [freshReading_of_connected hf v st hc]
      exact htaken.trans (evalAe_agreed htaken.agrees)

theorem staleEntry_agreed {x : Pass} {fault : ScanFault} {n : Nat} : StaysAgreed s (s.staleEntry x fault n) := by
  have hall : StaysAgreed s (s.staleAll (s.scan.entry (s.scan.polled x))) :=
    StaysAgreed.foldl (fun _ _ hu => staleReading_agreed hu) h
  exact hall.touched touches_staleEntry_staleAll (by decide) (by decide) (by decide)

theorem freshEntry_agreed {x : Pass} {chans : List (Nat × Nat)} : StaysAgreed s (s.freshEntry x chans) := by
  unfold State.freshEntry
  dsimp only
  refine StaysAgreed.touched (l := [.scan, .host]) (StaysAgreed.foldl (fun u c hu => ?_) h)
    ((touches_nextPoll (by decide)).mpr (Touches.refl _ _)) (by decide) (by decide) (by decide)
  split
  · exact freshReading_agreed hu
  · exact freshReading_agreed hu

theorem moduleReply_agreed {bytes : List Byte} : StaysAgreed s (s.moduleReply bytes) := by
  unfold State.moduleReply
  split
  · exact h.stays
  · dsimp only
    split
    · exact staleEntry_agreed h
    · split
      · exact staleEntry_agreed h
      · exact freshEntry_agreed h

theorem pollExpiry_agreed : StaysAgreed s s.pollExpiry := by
  unfold State.pollExpiry
  split
  · exact h.stays
  · exact staleEntry_agreed h

/-! ### Timing on the boundaries (R60, R61) -/

theorem quenchRequest_agreed : StaysAgreed s (s.quenchRequest p) := by
  unfold State.quenchRequest
  dsimp only
  split
  · exact StaysAgreed.post (setPotAe_agreed h rfl id)
  · exact h.stays

theorem longAe_agreed : StaysAgreed s (s.longAe p) := by
  unfold State.longAe
  dsimp only
  split
  · exact StaysAgreed.post (setPotAe_agreed h rfl id)
  · exact h.stays

theorem ticked_agreed : StaysAgreed s (s.setPots (s.pots.map Pot.tick)) := by
  have hpot : ∀ q, (s.setPots (s.pots.map Pot.tick)).pot q = (s.pot q).tick := ticked_pot s
  have htick : ∀ x : Pot, x.tick.fitted = x.fitted ∧ x.tick.cutOut = x.cutOut ∧ x.tick.ae.state = x.ae.state := by
    intro x
    unfold Pot.tick
    split <;> exact ⟨rfl, rfl, rfl⟩
  refine ⟨⟨⟨(List.length_map _).trans h.whole.pots, h.whole.map⟩, h.follows.congr rfl rfl rfl rfl rfl,
    fun q hq => ?_⟩, fun q => ?_⟩
  · obtain ⟨hfit, hcut, hst⟩ := htick (s.pot q)
    obtain ⟨aflag, acut, afit⟩ := h.pot q hq
    rw [hpot]
    exact ⟨by rw [hst, ← aflag]; rfl, fun hx => hst.trans (acut (hcut ▸ hx)),
      fun hx => hst.trans (afit (hfit ▸ hx))⟩
  · obtain ⟨hfit, hcut, _⟩ := htick (s.pot q)
    rw [hpot]
    exact ⟨hfit, hcut⟩

theorem aeSample_agreed {apart : Bool} : StaysAgreed s (s.aeSample apart) := by
  have htick := ticked_agreed h
  unfold State.aeSample
  cases apart with
  | true => exact htick
  | false =>
    refine htick.trans ?_
    have hq : ∀ xs : List Nat, StaysAgreed _ (xs.foldl State.quenchRequest _) := fun _ =>
      StaysAgreed.foldl (fun _ _ hu => quenchRequest_agreed hu) htick.agrees
    exact (hq _).trans (StaysAgreed.foldl (fun _ _ hu => longAe_agreed hu) (hq _).agrees)

end

end Sys2Proof.Machine
end

section
/-! PROOFS. Every step keeps the law of the anode effect map (O57; R52, R53, R63, R65, R66, R121): the operations that
change a pot's fitting or switching state, the resets, the settings store, and the pot switching procedure. -/

open Sys2Proof Sys2Proof.Machine

namespace Sys2Proof.Machine

/-! ### A pot made OUT, CONNECTED or fitted (R35, R53, R63) -/

theorem Pot.agrees_of_out {x : Pot} (h : x.ae.state = .out) : x.Agrees false :=
  ⟨by rw [h]; rfl, fun _ => h, fun _ => h⟩

theorem State.PotsAgree.setPot_of_flag {s : State} (h : s.PotsAgree) {p : Nat} {x : Pot} {b : Bool}
    (hb : s.ae.flag p = b) (hx : x.Agrees b) : (s.setPot p x).PotsAgree := h.setPot fun _ => hb ▸ hx

section
variable {s : State} (h : s.PotsAgree) {p : Nat} (hp : p ∈ potNumbers)
include h hp

/-- A pot that is not in an AE has no flag in the map (R65). -/
theorem State.PotsAgree.flag_of_out (hout : (s.pot p).ae.state = .out) : s.ae.flag p = false := by
  rw [(h.pot p hp).flag, hout]
  rfl

/-- An AE in progress closed, the pot then being OUT (R53, R63). -/
theorem closeIfInAe_agrees (c : EndCause) :
    (if (s.pot p).ae.state.inAe then s.closeAe p c .out else s).PotsAgree
      ∧ (if (s.pot p).ae.state.inAe then s.closeAe p c .out else s).ae.flag p = false := by
  obtain ⟨hp1, hp2⟩ := mem_pots.mp hp
  cases hin : (s.pot p).ae.state.inAe with
  | true =>
    obtain ⟨_, _, hflag, _⟩ := closeAe_closes (c := c) (nx := .out) h.whole hp1 hp2
    exact ⟨(closeAe_agreed h hin rfl).agrees, hflag⟩
  | false => exact ⟨h, (h.pot p hp).flag.trans hin⟩

/-- A pot cut out, or a pot that is fitted and CUT_OUT cut in (R63). -/
theorem changePot_agrees {cut : Bool}
    (hcut : cut = false → (s.pot p).fitted = true ∧ (s.pot p).cutOut = true) : (s.changePot p cut).PotsAgree := by
  unfold State.changePot
  cases cut with
  | true =>
    obtain ⟨ha, hflag⟩ := closeIfInAe_agrees h hp .cutOut
    exact ha.setPot_of_flag hflag (Pot.agrees_of_out rfl)
  | false =>
    obtain ⟨hfit, hout⟩ := hcut rfl
    refine h.setPot_of_flag (h.flag_of_out hp ((h.pot p hp).cutOut hout)) ⟨rfl, nofun, fun hf => ?_⟩
    rw [hfit] at hf
    cases hf

theorem installPot_agrees (t : List ScanEntry) : (s.installPot t p).PotsAgree := by
  obtain ⟨hflag, hcut, hfit⟩ := h.pot p hp
  unfold State.installPot
  dsimp only
  split
  · rename_i i _
    split
    · exact (setPot_agreed h (x := { s.pot p with entry := i }) rfl rfl rfl id).agrees
    · rename_i hf
      exact h.setPot_of_flag (h.flag_of_out hp (hfit (by simpa using hf))) ⟨rfl, nofun, nofun⟩
  · split
    · obtain ⟨ha, hoff⟩ := closeIfInAe_agrees h hp .signalLost
      exact ha.setPot_of_flag hoff (Pot.agrees_of_out rfl)
    · exact h

end

theorem foldl_keeps {α : Type} {P : State → Prop} {f : State → α → State} {xs : List α} {s : State}
    (hf : ∀ u, ∀ x ∈ xs, P u → P (f u x)) (h : P s) : P (xs.foldl f s) := by
  induction xs generalizing s with
  | nil => exact h
  | cons x xs ih => exact ih (fun u y hy => hf u y (List.mem_cons_of_mem _ hy)) (hf s x List.mem_cons_self h)

theorem installTable_agrees {s : State} (h : s.PotsAgree) (t : List ScanEntry) : (s.installTable t).PotsAgree :=
  foldl_keeps (P := State.PotsAgree) (fun _ _ hp hu => installPot_agrees hu hp t)
    (h.of_touches (l := [.scan]) ((touches_setScan (by decide)).mpr (Touches.refl _ s)) (by decide) (by decide)
      (by decide))

/-! ### Resets (R70, R181) -/

theorem aeLineReset_agrees {s : State} (h : s.PotsAgree) : s.aeLineReset.PotsAgree := by
  have hclosed := aeLineReset_closed h.whole.map h.whole.pots
  refine ⟨⟨hclosed.pots_length, hclosed.map_length⟩, ?_, fun p hp => ?_⟩
  · rw [aeLineReset_eq h.whole.pots]
    exact closeAes_follows h.follows _
  · obtain ⟨hflag, hcut, hfit⟩ := h.pot p hp
    rw [hclosed.pot p hp, hclosed.flag p hp]
    by_cases hx : p ∈ s.aesOpen
    · have hout := inAe_ne_out (mem_aesOpen.mp hx).2
      rw [if_pos hx, if_pos hx]
      exact ⟨rfl, fun hc => absurd (hcut hc) hout, fun hf => absurd (hfit hf) hout⟩
    · rw [if_neg hx, if_neg hx]
      exact ⟨hflag, hcut, hfit⟩

theorem lineReset_agrees {s : State} (h : s.PotsAgree) : s.lineResetDone.PotsAgree := by
  have hbegun : s.resetBegun.PotsAgree := h.of_touches touches_resetBegun (by decide) (by decide) (by decide)
  have hreset := aeLineReset_agrees hbegun
  obtain ⟨hpots, hae⟩ := lineResetDone_pots_ae s
  have hset : s.lineResetDone.settings = s.resetBegun.aeLineReset.settings := by
    rw [touches_lineResetDone.settings (by decide), Touches.settings (l := [.pots, .ae, .events])
      ((touches_aeLineReset (by decide)).mpr (Touches.refl _ _)) (by decide), touches_resetBegun.settings (by decide)]
  exact hreset.congr hpots (by rw [hae]) (hreset.follows.congr (by rw [hae]) (by rw [hae]) (by rw [hae]) (by rw [hae])
    (cfgN_congr hset _))

theorem afterReset_agrees (p : Pins) : (State.afterReset p).PotsAgree := by
  have hpot : ∀ q, (State.afterReset p).pot q = Pot.initial := fun q => by
    show (List.replicate 384 Pot.initial).getD (q - 1) Pot.initial = _
    rw [List.getD_eq_getElem?_getD, List.getElem?_replicate]
    split <;> rfl
  have hflag : ∀ q, (State.afterReset p).ae.flag q = false := fun q => by
    show ((List.replicate 12 0#32).getD ((q - 1) / 32) 0#32).getLsbD _ = false
    rw [List.getD_eq_getElem?_getD, List.getElem?_replicate]
    split <;> exact BitVec.getLsbD_zero
  refine ⟨⟨List.length_replicate, rfl⟩, ⟨?_, rfl, ?_⟩, fun q _ => ?_⟩
  · show 0 = aeMapCount (List.replicate 12 0#32)
    decide
  · rfl
  · rw [hpot, hflag]
    exact Pot.agrees_of_out rfl

/-! ### The settings store (R66, R172) -/

theorem aeHoldCount_apply {st : Settings} {i : Item} {v : Int} (hi : i ≠ .aeHoldCount) :
    (st.apply i v).get .aeHoldCount = st.get .aeHoldCount := by
  unfold Settings.apply
  dsimp only
  split
  · rw [Settings.get_put_ne _ _ (by decide), Settings.get_put_ne _ _ (Ne.symm hi)]
  · exact Settings.get_put_ne _ _ (Ne.symm hi)

theorem touches_itemEffect_of_ne_hold {s : State} {i : Item} {before : State} {v : Int} (hi : i ≠ .aeHoldCount) :
    Touches [.scan, .events, .stack, .cool, .sup, .energy, .reg, .link] s (s.itemEffect i before v) := by
  unfold State.itemEffect
  split
  case h_4 => exact absurd rfl hi
  all_goals simp (maxDischargeDepth := 9)

/-- A write of AE_HOLD_COUNT brings the hold flag into line, and no other write bears on the monitor (R66). -/
theorem writeItem_agreed {s : State} (h : s.PotsAgree) (i : Item) (v : Int) : StaysAgreed s (s.writeItem i v) := by
  unfold State.writeItem
  by_cases hi : i = .aeHoldCount
  · subst hi
    have hpots := evalHold_pots (s.setSettings (s.settings.apply .aeHoldCount v))
    refine ⟨h.congr hpots ?_ (evalHold_follows h.follows.count h.follows.lamp), .of_pots hpots⟩
    show (State.evalHold _).ae.map = _
    rw [evalHold_ae]
    rfl
  · have hstored : StaysAgreed s (s.setSettings (s.settings.apply i v)) := by
      refine ⟨h.congr rfl rfl (h.follows.congr rfl rfl rfl rfl ?_), .refl s⟩
      simp only [State.cfgN, State.cfg, State.setSettings_settings, aeHoldCount_apply hi]
    exact hstored.touched (touches_itemEffect_of_ne_hold hi) (by decide) (by decide) (by decide)

theorem writeItem_switching (s : State) (i : Item) (v : Int) :
    (s.writeItem i v).stack.switching = s.stack.switching := by
  have hlink : ∀ (u t : State), Touches [.scan, .ae, .events, .cool, .sup, .energy, .reg, .link] u t →
      t.stack.switching = u.stack.switching := fun u t ht => by rw [ht.stack (by decide)]
  unfold State.writeItem
  refine Eq.trans ?_ (show (s.setSettings (s.settings.apply i v)).stack.switching = _ from rfl)
  generalize s.setSettings (s.settings.apply i v) = u
  unfold State.itemEffect
  split
  case h_6 | h_7 => rfl
  all_goals exact hlink _ _ (by simp (maxDischargeDepth := 9))

/-! ### The law of the pot switching procedure (R121, R126) -/

/-- A procedure in progress, outside SETUP, has kind CUT_OUT or CUT_IN and a fitted pot, CUT_OUT on a cut-in. -/
structure State.SwitchSound (s : State) : Prop where
  running : s.sup.state ≠ .setup
  pot : s.stack.switching.pot ∈ potNumbers
  kind : s.stack.switching.kind ≠ .none
  fitted : (s.pot s.stack.switching.pot).fitted = true
  cutIn : s.stack.switching.kind = .cutIn → (s.pot s.stack.switching.pot).cutOut = true

/-- A request that names a pot finds it in the table and fitted (R121, R126). -/
theorem potKnown_iff {s : State} {p : Nat} :
    ¬ (!(decide (1 ≤ p ∧ p ≤ Config.pots) && (s.pot p).fitted)) = true
      ↔ p ∈ potNumbers ∧ (s.pot p).fitted = true := by
  simp only [mem_pots, Config.pots, Bool.not_eq_true', Bool.not_eq_false, Bool.and_eq_true, decide_eq_true_eq]

/-- The law in its two parts: the pot table with the map, and the procedure. -/
theorem mapKept_iff {s : State} :
    s.MapKept ↔ s.PotsAgree ∧ (s.stack.switching.inProgress = true → s.SwitchSound) := by
  constructor
  · intro h
    have hf := State.MapKept.follows h
    obtain ⟨hm, hl, _, _, _, hflag, hcut, hfit, hsw⟩ := h
    refine ⟨⟨⟨hl, hm⟩, hf, fun p hp => ⟨hflag p hp, hcut p hp, hfit p hp⟩⟩, fun hi => ?_⟩
    obtain ⟨h1, h2, h3, h4, h5⟩ := hsw hi
    exact ⟨h1, h2, h3, h4, h5⟩
  · rintro ⟨⟨⟨hl, hm⟩, ⟨hc, hla, hh⟩, hpot⟩, hsw⟩
    exact ⟨hm, hl, hc, hla, hh, fun p hp => (hpot p hp).flag, fun p hp => (hpot p hp).cutOut,
      fun p hp => (hpot p hp).notFitted, fun hi =>
        ⟨(hsw hi).running, (hsw hi).pot, (hsw hi).kind, (hsw hi).fitted, (hsw hi).cutIn⟩⟩

/-- From `s` to `t` the supervisor has not entered SETUP. -/
def State.KeepsOutOfSetup (s t : State) : Prop := t.sup.state = .setup → s.sup.state = .setup

theorem State.KeepsOutOfSetup.of_touches {s t : State} {l : List Block} (h : Touches l s t) (hb : .sup ∉ l) :
    s.KeepsOutOfSetup t := fun ht => by rw [← h.sup hb, ht]

theorem State.KeepsOutOfSetup.trans {s t u : State} (h : s.KeepsOutOfSetup t) (k : t.KeepsOutOfSetup u) :
    s.KeepsOutOfSetup u := fun hu => h (k hu)

theorem State.KeepsOutOfSetup.of_ne {s t : State} (h : t.sup.state ≠ .setup) : s.KeepsOutOfSetup t := fun ht =>
  absurd ht h

theorem State.KeepsOutOfSetup.of_state {s t : State} (h : t.sup.state = s.sup.state) : s.KeepsOutOfSetup t :=
  fun ht => h ▸ ht

namespace State.MapKept

variable {s t : State}

theorem agree (h : s.MapKept) : s.PotsAgree := (mapKept_iff.mp h).1

theorem sound (h : s.MapKept) (hi : s.stack.switching.inProgress = true) : s.SwitchSound := (mapKept_iff.mp h).2 hi

/-- In SETUP no procedure is in progress (R121). -/
theorem idle_of_setup (h : s.MapKept) (hs : s.sup.state = .setup) : s.stack.switching.phase = .none := by
  by_contra hp
  exact (h.sound (Switching.inProgress_iff.mpr hp)).running hs

theorem of_idle (h : t.PotsAgree) (hi : t.stack.switching.phase = .none) : t.MapKept :=
  mapKept_iff.mpr ⟨h, fun hp => absurd hi (Switching.inProgress_iff.mp hp)⟩

/-- What neither fits nor switches a pot, nor begins a procedure, nor enters SETUP keeps the law. -/
theorem carried (h : s.MapKept) (hp : StaysAgreed s t) (hsup : s.KeepsOutOfSetup t)
    (hsw : s.stack.switching.GoesOn t.stack.switching) : t.MapKept := by
  refine mapKept_iff.mpr ⟨hp.agrees, fun hi => ?_⟩
  obtain ⟨hwas, hpot, hkind⟩ := hsw hi
  obtain ⟨hrun, hmem, hk, hfit, hcut⟩ := h.sound hwas
  obtain ⟨sfit, scut⟩ := hp.same s.stack.switching.pot
  refine ⟨fun hs => hrun (hsup hs), by rw [hpot]; exact hmem, by rw [hkind]; exact hk, ?_, fun hc => ?_⟩
  · rw [hpot, sfit, hfit]
  · rw [hpot, scut, hcut (by rw [← hkind, hc])]

/-- What leaves the pots, the monitor and the settings as they are needs only keep out of SETUP and begin no
procedure. -/
theorem elsewhere {l : List Block} (h : s.MapKept) (ht : Touches l s t) (hsup : s.KeepsOutOfSetup t)
    (hsw : s.stack.switching.GoesOn t.stack.switching) (hp : .pots ∉ l := by decide) (ha : .ae ∉ l := by decide)
    (hs : .settings ∉ l := by decide) : t.MapKept :=
  h.carried (h.agree.stays.touched ht hp ha hs) hsup hsw

theorem of_touches {l : List Block} (h : s.MapKept) (ht : Touches l s t) (hp : .pots ∉ l) (ha : .ae ∉ l)
    (hs : .settings ∉ l) (hsup : .sup ∉ l) (hk : .stack ∉ l) : t.MapKept :=
  h.elsewhere ht (.of_touches ht hsup) (.of_eq (by rw [ht.stack hk])) hp ha hs

/-- What works on the ceiling stack alone, and begins no procedure, keeps the law. -/
theorem stacked (h : s.MapKept) (ht : Touches [.stack, .events] s t)
    (hsw : s.stack.switching.GoesOn t.stack.switching) : t.MapKept :=
  h.elsewhere ht (.of_touches ht (by decide)) hsw

/-- What works on the supervisor, the groups and the energy unit, and keeps out of SETUP, keeps the law. -/
theorem supervised (h : s.MapKept) (ht : Touches [.cool, .sup, .energy, .events, .reg, .link, .pins] s t)
    (hsup : s.KeepsOutOfSetup t) : t.MapKept :=
  h.elsewhere ht hsup (.of_eq (by rw [ht.stack (by decide)]))

theorem of_host (h : s.MapKept) (ht : Touches [.host] s t) : t.MapKept :=
  h.of_touches ht (by decide) (by decide) (by decide) (by decide) (by decide)

/-! ### Readings and timing (R42, R43, R60, R61) -/

/-- What stays agreed, and leaves the stack and the supervisor alone, keeps the law. -/
theorem agreed {l : List Block} (h : s.MapKept) (hp : StaysAgreed s t) (ht : Touches l s t)
    (hsup : .sup ∉ l := by decide) (hk : .stack ∉ l := by decide) : t.MapKept :=
  h.carried hp (.of_touches ht hsup) (.of_eq (by rw [ht.stack hk]))

/-! ### Pots fitted and switched (R35, R63, R121, R126) -/

theorem setScanTable (h : s.MapKept) (payload : List Byte) : (s.setScanTable payload).2.MapKept := by
  unfold State.setScanTable
  split
  · exact h
  · rename_i hs
    dsimp only
    split
    · exact h
    · have hidle := h.idle_of_setup (not_not.mp hs)
      dsimp only
      refine of_idle (installTable_agrees h.agree _) ?_
      rw [Touches.stack (l := [.scan, .pots, .ae, .events])
        ((touches_installTable (by decide)).mpr (Touches.refl _ s)) (by decide), hidle]

theorem potSwitchDone (h : s.MapKept) : s.potSwitchDone.2.MapKept := by
  unfold State.potSwitchDone
  dsimp only
  split
  · rename_i hr
    obtain ⟨_, hmem, hkind, hfit, hcut⟩ :=
      h.sound (Switching.inProgress_iff.mpr (by rw [hr]; decide))
    have hpots : (s.changePot s.stack.switching.pot (s.stack.switching.kind == .cutOut)).PotsAgree := by
      refine changePot_agrees h.agree hmem fun hk => ⟨hfit, hcut ?_⟩
      cases hkd : s.stack.switching.kind with
      | none => exact absurd hkd hkind
      | cutOut => rw [hkd] at hk; cases hk
      | cutIn => rfl
    refine of_idle (hpots.of_touches (l := [.stack, .events])
      ((touches_endSwitch (by decide)).mpr (Touches.refl _ _)) (by decide) (by decide) (by decide)) ?_
    rw [endSwitch_switching]
  · exact h

theorem setPotState (h : s.MapKept) (payload : List Byte) : (s.setPotState payload).2.MapKept := by
  unfold State.setPotState
  extract_lets p code
  split
  · exact h
  · split
    · exact h
    · rename_i hp
      split
      · exact h
      · rename_i hs
        split
        · exact h
        · rename_i hc
          have hidle := h.idle_of_setup (not_not.mp hs)
          obtain ⟨hmem, hfit⟩ := potKnown_iff.mp hp
          have hpots : (s.changePot p (code == 1)).PotsAgree := by
            refine changePot_agrees h.agree hmem fun hk => ⟨hfit, ?_⟩
            rw [hk] at hc
            exact Bool.eq_true_of_not_eq_false fun hn => hc hn.symm
          have ht : Touches [.pots, .ae, .events] s ((s.changePot p (code == 1)).postSwitch p [4, code]) :=
            (touches_postSwitch (by decide)).mpr ((touches_changePot (by decide)).mpr (Touches.refl _ s))
          refine of_idle (hpots.of_touches (l := [.events]) ((touches_postSwitch (by decide)).mpr (Touches.refl _ _))
            (by decide) (by decide) (by decide)) ?_
          rw [ht.stack (by decide), hidle]

/-- A procedure begins outside SETUP, on a fitted pot, which is CUT_OUT on a cut-in (R121). -/
theorem beginSwitch (h : s.MapKept) (p : Nat) {kind : SwitchKind} (hkind : kind ≠ .none) :
    (s.beginSwitch p kind).2.MapKept := by
  unfold State.beginSwitch
  extract_lets x id s1 _ s2
  split
  · exact h
  · rename_i hp
    obtain ⟨hmem, hfit⟩ := potKnown_iff.mp hp
    split
    · exact h
    · rename_i hw
      split
      · exact h
      · split
        · exact h
        · have ht : Touches [.stack, .events] s (s2.postSwitch p [1]) := by simp [s2, s1]
          refine mapKept_iff.mpr ⟨h.agree.of_touches ht (by decide) (by decide) (by decide), fun _ =>
            ⟨fun hs => ?_, hmem, hkind, hfit, fun hc => ?_⟩⟩
          · have hr : s.regulating = false := by simp [State.regulating, show s.sup.state = .setup from hs]
            simp [hr] at hw
          · have hc : kind = .cutIn := hc
            simp only [hc, Bool.or_eq_true, not_or] at hw
            obtain ⟨_, hout⟩ := hw
            show x.cutOut = true
            simpa using hout

theorem potSwitch (h : s.MapKept) (payload : List Byte) : (s.potSwitch payload).2.MapKept := by
  unfold State.potSwitch
  split
  · exact h.beginSwitch _ (by decide)
  · exact h.beginSwitch _ (by decide)
  · exact h

theorem endSwitch (h : s.MapKept) (cause : SwitchEnd) : (s.endSwitch cause).MapKept :=
  h.stacked ((touches_endSwitch (by decide)).mpr (Touches.refl _ s)) (.of_ended (by rw [endSwitch_switching]))

theorem potSwitchAbort (h : s.MapKept) : s.potSwitchAbort.2.MapKept := by
  unfold State.potSwitchAbort
  split
  · exact h.endSwitch _
  · exact h

/-! ### Resets -/

theorem lineReset (h : s.MapKept) : s.lineReset.2.MapKept := by
  rw [lineReset_done]
  dsimp only
  refine of_idle (lineReset_agrees h.agree) ?_
  rw [lineResetDone_stack]
  dsimp only
  split
  · assumption
  · rfl

theorem deviceReset (s : State) (p : Pins) : (s.deviceReset p).MapKept := by
  have ht : Touches [.sup, .events, .link, .reg, .pending, .free] (State.afterReset p) (s.deviceReset p) := by
    unfold State.deviceReset
    refine (touches_safeIfAsserted (by decide)).mpr fun b hb => ?_
    cases b <;> first | rfl | exact absurd hb (by decide)
  refine of_idle ((afterReset_agrees p).of_touches ht (by decide) (by decide) (by decide)) ?_
  rw [ht.stack (by decide)]
  rfl

/-! ### The settings store -/

theorem writeItem (h : s.MapKept) (i : Item) (v : Int) : (s.writeItem i v).MapKept :=
  h.carried (writeItem_agreed h.agree i v) (.of_state (writeItem_sup_state s i v))
    (.of_eq (writeItem_switching s i v))

theorem setItems (h : s.MapKept) (payload : List Byte) (eng : Bool) : (s.setItems payload eng).2.MapKept := by
  unfold State.setItems
  extract_lets count code pairs a
  split
  · exact h
  · split
    · exact h
    · have hrun : ∀ (xs : List (Item × Int)) (b : Applied), b.state.MapKept →
          (xs.foldl (Applied.step eng) b).state.MapKept := by
        intro xs
        induction xs with
        | nil => exact fun _ hb => hb
        | cons x xs ih =>
          intro b hb
          refine ih _ ?_
          unfold Applied.step
          split
          · exact hb.writeItem x.1 x.2
          · exact hb
      exact hrun _ _ h

end State.MapKept

/-! ### The supervisor keeps out of SETUP (R4, R8 to R13) -/

theorem safeIfAsserted_keeps (s : State) : s.KeepsOutOfSetup s.safeIfAsserted := by
  unfold State.safeIfAsserted
  split
  · exact .of_ne (by rw [enterSafe_sup]; exact fun h => nomatch h)
  · exact .of_state rfl

theorem registerSafe_keeps (s : State) (level : Bool) : s.KeepsOutOfSetup (s.registerSafe level) :=
  safeIfAsserted_keeps (s.setSup { s.sup with safeLevel := level, safeRun := 0 })

theorem readSafe_keeps (s : State) (pin apart : Bool) : s.KeepsOutOfSetup (s.readSafe pin apart) := by
  unfold State.readSafe
  extract_lets n
  split
  · exact registerSafe_keeps s pin
  · exact .of_state rfl

theorem lossTimeout_keeps (s : State) : s.KeepsOutOfSetup s.lossTimeout := by
  unfold State.lossTimeout
  split
  · exact .of_ne (by rw [enterSafe_sup]; exact fun h => nomatch h)
  · exact .of_state rfl

theorem measurementHold_keeps (s : State) : s.KeepsOutOfSetup s.measurementHold := by
  unfold State.measurementHold
  split
  · exact .of_ne (by rw [postSupState_sup]; exact fun h => nomatch h)
  · exact .of_state rfl

theorem holdRequest_keeps (s : State) : s.KeepsOutOfSetup s.holdRequest.2 := by
  unfold State.holdRequest
  split
  · exact .of_ne (by rw [postSupState_sup]; exact fun h => nomatch h)
  all_goals exact .of_state rfl

theorem releaseRequest_keeps (s : State) : s.KeepsOutOfSetup s.releaseRequest.2 := by
  unfold State.releaseRequest
  split
  · split
    · exact .of_state rfl
    · exact .of_ne (by rw [postSupState_sup]; exact fun h => nomatch h)
  · exact .of_state rfl

theorem runRequest_keeps (s : State) : s.KeepsOutOfSetup s.runRequest.2 := by
  by_cases hs : s.sup.state = .setup
  · exact fun _ => hs
  · rw [runRequest_of_not_setup hs]
    exact .of_state rfl

theorem notice_keeps (s : State) (before : Carriage) (cause : Bool) :
    s.KeepsOutOfSetup (s.notice before cause) := .of_state (notice_sup_state s before cause)

theorem groupReply_keeps (s : State) (bytes : List Byte) : s.KeepsOutOfSetup (s.groupReply bytes) := by
  unfold State.groupReply State.takeReply
  dsimp only
  repeat' split
  all_goals first
    | exact .of_state rfl
    | refine State.KeepsOutOfSetup.trans (.of_touches (l := [.cool, .link, .events]) ?_ (by decide))
        (notice_keeps _ _ _)
      simp

theorem windowExpiry_keeps (s : State) : s.KeepsOutOfSetup s.windowExpiry := by
  unfold State.windowExpiry
  split
  · exact .of_state rfl
  · exact .of_state rfl
  · dsimp only
    refine State.KeepsOutOfSetup.trans (.of_touches (l := [.link, .events]) ?_ (by decide)) (notice_keeps _ _ _)
    rw [touches_outcomeTaken (by decide)]
    split <;> simp

theorem tripEvent_keeps (s : State) (g : Group) (level : Bool) : s.KeepsOutOfSetup (s.tripEvent g level) := by
  unfold State.tripEvent
  dsimp only
  split
  · exact .of_state rfl
  · split
    · refine State.KeepsOutOfSetup.trans (.of_touches (l := [.link, .pins, .events, .cool]) ?_ (by decide))
        (notice_keeps _ _ _)
      simp
    · exact .of_touches (l := [.link, .pins]) (by simp) (by decide)

/-! ### The boundary (R28) -/

theorem lineSample_keeps (s : State) (b : Boundary) : s.KeepsOutOfSetup (s.lineSample b) :=
  State.KeepsOutOfSetup.trans (.of_touches (l := [.ticks, .pins, .energy, .front, .events]) (by
    show Touches _ s ((s.beginBoundary b).advanceClock.frontSample b.conversions)
    simp) (by decide)) (measurementHold_keeps _)

theorem readInputs_keeps (s : State) (b : Boundary) : s.KeepsOutOfSetup (s.readInputs b) :=
  State.KeepsOutOfSetup.trans (.of_touches (l := [.stack, .events])
    ((touches_readUtility (by decide)).mpr (Touches.refl _ s)) (by decide))
    ((readSafe_keeps _ b.safe b.apart).trans (.of_touches (l := [.host])
      ((touches_readKey (by decide)).mpr (Touches.refl _ _)) (by decide)))

theorem readInputs_switching (s : State) (b : Boundary) : (s.readInputs b).stack.switching = s.stack.switching := by
  have ht : Touches [.sup, .events, .link, .reg, .host] (s.readUtility b.utility b.apart) (s.readInputs b) :=
    (touches_readKey (by decide)).mpr ((touches_readSafe (by decide)).mpr (Touches.refl _ _))
  rw [ht.stack (by decide), readUtility_switching]

namespace State.MapKept

variable {s : State}

theorem boundary (h : s.MapKept) (b : Boundary) : (s.boundary b).MapKept := by
  have hline : (s.lineSample b).MapKept := h.elsewhere (l := [.ticks, .pins, .energy, .front, .events, .sup])
    ((touches_lineSample (by decide)).mpr (Touches.refl _ s)) (lineSample_keeps s b)
    (.of_eq (by rw [Touches.stack ((touches_lineSample (List.Subset.refl _)).mpr (Touches.refl _ s)) (by decide)]))
  have henergy : ((s.lineSample b).energySample b.apart).MapKept := hline.of_touches (l := [.energy, .events])
    ((touches_energySample (by decide)).mpr (Touches.refl _ _)) (by decide) (by decide) (by decide) (by decide)
    (by decide)
  have hsampled : (s.boundarySampled b).MapKept := henergy.stacked
    ((touches_stackSample (by decide)).mpr (Touches.refl _ _)) (stackSample_goesOn _ _)
  have hread : (s.boundaryRead b).MapKept := hsampled.elsewhere touches_boundaryRead (readInputs_keeps _ b)
    (.of_eq (readInputs_switching _ b))
  have htimed : (s.boundaryTimed b).MapKept := hread.agreed (l := [.pots, .events]) (aeSample_agreed hread.agree)
    ((touches_aeSample (by decide)).mpr (Touches.refl _ _))
  have hscan : Touches [.scan, .cool, .energy, .events, .reg, .link] (s.boundaryTimed b) (s.boundary b) := by
    rw [boundary_eq]
    exact (touches_evalLoops (by decide)).mpr ((touches_scanSample (by decide)).mpr (Touches.refl _ _))
  exact htimed.of_touches hscan (by decide) (by decide) (by decide) (by decide) (by decide)

theorem registerUtility (h : s.MapKept) (level : Bool) : (s.registerUtility level).MapKept :=
  h.stacked ((touches_registerUtility (by decide)).mpr (Touches.refl _ s))
    (.of_eq (registerUtility_switching s level))

theorem closePeriod (h : s.MapKept) : s.closePeriod.2.MapKept := by
  have hp : StaysAgreed s s.closePeriod.2 :=
    ⟨h.agree.congr rfl rfl (h.agree.follows.congr rfl rfl rfl rfl rfl), .of_pots rfl⟩
  exact h.agreed (l := [.energy, .ae]) hp ((touches_closePeriod (by decide)).mpr (Touches.refl _ s))

end State.MapKept

/-! ### Every step (O57) -/

theorem exec_mapKept {c : Instr} {s t : State} (h : s.MapKept) (he : exec c s = .next t) : t.MapKept := by
  have hh : ∀ u v : State, Touches [.host] u v → u.MapKept → v.MapKept := fun _ _ ht hu => hu.of_host ht
  cases c with
  | deviceReset p => cases he; exact State.MapKept.deviceReset s p
  | lineReset => cases he; exact serve_keeps hh (fun _ _ _ hu => hu.lineReset) h
  | setItems => cases he; exact serve_keeps hh (fun payload eng _ hu => hu.setItems payload eng) h
  | setScanTable => cases he; exact serve_keeps hh (fun payload _ _ hu => hu.setScanTable payload) h
  | run =>
    cases he
    exact serve_keeps hh (fun _ _ u hu => hu.supervised ((touches_runRequest (by decide)).mpr (Touches.refl _ u))
      (runRequest_keeps u)) h
  | hold =>
    cases he
    exact serve_keeps hh (fun _ _ u hu => hu.supervised ((touches_holdRequest (by decide)).mpr (Touches.refl _ u))
      (holdRequest_keeps u)) h
  | release =>
    cases he
    exact serve_keeps hh (fun _ _ u hu => hu.supervised ((touches_releaseRequest (by decide)).mpr (Touches.refl _ u))
      (releaseRequest_keeps u)) h
  | pushCeiling =>
    cases he
    exact serve_keeps hh (fun payload eng u hu => hu.stacked ((touches_pushCeiling (by decide)).mpr (Touches.refl _ u))
      (.of_eq (pushCeiling_switching u payload eng))) h
  | popCeiling =>
    cases he
    exact serve_keeps hh (fun _ eng u hu => hu.stacked ((touches_popCeiling (by decide)).mpr (Touches.refl _ u))
      (.of_eq (popCeiling_switching u eng))) h
  | removeCeiling =>
    cases he
    exact serve_keeps hh (fun payload _ u hu => hu.stacked
      ((touches_removeCeiling (by decide)).mpr (Touches.refl _ u)) (.of_eq (removeCeiling_switching u payload))) h
  | potSwitch => cases he; exact serve_keeps hh (fun payload _ _ hu => hu.potSwitch payload) h
  | potSwitchDone => cases he; exact serve_keeps hh (fun _ _ _ hu => hu.potSwitchDone) h
  | potSwitchAbort => cases he; exact serve_keeps hh (fun _ _ _ hu => hu.potSwitchAbort) h
  | setPotState => cases he; exact serve_keeps hh (fun payload _ _ hu => hu.setPotState payload) h
  | closePeriod => cases he; exact serve_keeps hh (fun _ _ _ hu => hu.closePeriod) h
  | lineSample b | lineMeasRecovery b =>
    have e : s.boundary b = t := by injection he
    exact e ▸ h.boundary b
  | safeInputEvent level =>
    cases he
    split
    · exact h.supervised ((touches_registerSafe (by decide)).mpr (Touches.refl _ s)) (registerSafe_keeps s level)
    · exact h
  | groupLossTimeout =>
    cases he
    exact h.supervised ((touches_lossTimeout (by decide)).mpr (Touches.refl _ s)) (lossTimeout_keeps s)
  | tripInputEvent g level =>
    cases he
    exact h.supervised ((touches_tripEvent (by decide)).mpr (Touches.refl _ s)) (tripEvent_keeps s g level)
  | groupReply bytes =>
    cases he
    exact h.supervised ((touches_groupReply (by decide)).mpr (Touches.refl _ s)) (groupReply_keeps s bytes)
  | replyWindowExpiry =>
    cases he
    exact h.supervised ((touches_windowExpiry (by decide)).mpr (Touches.refl _ s)) (windowExpiry_keeps s)
  | utilityInputChange level =>
    cases he
    split
    · exact h.registerUtility level
    · exact h
  | stackEntryExpired id =>
    cases he
    exact h.stacked ((touches_expireEntry (by decide)).mpr (Touches.refl _ s)) (.of_eq (removeEntry_switching s _ _))
  | switchTimeout =>
    cases he
    exact h.stacked ((touches_switchTimeout (by decide)).mpr (Touches.refl _ s)) (switchTimeout_goesOn s)
  | moduleReply bytes =>
    cases he
    exact h.agreed (moduleReply_agreed h.agree) ((touches_moduleReply (List.Subset.refl _)).mpr (Touches.refl _ s))
  | pollWindowExpiry =>
    cases he
    exact h.agreed (pollExpiry_agreed h.agree) ((touches_pollExpiry (List.Subset.refl _)).mpr (Touches.refl _ s))
  | quenchRequest p =>
    cases he
    split
    · exact h.agreed (quenchRequest_agreed h.agree)
        ((touches_quenchRequest (List.Subset.refl _)).mpr (Touches.refl _ s))
    · exact h
  | aeLong p =>
    cases he
    split
    · exact h.agreed (longAe_agreed h.agree)
        ((touches_longAe (List.Subset.refl _)).mpr (Touches.refl _ s))
    · exact h
  | _ =>
    exact h.of_touches (exec_touches he) (by simp [commandBlocks]) (by simp [commandBlocks]) (by simp [commandBlocks])
      (by simp [commandBlocks]) (by simp [commandBlocks])

end Sys2Proof.Machine

/-- Settles O57: each command's operations keep the pots, the map and the pot switching procedure in step, and idling
changes nothing. -/
theorem everyStepKeepsTheAeMap : Obligations.EveryStepKeepsTheAeMap := by
  unfold Obligations.EveryStepKeepsTheAeMap
  intro s t h hstep
  unfold step at hstep
  split at hstep
  · cases hstep
    exact h
  · rename_i rest _
    exact exec_mapKept (s := { s with pending := rest }) h hstep
end

section
/-! PROOFS. The timers of the anode effects, QUENCH_REQUEST and AE_LONG (O43; R60, R61). -/

open Sys2Proof Sys2Proof.Machine

namespace Sys2Proof.Machine

/-! ### Reports made one pot at a time -/

/-- The record of pot `q`, the settings and the events about pot `q` stand from `s` to `t`. -/
structure PotStands (q : Nat) (s t : State) : Prop where
  pot : t.pot q = s.pot q
  settings : t.settings = s.settings
  events : Leaves (fun _ n => n == q) s t

section
variable {s t u : State} {p q : Nat}

theorem PotStands.refl (q : Nat) (s : State) : PotStands q s s := ⟨rfl, rfl, .refl _ s⟩

theorem PotStands.trans (h : PotStands q s t) (k : PotStands q t u) : PotStands q s u :=
  ⟨k.pot.trans h.pot, k.settings.trans h.settings, h.events.trans k.events⟩

theorem PotStands.tells {k : EventKind} {fields : List (List Byte)} (h : PotStands q s t)
    (ht : s.Tells k q fields) : t.Tells k q fields := h.events.tells (beq_self_eq_true q) ht

/-- A report about another pot. -/
theorem potStands_report {k : EventKind} {a : PotAe} {fields : List (List Byte)} (hp : 1 ≤ p) (hq : 1 ≤ q)
    (hne : p ≠ q) : PotStands q s ((s.setPotAe p a).post k p fields) :=
  ⟨pot_setPot_ne s _ hp hq hne.symm, rfl, leaves_post (leaves_setPotAe (.refl _ s)) (beq_false_of_ne hne)⟩

theorem foldl_stands {f : State → Nat → State} {xs : List Nat}
    (hf : ∀ u, ∀ p ∈ xs, PotStands q u (f u p)) : PotStands q s (xs.foldl f s) := by
  induction xs generalizing s with
  | nil => exact .refl q s
  | cons p xs ih =>
    exact (hf s p List.mem_cons_self).trans (ih fun u y hy => hf u y (List.mem_cons_of_mem _ hy))

theorem mem_potsWhere {f : Pot → Bool} (hinit : f Pot.initial = false) :
    p ∈ potsWhere f 1 s.pots ↔ 1 ≤ p ∧ f (s.pot p) = true := by
  rw [potsWhere_eq, List.mem_filter, List.mem_range'_1]
  refine ⟨fun ⟨⟨hp, _⟩, hf⟩ => ⟨hp, hf⟩, fun ⟨hp, hf⟩ => ⟨⟨hp, ?_⟩, hf⟩⟩
  by_contra hlen
  rw [pot_of_gt (by omega), hinit] at hf
  exact Bool.false_ne_true hf

/-- Reports made of every pot for which they are due, one pot at a time: seen from pot `q`, its own is made once, and
nothing else happens. -/
theorem reports_once {f : State → Nat → State} {due : Pot → Bool} (hinit : due Pot.initial = false) (hq : 1 ≤ q)
    (hidle : due (s.pot q) = false → f s q = s)
    (hf : ∀ u p, 1 ≤ p → p ≠ q → PotStands q u (f u p)) :
    ∃ u, PotStands q s u ∧ PotStands q (f u q) ((potsWhere due 1 s.pots).foldl f s) := by
  have hothers : ∀ xs : List Nat, xs ⊆ potsWhere due 1 s.pots → q ∉ xs →
      ∀ u, PotStands q u (xs.foldl f u) := fun xs hxs hqx u =>
    foldl_stands fun v p hp => hf v p ((mem_potsWhere hinit).mp (hxs hp)).1 fun hpq => hqx (hpq ▸ hp)
  cases hdue : due (s.pot q) with
  | false =>
    have hnot : q ∉ potsWhere due 1 s.pots := fun hm => by
      rw [((mem_potsWhere hinit).mp hm).2] at hdue
      exact Bool.false_ne_true hdue.symm
    exact ⟨s, .refl q s, (hidle hdue).symm ▸ hothers _ (List.Subset.refl _) hnot s⟩
  | true =>
    have hnodup : (potsWhere due 1 s.pots).Nodup := potsWhere_eq due 1 s.pots ▸ List.Nodup.filter _ List.nodup_range'
    obtain ⟨before, after, hsplit⟩ := List.append_of_mem ((mem_potsWhere hinit).mpr ⟨hq, hdue⟩)
    rw [hsplit] at hnodup hothers ⊢
    obtain ⟨_, hcons, hdisj⟩ := List.nodup_append.mp hnodup
    have hbefore : q ∉ before := fun hm => hdisj q hm q List.mem_cons_self rfl
    have hafter : q ∉ after := (List.nodup_cons.mp hcons).1
    refine ⟨before.foldl f s, hothers before (List.subset_append_left _ _) hbefore s, ?_⟩
    rw [List.foldl_append, List.foldl_cons]
    exact hothers after (fun x hx => List.mem_append_right _ (List.mem_cons_of_mem _ hx)) hafter _

/-! ### The two reports (R60, R61) -/

theorem quenchDue_iff {a : PotAe} {delay : Nat} : a.quenchDue delay = true
    ↔ (a.state = .active ∨ a.state = .recovering) ∧ a.quench = false ∧ delay * 10 ≤ a.timer := by
  unfold PotAe.quenchDue
  cases a.state <;> simp [AeState.inAe]

theorem longDue_iff {a : PotAe} {long : Nat} : a.longDue long = true
    ↔ (a.state = .active ∨ a.state = .recovering) ∧ a.long = false ∧ long * 10 ≤ a.timer := by
  unfold PotAe.longDue
  cases a.state <;> simp [AeState.inAe]

theorem quenchRequest_due (h : (s.pot q).ae.quenchDue (s.cfgN .quenchDelay) = true) : s.quenchRequest q
    = (s.setPotAe q { (s.pot q).ae with quench := true }).post .quenchRequest q [beBytes 4 (s.pot q).ae.timer] :=
  if_pos h

theorem quenchRequest_not_due (h : (s.pot q).ae.quenchDue (s.cfgN .quenchDelay) = false) : s.quenchRequest q = s :=
  if_neg (Bool.eq_false_iff.mp h)

theorem longAe_due (h : (s.pot q).ae.longDue (s.cfgN .aeLong) = true) : s.longAe q
    = (s.setPotAe q { (s.pot q).ae with long := true }).post .aeLong q [beBytes 4 (s.pot q).ae.timer] :=
  if_pos h

theorem longAe_not_due (h : (s.pot q).ae.longDue (s.cfgN .aeLong) = false) : s.longAe q = s :=
  if_neg (Bool.eq_false_iff.mp h)

theorem potStands_quenchRequest (hp : 1 ≤ p) (hq : 1 ≤ q) (hne : p ≠ q) : PotStands q s (s.quenchRequest p) := by
  cases hdue : (s.pot p).ae.quenchDue (s.cfgN .quenchDelay) with
  | true =>
    rw [quenchRequest_due hdue]
    exact potStands_report hp hq hne
  | false =>
    rw [quenchRequest_not_due hdue]
    exact .refl q s

theorem potStands_longAe (hp : 1 ≤ p) (hq : 1 ≤ q) (hne : p ≠ q) : PotStands q s (s.longAe p) := by
  cases hdue : (s.pot p).ae.longDue (s.cfgN .aeLong) with
  | true =>
    rw [longAe_due hdue]
    exact potStands_report hp hq hne
  | false =>
    rw [longAe_not_due hdue]
    exact .refl q s

/-- A pot in an AE stands in the table. -/
theorem inTable_of_inAe (h : (s.pot q).ae.state = .active ∨ (s.pot q).ae.state = .recovering) :
    q - 1 < s.pots.length := by
  by_contra hlen
  rw [pot_of_gt (Nat.le_of_not_lt hlen)] at h
  exact absurd h (by decide)

theorem setPotAe_self {a : PotAe} (h : (s.pot q).ae.state = .active ∨ (s.pot q).ae.state = .recovering) :
    (s.setPotAe q a).pot q = { s.pot q with ae := a } := by
  unfold State.setPotAe
  rw [pot_setPot, if_pos ⟨rfl, inTable_of_inAe h⟩]

/-- What a quench request tested for pot `q` makes of the pot, and the event when it is due (R60). -/
theorem quenchRequest_pot (s : State) (q : Nat) : (s.quenchRequest q).settings = s.settings
    ∧ (s.quenchRequest q).pot q = { s.pot q with ae := { (s.pot q).ae with
        quench := (s.pot q).ae.quench || (s.pot q).ae.quenchDue (s.cfgN .quenchDelay) } }
    ∧ ((s.pot q).ae.quenchDue (s.cfgN .quenchDelay) = true →
        (s.quenchRequest q).Tells .quenchRequest q [beBytes 4 (s.pot q).ae.timer]) := by
  cases hdue : (s.pot q).ae.quenchDue (s.cfgN .quenchDelay) with
  | true =>
    rw [quenchRequest_due hdue, Bool.or_true]
    exact ⟨rfl, setPotAe_self (quenchDue_iff.mp hdue).1, fun _ => tells_post_self⟩
  | false =>
    rw [quenchRequest_not_due hdue, Bool.or_false]
    exact ⟨rfl, rfl, fun h => absurd h Bool.false_ne_true⟩

/-- What AE_LONG tested for pot `q` makes of the pot, and the event when it is due (R61). -/
theorem longAe_pot (s : State) (q : Nat) : (s.longAe q).settings = s.settings
    ∧ (s.longAe q).pot q = { s.pot q with ae := { (s.pot q).ae with
        long := (s.pot q).ae.long || (s.pot q).ae.longDue (s.cfgN .aeLong) } }
    ∧ ((s.pot q).ae.longDue (s.cfgN .aeLong) = true →
        (s.longAe q).Tells .aeLong q [beBytes 4 (s.pot q).ae.timer]) := by
  cases hdue : (s.pot q).ae.longDue (s.cfgN .aeLong) with
  | true =>
    rw [longAe_due hdue, Bool.or_true]
    exact ⟨rfl, setPotAe_self (longDue_iff.mp hdue).1, fun _ => tells_post_self⟩
  | false =>
    rw [longAe_not_due hdue, Bool.or_false]
    exact ⟨rfl, rfl, fun h => absurd h Bool.false_ne_true⟩

/-! ### The monitor's part of a boundary -/

/-- The quench requests of a boundary made (R60). -/
def State.quenchesMade (s : State) : State :=
  (potsWhere (fun x => x.ae.quenchDue (s.cfgN .quenchDelay)) 1 s.pots).foldl State.quenchRequest s

/-- The AE_LONG reports of a boundary made (R61). -/
def State.longsMade (s : State) : State :=
  (potsWhere (fun x => x.ae.longDue (s.cfgN .aeLong)) 1 s.pots).foldl State.longAe s

theorem aeDue_eq (s : State) : s.aeDue = s.quenchesMade.longsMade := rfl

theorem quenchesMade_pot (hq : 1 ≤ q) : s.quenchesMade.settings = s.settings
    ∧ s.quenchesMade.pot q = { s.pot q with ae := { (s.pot q).ae with
        quench := (s.pot q).ae.quench || (s.pot q).ae.quenchDue (s.cfgN .quenchDelay) } }
    ∧ ((s.pot q).ae.quenchDue (s.cfgN .quenchDelay) = true →
        s.quenchesMade.Tells .quenchRequest q [beBytes 4 (s.pot q).ae.timer]) := by
  obtain ⟨u, hbefore, hafter⟩ := reports_once (due := fun x => x.ae.quenchDue (s.cfgN .quenchDelay)) rfl hq
    quenchRequest_not_due fun _ _ hp => potStands_quenchRequest hp hq
  obtain ⟨hset, hpot, htell⟩ := quenchRequest_pot u q
  rw [hbefore.pot, cfgN_congr hbefore.settings] at hpot htell
  exact ⟨hafter.settings.trans (hset.trans hbefore.settings), hafter.pot.trans hpot,
    fun hdue => hafter.tells (htell hdue)⟩

theorem longsMade_pot (hq : 1 ≤ q) : s.longsMade.pot q = { s.pot q with ae := { (s.pot q).ae with
        long := (s.pot q).ae.long || (s.pot q).ae.longDue (s.cfgN .aeLong) } }
    ∧ ((s.pot q).ae.longDue (s.cfgN .aeLong) = true →
        s.longsMade.Tells .aeLong q [beBytes 4 (s.pot q).ae.timer]) := by
  obtain ⟨u, hbefore, hafter⟩ := reports_once (due := fun x => x.ae.longDue (s.cfgN .aeLong)) rfl hq
    longAe_not_due fun _ _ hp => potStands_longAe hp hq
  obtain ⟨_, hpot, htell⟩ := longAe_pot u q
  rw [hbefore.pot, cfgN_congr hbefore.settings] at hpot htell
  exact ⟨hafter.pot.trans hpot, fun hdue => hafter.tells (htell hdue)⟩

theorem posts_longsMade (s : State) : Posts [.aeLong] s s.longsMade := by
  refine posts_foldl (.refl _ s) fun u p => ?_
  unfold State.longAe
  dsimp only
  split <;> simp

/-- Every report that is due made: what it makes of pot `q`, and what it tells (R60, R61). -/
theorem aeDue_pot (hq : 1 ≤ q) : s.aeDue.pot q = { s.pot q with ae := { (s.pot q).ae with
        quench := (s.pot q).ae.quench || (s.pot q).ae.quenchDue (s.cfgN .quenchDelay),
        long := (s.pot q).ae.long || (s.pot q).ae.longDue (s.cfgN .aeLong) } }
    ∧ ((s.pot q).ae.quenchDue (s.cfgN .quenchDelay) = true →
        s.aeDue.Tells .quenchRequest q [beBytes 4 (s.pot q).ae.timer])
    ∧ ((s.pot q).ae.longDue (s.cfgN .aeLong) = true →
        s.aeDue.Tells .aeLong q [beBytes 4 (s.pot q).ae.timer]) := by
  obtain ⟨hset, hquench, hqtell⟩ := quenchesMade_pot (s := s) hq
  obtain ⟨hlong, hltell⟩ := longsMade_pot (s := s.quenchesMade) hq
  rw [hquench, cfgN_congr hset] at hlong hltell
  exact ⟨hlong, fun hdue => (posts_longsMade _).tells (by decide) (hqtell hdue), hltell⟩

/-- The AE timer of a boundary, below the end of its range (R60). -/
theorem tick_of_lt {x : Pot} (h : x.ae.timer < 4294967295) : x.tick = { x with ae := { x.ae with
    timer := if (x.ae.state = .active ∨ x.ae.state = .recovering) ∨ x.ae.state = .pending then x.ae.timer + 1
      else x.ae.timer } } := by
  unfold Pot.tick satInc
  cases hst : x.ae.state <;> simp [AeState.timed, h]

/-! ### The boundary -/

theorem boundaryRead_pots_settings (s : State) (b : Boundary) :
    (s.boundaryRead b).pots = s.pots ∧ (s.boundaryRead b).settings = s.settings := by
  have h : Touches [.ticks, .pins, .energy, .front, .events, .sup, .stack, .host, .link, .reg] s (s.boundaryRead b) :=
    ((touches_lineSample (by decide)).mpr (Touches.refl _ s)).trans
      ((touches_boundarySampled.mono (by decide)).trans (touches_boundaryRead.mono (by decide)))
  exact ⟨h.pots (by decide), h.settings (by decide)⟩

theorem posts_boundaryTimed (s : State) (b : Boundary) : Posts loopKinds (s.boundaryTimed b) (s.boundary b) := by
  rw [boundary_eq]
  have hscan : Touches [.scan] (s.boundaryTimed b) ((s.boundaryTimed b).scanSample b.apart) :=
    (touches_scanSample (by decide)).mpr (Touches.refl _ _)
  exact (Posts.of_touches hscan (by decide)).trans (posts_evalLoops _ _)

theorem boundary_pot (s : State) (b : Boundary) (q : Nat) : (s.boundary b).pot q = (s.boundaryTimed b).pot q := by
  rw [boundary_eq]
  exact pot_congr (Touches.pots (l := [.scan, .cool, .energy, .events, .reg, .link])
    ((touches_evalLoops (by decide)).mpr ((touches_scanSample (by decide)).mpr (Touches.refl _ _))) (by decide)) q

/-- A boundary taken apart advances the AE timer of a pot and does no more to it (log 2). -/
theorem boundary_pot_apart {b : Boundary} (ha : b.apart = true) (s : State) (q : Nat) :
    (s.boundary b).pot q = (s.pot q).tick := by
  rw [boundary_pot]
  unfold State.boundaryTimed State.aeSample
  rw [ha]
  exact (ticked_pot _ q).trans (congrArg Pot.tick (pot_congr (boundaryRead_pots_settings s b).1 q))

/-- A boundary with its parts makes the reports that are due once the timer has been advanced (R60, R61). -/
theorem boundary_pot_whole {b : Boundary} (ha : b.apart = false) (hq : 1 ≤ q) {a : PotAe}
    (htick : (s.pot q).tick.ae = a) : (s.boundary b).pot q = { (s.pot q).tick with ae := { a with
        quench := a.quench || a.quenchDue (s.cfgN .quenchDelay), long := a.long || a.longDue (s.cfgN .aeLong) } }
    ∧ (a.quenchDue (s.cfgN .quenchDelay) = true → (s.boundary b).Tells .quenchRequest q [beBytes 4 a.timer])
    ∧ (a.longDue (s.cfgN .aeLong) = true → (s.boundary b).Tells .aeLong q [beBytes 4 a.timer]) := by
  obtain ⟨hpots, hset⟩ := boundaryRead_pots_settings s b
  let ticked := (s.boundaryRead b).setPots ((s.boundaryRead b).pots.map Pot.tick)
  have hticked : ticked.pot q = (s.pot q).tick :=
    (ticked_pot _ q).trans (congrArg Pot.tick (pot_congr hpots q))
  have htimed : s.boundaryTimed b = ticked.aeDue := by
    unfold State.boundaryTimed State.aeSample
    rw [ha]
    rfl
  obtain ⟨hpot, hquench, hlong⟩ := aeDue_pot (s := ticked) hq
  have hcfg : ∀ i, ticked.cfgN i = s.cfgN i := cfgN_congr hset
  rw [hticked, hcfg, hcfg, htick] at hpot
  rw [hticked, hcfg, htick, ← htimed] at hquench hlong
  have hposts := posts_boundaryTimed s b
  exact ⟨by rw [boundary_pot, htimed, hpot], fun h => hposts.tells (by decide) (hquench h),
    fun h => hposts.tells (by decide) (hlong h)⟩

end

end Sys2Proof.Machine

/-- Settles O43: seen from one pot, the reports of a boundary are the reports of that pot alone, made once. -/
theorem quenchAndLongAreReportedOncePerAe : Obligations.QuenchAndLongAreReportedOncePerAe := by
  unfold Obligations.QuenchAndLongAreReportedOncePerAe
  intro s q x inAe quench long
  have hexecQ : exec (.quenchRequest q) s = .next (if 1 ≤ q ∧ q ≤ 384 then s.quenchRequest q else s) := rfl
  have hexecL : exec (.aeLong q) s = .next (if 1 ≤ q ∧ q ≤ 384 then s.longAe q else s) := rfl
  refine ⟨fun h => ?_, fun h => ?_, fun h => ?_, fun h => ?_, fun hq1 hq hlt b => ⟨s.boundary b, rfl, ?_⟩⟩
  · obtain ⟨⟨hq1, hq, hst⟩, hclear, hdelay⟩ := h
    rw [hexecQ, if_pos ⟨hq1, hq⟩, quenchRequest_due (quenchDue_iff.mpr ⟨hst, hclear, hdelay⟩)]
    rfl
  · rw [hexecQ]
    split
    · rename_i hq
      exact congrArg Host.Outcome.next (quenchRequest_not_due (Bool.eq_false_iff.mpr fun hdue =>
        have ⟨hst, hclear, hdelay⟩ := quenchDue_iff.mp hdue
        h ⟨⟨hq.1, hq.2, hst⟩, hclear, hdelay⟩))
    · rfl
  · obtain ⟨⟨hq1, hq, hst⟩, hclear, hdelay⟩ := h
    rw [hexecL, if_pos ⟨hq1, hq⟩, longAe_due (longDue_iff.mpr ⟨hst, hclear, hdelay⟩)]
    rfl
  · rw [hexecL]
    split
    · rename_i hq
      exact congrArg Host.Outcome.next (longAe_not_due (Bool.eq_false_iff.mpr fun hdue =>
        have ⟨hst, hclear, hdelay⟩ := longDue_iff.mp hdue
        h ⟨⟨hq.1, hq.2, hst⟩, hclear, hdelay⟩))
    · rfl
  · intro active timer requests reports ticked
    have htick : (s.pot q).tick = { s.pot q with ae := ticked } := tick_of_lt hlt
    refine ⟨fun ha => (boundary_pot_apart ha s q).trans htick, fun ha => ?_⟩
    obtain ⟨hpot, hquench, hlong⟩ := boundary_pot_whole (s := s) (q := q) ha hq1 (a := ticked) (by rw [htick])
    have hrequests : ticked.quenchDue (s.cfgN .quenchDelay) = true ↔ requests := quenchDue_iff
    have hreports : ticked.longDue (s.cfgN .aeLong) = true ↔ reports := longDue_iff
    refine ⟨?_, fun h => hquench (hrequests.mpr h), fun h => hlong (hreports.mpr h)⟩
    have hrequestsB : ticked.quenchDue (s.cfgN .quenchDelay) = decide requests :=
      Bool.eq_iff_iff.mpr (hrequests.trans decide_eq_true_iff.symm)
    have hreportsB : ticked.longDue (s.cfgN .aeLong) = decide reports :=
      Bool.eq_iff_iff.mpr (hreports.trans decide_eq_true_iff.symm)
    rw [hpot, htick, hrequestsB, hreportsB]
end

section
/-! PROOFS. The ends of a pot switching procedure, SET_POT_STATE, and what a line sample makes of a procedure (O48;
R63, R122 to R124, R126). -/

open Sys2Proof Sys2Proof.Machine

namespace Sys2Proof.Machine

/-! ### SWITCHING entries that are gone (R112, R120, R124) -/

/-- When `p` picks one element at most, none of those left after its removal is picked. -/
theorem not_of_mem_eraseP {α : Type} {p : α → Bool} {xs : List α} (h : (xs.filter p).length ≤ 1) :
    ∀ x ∈ xs.eraseP p, p x = false := by
  induction xs with
  | nil => exact fun x hx => absurd hx List.not_mem_nil
  | cons y xs ih =>
    cases hy : p y with
    | true =>
      rw [List.filter_cons_of_pos hy, List.length_cons] at h
      rw [List.eraseP_cons_of_pos hy]
      have hnone : xs.filter p = [] := List.length_eq_zero_iff.mp (by omega)
      exact fun x hx => Bool.eq_false_iff.mpr (List.filter_eq_nil_iff.mp hnone x hx)
    | false =>
      rw [List.filter_cons_of_neg (by rw [hy]; exact Bool.false_ne_true)] at h
      rw [List.eraseP_cons_of_neg (by rw [hy]; exact Bool.false_ne_true)]
      intro x hx
      rcases List.mem_cons.mp hx with rfl | hx
      · exact hy
      · exact ih h x hx

section
variable {s : State}

theorem removeEntry_entries (s : State) (p : StackEntry → Bool) (x : StackChange) :
    (s.removeEntry p x).stack.entries = s.stack.entries.eraseP p := by
  unfold State.removeEntry
  split
  · rfl
  · rename_i h
    exact (List.eraseP_of_forall_not (by simpa using h)).symm

theorem endSwitch_entries (s : State) (cause : SwitchEnd) :
    (s.endSwitch cause).stack.entries = s.stack.entries.eraseP fun e => e.source == .switching :=
  removeEntry_entries s (fun e => e.source == .switching) .ended

/-- The end of a procedure leaves no SWITCHING entry when there was one at most (R124). -/
theorem endSwitch_none_left (h : s.stack.count .switching ≤ 1) (cause : SwitchEnd) :
    ∀ e ∈ (s.endSwitch cause).stack.entries, e.source ≠ .switching := by
  rw [endSwitch_entries]
  exact fun e he => bne_iff_ne.mp (by rw [bne, not_of_mem_eraseP h e he]; rfl)

/-- Lifetimes that are counted add no entry of a source (R117). -/
theorem livesCounted_count (s : State) (apart : Bool) (src : Source) :
    (s.livesCounted apart).stack.count src ≤ s.stack.count src := by
  have hticked : s.tickLives.stack.count src = s.stack.count src := by
    show ((s.stack.entries.map StackEntry.tick).filter _).length = _
    rw [List.filter_map, List.length_map]
    rfl
  unfold State.livesCounted
  cases apart with
  | true => exact hticked.le
  | false =>
    show s.tickLives.expireEntries.stack.count src ≤ _
    rw [expireEntries_stack, ← hticked]
    exact (List.filter_sublist.filter _).length_le

theorem evictOldest_subset (s : State) : s.evictOldest.stack.entries ⊆ s.stack.entries := by
  unfold State.evictOldest
  dsimp only
  split
  · exact List.Subset.refl _
  · split
    · exact fun e he => List.mem_reverse.mp (List.mem_of_mem_eraseP (List.mem_reverse.mp he))
    · exact List.Subset.refl _

theorem pushUtility_adds (s : State) :
    ∀ e ∈ s.pushUtility.stack.entries, e ∈ s.stack.entries ∨ e.source = .utility := by
  intro e he
  unfold State.pushUtility at he
  split at he
  · exact .inl he
  · rcases List.mem_cons.mp he with rfl | he
    · exact .inr rfl
    · exact .inl (evictOldest_subset s he)

/-- Reading the contact adds no entry but UTILITY (R120). -/
theorem readUtility_adds (s : State) (pin apart : Bool) :
    ∀ e ∈ (s.readUtility pin apart).stack.entries, e ∈ s.stack.entries ∨ e.source = .utility := by
  have register : ∀ level, ∀ e ∈ (s.registerUtility level).stack.entries,
      e ∈ s.stack.entries ∨ e.source = .utility := by
    intro level e he
    unfold State.registerUtility at he
    dsimp only at he
    cases level with
    | true =>
      rw [if_pos rfl] at he
      have hpushed := pushUtility_adds _ e he
      exact hpushed
    | false =>
      rw [if_neg Bool.false_ne_true, removeEntry_entries] at he
      exact .inl (List.mem_of_mem_eraseP he)
  unfold State.readUtility
  extract_lets k n m
  split
  · split
    · exact register false
    · exact fun e he => .inl he
  · split
    · exact register true
    · exact fun e he => .inl he

/-! ### What the ends tell (R186) -/

theorem endSwitch_tells (s : State) (cause : SwitchEnd) :
    (s.endSwitch cause).Tells .switch s.stack.switching.pot [[3#8], beBytes 1 cause.code] := by
  rw [← removeEntry_switching s (fun e => e.source == .switching) .ended]
  exact tells_post_self

theorem switchReadiness_tells (h : s.stack.switching.phase ≠ .none)
    (hne : s.stack.switching.phase ≠ switchPhase s.switchLow) : s.switchReadiness.Tells .switch
      s.stack.switching.pot [if s.switchLow then [2#8] else [1#8]] := by
  rw [switchReadiness_moves h hne]
  exact tells_post_self

theorem stackTimed_tells (h : s.stack.switching.phase ≠ .none)
    (hne : s.stack.switching.phase ≠ switchPhase s.switchLow) (apart : Bool) : (s.stackTimed apart).Tells .switch
      s.stack.switching.pot [if s.switchLow then [2#8] else [1#8]] := by
  have htick : Touches [.stack] (s.livesCounted apart).switchReadiness (s.stackTimed apart) :=
    (touches_tickSwitch (by decide)).mpr (Touches.refl _ _)
  have hw := livesCounted_switching s apart
  have hl := livesCounted_switchLow s apart
  rw [tells_congr (htick.events (by decide)), ← hw, ← hl]
  exact switchReadiness_tells (by rw [hw]; exact h) (by rw [hw, hl]; exact hne)

/-! ### A procedure at a boundary (R122) -/

/-- The state in which a boundary comes to the ceiling stack (log 2). -/
def State.boundaryMetered (s : State) (b : Boundary) : State := (s.lineSample b).energySample b.apart

theorem touches_boundaryMetered {b : Boundary} :
    Touches [.ticks, .pins, .energy, .front, .events, .sup] s (s.boundaryMetered b) :=
  (touches_energySample (by decide)).mpr ((touches_lineSample (by decide)).mpr (Touches.refl _ s))

theorem boundary_front_metered (s : State) (b : Boundary) : (s.boundary b).front = (s.boundaryMetered b).front := by
  have henergy : Touches [.energy, .events] (s.lineSample b) (s.boundaryMetered b) :=
    (touches_energySample (by decide)).mpr (Touches.refl _ _)
  rw [touches_boundaryLoops.front (by decide), touches_boundaryRead.front (by decide),
    touches_boundarySampled.front (by decide), henergy.front (by decide)]

theorem switchLow_iff : s.switchLow = true
    ↔ s.front.line.state ≠ .fault ∧ s.front.line.current ≤ s.cfgN .switchCeiling + s.cfgN .switchTol := by
  simp [State.switchLow]

/-- Readiness is tested on the line record that the boundary leaves (R122). -/
theorem boundaryMetered_switchLow (s : State) (b : Boundary) : (s.boundaryMetered b).switchLow = true
    ↔ (s.boundary b).front.line.state ≠ .fault
      ∧ (s.boundary b).front.line.current ≤ s.cfgN .switchCeiling + s.cfgN .switchTol := by
  have hset : (s.boundaryMetered b).settings = s.settings := touches_boundaryMetered.settings (by decide)
  rw [switchLow_iff, boundary_front_metered, cfgN_congr hset, cfgN_congr hset]

theorem boundary_stack (s : State) (b : Boundary) :
    (s.boundary b).stack = ((s.boundarySampled b).readUtility b.utility b.apart).stack := by
  have hread : Touches [.sup, .events, .link, .reg, .host] ((s.boundarySampled b).readUtility b.utility b.apart)
      (s.boundaryRead b) := (touches_readKey (by decide)).mpr ((touches_readSafe (by decide)).mpr (Touches.refl _ _))
  rw [touches_boundaryLoops.stack (by decide), hread.stack (by decide)]

theorem boundary_switching (s : State) (b : Boundary) : (s.boundary b).stack.switching
    = ((s.boundaryMetered b).stackSample b.apart).stack.switching := by
  rw [boundary_stack, readUtility_switching]
  rfl

/-- The kinds that a boundary can post once the stack has had its part. -/
def inputKinds : List EventKind :=
  [.utility, .stackChange, .supState, .safe, .quenchRequest, .aeLong] ++ loopKinds

theorem posts_boundaryInputs (s : State) (b : Boundary) :
    Posts inputKinds (s.boundarySampled b) (s.boundary b) := by
  have hread : Posts inputKinds (s.boundarySampled b) (s.boundaryRead b) :=
    Posts.trans (posts_readSafe (posts_readUtility (.refl _ _) (by decide)) (by decide)) (posts_readKey _ _ _ _)
  have htimed : Posts inputKinds (s.boundaryRead b) (s.boundaryTimed b) := (posts_aeSample _ _).mono (by decide)
  exact hread.trans (htimed.trans ((posts_boundaryTimed s b).mono (by decide)))

theorem boundary_tells_switch {b : Boundary} {n : Nat} {fields : List (List Byte)}
    (h : ((s.boundaryMetered b).stackSample b.apart).Tells .switch n fields) :
    (s.boundary b).Tells .switch n fields := (posts_boundaryInputs s b).tells (by decide) h

/-- A procedure that goes on: its phase follows the line, and a change of phase is told (R122). -/
theorem boundary_procedure_goes_on {b : Boundary} (h : s.stack.switching.phase ≠ .none)
    (hl : b.apart = true ∨ ¬ s.cfgN .switchTimeout * 10 ≤ s.stack.switching.timer + 1) :
    (s.boundary b).stack.switching = s.stack.switching.sampled (s.boundaryMetered b).switchLow
    ∧ (s.stack.switching.phase ≠ switchPhase (s.boundaryMetered b).switchLow →
        (s.boundary b).Tells .switch s.stack.switching.pot
          [if (s.boundaryMetered b).switchLow then [2#8] else [1#8]]) := by
  have hstack : (s.boundaryMetered b).stack = s.stack := touches_boundaryMetered.stack (by decide)
  have hset : (s.boundaryMetered b).settings = s.settings := touches_boundaryMetered.settings (by decide)
  rw [← hstack] at h hl ⊢
  rw [← cfgN_congr hset] at hl
  have hrun := stackSample_running h hl
  refine ⟨by rw [boundary_switching, hrun, stackTimed_stack h], fun hne => boundary_tells_switch ?_⟩
  rw [hrun]
  exact stackTimed_tells h hne b.apart

/-- A procedure whose timer reaches SWITCH_TIMEOUT at a boundary with its parts ends there (R122, R124). -/
theorem boundary_procedure_times_out {b : Boundary} (ha : b.apart = false) (hkept : s.stack.count .switching ≤ 1)
    (h : s.stack.switching.phase ≠ .none) (hl : s.cfgN .switchTimeout * 10 ≤ s.stack.switching.timer + 1) :
    (s.boundary b).stack.switching
      = { s.stack.switching with phase := .none, timer := s.stack.switching.timer + 1, lastEnd := .timeout }
    ∧ (∀ e ∈ (s.boundary b).stack.entries, e.source ≠ .switching)
    ∧ (s.boundary b).Tells .switch s.stack.switching.pot [[3#8], [3#8]] := by
  have hstack : (s.boundaryMetered b).stack = s.stack := touches_boundaryMetered.stack (by decide)
  have hset : (s.boundaryMetered b).settings = s.settings := touches_boundaryMetered.settings (by decide)
  rw [← hstack] at h hl hkept ⊢
  rw [← cfgN_congr hset] at hl
  have hend : (s.boundaryMetered b).stackSample b.apart
      = ((s.boundaryMetered b).stackTimed false).endSwitch .timeout := by
    rw [ha]
    exact stackSample_timeout h hl
  have htimed := stackTimed_stack h false
  have hcount : ((s.boundaryMetered b).stackTimed false).stack.count .switching ≤ 1 := by
    rw [htimed]
    exact (livesCounted_count _ false .switching).trans hkept
  refine ⟨?_, fun e he => ?_, boundary_tells_switch ?_⟩
  · rw [boundary_switching, hend, endSwitch_switching, htimed]
    rfl
  · rw [boundary_stack] at he
    rcases readUtility_adds _ _ _ e he with hold | hutil
    · unfold State.boundarySampled at hold
      change e ∈ ((s.boundaryMetered b).stackSample b.apart).stack.entries at hold
      rw [hend] at hold
      exact endSwitch_none_left hcount .timeout e hold
    · rw [hutil]
      decide
  · have htells := endSwitch_tells ((s.boundaryMetered b).stackTimed false) .timeout
    rw [htimed] at htells
    rw [hend]
    exact htells

/-! ### The requests (R123, R124, R126) -/

theorem potSwitchDone_ready (h : s.stack.switching.phase = .ready) : s.potSwitchDone
    = (⟨.ok, beBytes 2 s.stack.switching.pot ++ beBytes 1 s.stack.switching.kind.code⟩,
        (s.changePot s.stack.switching.pot (s.stack.switching.kind == .cutOut)).endSwitch .done) := if_pos h

theorem potSwitchDone_not_ready (h : s.stack.switching.phase ≠ .ready) :
    s.potSwitchDone = (⟨.wrongState, []⟩, s) := if_neg h

theorem potSwitchAbort_running (h : s.stack.switching.phase ≠ .none) :
    s.potSwitchAbort = (⟨.ok, []⟩, s.endSwitch .aborted) := if_pos (Switching.inProgress_iff.mpr h)

theorem potSwitchAbort_idle (h : s.stack.switching.phase = .none) :
    s.potSwitchAbort = (⟨.wrongState, []⟩, s) := if_neg (by rw [Switching.inProgress_eq_false_iff.mpr h]; decide)

/-- A pot's switching state changed stays so through an event that is not AE_END. -/
theorem potSwitched_post {u : State} {p : Nat} {cut : Bool} (h : s.PotSwitched u p cut) {k : EventKind}
    (hk : k ≠ .aeEnd) (n : Nat) (fields : List (List Byte)) : s.PotSwitched (u.post k n fields) p cut := by
  obtain ⟨hcut, hfrozen, hstate, hseeded, hfit, hlast, hfiltered, hstale, hres, hae, hothers⟩ := h
  refine ⟨hcut, hfrozen, hstate, hseeded, hfit, hlast, hfiltered, hstale, hres, ?_, hothers⟩
  split at hae
  · rename_i hc
    obtain ⟨hclosed, hlog, hflag, htells⟩ := hae
    rw [if_pos hc]
    exact ⟨hclosed, hlog, hflag, tells_post htells (.inl hk)⟩
  · rename_i hc
    rw [if_neg hc]
    exact hae

section
variable {payload : List Byte}

theorem setPotState_badValue (h : 1 < field payload 2 1) : s.setPotState payload = (⟨.badValue, []⟩, s) := if_pos h

variable (hcode : field payload 2 1 ≤ 1)
include hcode

theorem setPotState_noSuch (hp : ¬ (field payload 0 2 ∈ potNumbers ∧ (s.pot (field payload 0 2)).fitted = true)) :
    s.setPotState payload = (⟨.noSuch, []⟩, s) := by
  unfold State.setPotState
  dsimp only
  rw [if_neg (Nat.not_lt.mpr hcode), if_pos (not_not.mp (mt potKnown_iff.mp hp))]
  rfl

variable (hp : field payload 0 2 ∈ potNumbers ∧ (s.pot (field payload 0 2)).fitted = true)
include hp

theorem setPotState_wrongState (hs : s.sup.state ≠ .setup) :
    s.setPotState payload = (⟨.wrongState, []⟩, s) := by
  unfold State.setPotState
  dsimp only
  rw [if_neg (Nat.not_lt.mpr hcode), if_neg (potKnown_iff.mpr hp), if_pos hs]
  rfl

theorem setPotState_as_asked (hs : s.sup.state = .setup)
    (hc : (s.pot (field payload 0 2)).cutOut = decide (field payload 2 1 = 1)) :
    s.setPotState payload = (⟨.ok, []⟩, s) := by
  unfold State.setPotState
  dsimp only
  rw [if_neg (Nat.not_lt.mpr hcode), if_neg (potKnown_iff.mpr hp), if_neg (not_not.mpr hs)]
  exact if_pos hc.symm

theorem setPotState_switches (hs : s.sup.state = .setup)
    (hc : (s.pot (field payload 0 2)).cutOut ≠ decide (field payload 2 1 = 1)) : s.setPotState payload
      = (⟨.ok, []⟩, (s.changePot (field payload 0 2) (decide (field payload 2 1 = 1))).post .switch
          (field payload 0 2) [[4#8], beBytes 1 (field payload 2 1)]) := by
  unfold State.setPotState
  dsimp only
  rw [if_neg (Nat.not_lt.mpr hcode), if_neg (potKnown_iff.mpr hp), if_neg (not_not.mpr hs)]
  exact if_neg (Ne.symm hc)

end

end

end Sys2Proof.Machine

/-- Settles O48: every end goes through the one operation that ends a procedure, and a line sample comes to the
procedure with the stack of the state that it starts from. -/
theorem potSwitchEndsWithItsCause : Obligations.PotSwitchEndsWithItsCause := by
  unfold Obligations.PotSwitchEndsWithItsCause
  intro f rest s hstack hmap k w reply ended
  have hends : ∀ (u : State) (cause : SwitchEnd), u.stack = s.stack → w.phase ≠ .none →
      ended u cause (u.endSwitch cause) := fun u cause hu hip => endSwitch_spec hstack hu hip
  have hchange : ∀ (p : Nat) (cut : Bool), p ∈ potNumbers →
      Touches [.host, .pots, .ae, .events] s (s.taken.changePot p cut)
      ∧ s.PotSwitched (s.taken.changePot p cut) p cut := fun p cut hp =>
    have hwhole := hmap.agree.whole
    have ⟨hp1, hp2⟩ := mem_pots.mp hp
    ⟨(touches_changePot (by decide)).mpr ((touches_taken (by decide)).mpr (Touches.refl _ s)),
      changePot_spec s.taken p cut hwhole.map hwhole.pots hp1 hp2⟩
  refine ⟨fun h => ⟨fun hph => ?_, fun hph => ?_⟩, fun h => ⟨fun hph => ?_, fun hph => ?_⟩, ?_, fun b => ?_,
    fun h => ?_⟩
  · exact exec_answers (k := .potSwitchDone) rfl h (potSwitchDone_not_ready (s := s.taken) hph)
  · have hrun : w.phase ≠ .none := by
      rw [hph]
      decide
    obtain ⟨ht, hswitched⟩ := hchange w.pot (w.kind == .cutOut)
      (hmap.sound (Switching.inProgress_iff.mpr hrun)).pot
    exact ⟨_, _, exec_answers (k := .potSwitchDone) rfl h (potSwitchDone_ready (s := s.taken) hph), ht, hswitched,
      hends _ .done (ht.stack (by decide)) hrun⟩
  · exact exec_answers (k := .potSwitchAbort) rfl h (potSwitchAbort_idle (s := s.taken) hph)
  · exact ⟨_, exec_answers (k := .potSwitchAbort) rfl h (potSwitchAbort_running (s := s.taken) hph),
      hends s.taken .aborted rfl hph⟩
  · exact ⟨fun hdue => congrArg Host.Outcome.next (switchTimeout_not_due hdue), fun hdue =>
      ⟨_, congrArg Host.Outcome.next (switchTimeout_due hdue), hends s .timeout rfl hdue.1⟩⟩
  · refine ⟨s.boundary b, rfl, ?_⟩
    intro low phase late
    have hlow : (s.boundaryMetered b).switchLow = decide low :=
      Bool.eq_iff_iff.mpr ((boundaryMetered_switchLow s b).trans decide_eq_true_iff.symm)
    have hphase : switchPhase (s.boundaryMetered b).switchLow = phase := by
      rw [hlow]
      by_cases h : low <;> simp [switchPhase, phase, h]
    refine ⟨fun hph => ?_, fun hph hl => ?_, fun hph ha hl => ?_⟩
    · have hs : (s.boundaryMetered b).stack = s.stack := touches_boundaryMetered.stack (by decide)
      rw [boundary_switching, stackSample_switching_idle (by rw [hs]; exact hph), hs]
    · obtain ⟨hsw, htells⟩ := boundary_procedure_goes_on hph hl
      unfold Switching.sampled at hsw
      rw [hphase] at hsw htells
      refine ⟨hsw, fun hne => ?_⟩
      have hfields : (if (s.boundaryMetered b).switchLow then [2#8] else [1#8])
          = if phase = .ready then [2#8] else [1#8] := by
        rw [← hphase]
        cases (s.boundaryMetered b).switchLow <;> rfl
      rw [← hfields]
      exact htells hne.symm
    · refine boundary_procedure_times_out ha ?_ hph hl
      obtain ⟨_, _, _, _, _, hcount, _⟩ := hstack
      rw [hcount]
      exact Bool.toNat_le _
  · intro p code answered
    refine ⟨fun hc => ?_, fun hc hp => ?_, fun hc hp1 hp2 hfit => ?_⟩
    · exact exec_answers (k := .setPotState) rfl h (setPotState_badValue (s := s.taken) hc)
    · refine exec_answers (k := .setPotState) rfl h (setPotState_noSuch (s := s.taken) hc fun ⟨hmem, hfit⟩ => ?_)
      obtain ⟨hp1, hp2⟩ := mem_pots.mp hmem
      rcases hp with h0 | h0 | h0
      · exact absurd h0 (Nat.pos_iff_ne_zero.mp hp1)
      · exact absurd h0 (Nat.not_lt.mpr hp2)
      · exact absurd (h0.symm.trans hfit) Bool.false_ne_true
    · have hp : p ∈ potNumbers := mem_pots.mpr ⟨hp1, hp2⟩
      refine ⟨fun hs => ?_, fun hs => ⟨fun hcut => ?_, fun hcut => ?_⟩⟩
      · exact exec_answers (k := .setPotState) rfl h (setPotState_wrongState (s := s.taken) hc ⟨hp, hfit⟩ hs)
      · exact exec_answers (k := .setPotState) rfl h (setPotState_as_asked (s := s.taken) hc ⟨hp, hfit⟩ hs hcut)
      · obtain ⟨ht, hswitched⟩ := hchange p (decide (code = 1)) hp
        exact ⟨_, exec_answers (k := .setPotState) rfl h
            (setPotState_switches (s := s.taken) hc ⟨hp, hfit⟩ hs hcut),
          (touches_post (by decide)).mpr ht, potSwitched_post hswitched (by decide) _ _, tells_post_self⟩
end

section
/-! PROOFS. The derate curve of a loop (O26; R74): one segment, and where along its points the curve is read. -/

open Sys2Proof Sys2Proof.Machine

namespace Sys2Proof.Machine

/-! ### One segment -/

/-- The floor of a straight line from `fa` stays within its ends. -/
theorem segment_bounds {ta tb fa fb t lo hi : Int} (hab : ta ≤ t) (htb : t < tb) (ha : lo ≤ fa ∧ fa ≤ hi)
    (hb : lo ≤ fb ∧ fb ≤ hi) :
    lo ≤ fa + (fb - fa) * (t - ta) / (tb - ta) ∧ fa + (fb - fa) * (t - ta) / (tb - ta) ≤ hi := by
  have hrun : 0 < tb - ta := by omega
  have hlow : lo - fa ≤ (fb - fa) * (t - ta) / (tb - ta) :=
    (Int.le_ediv_iff_mul_le hrun).mpr (by nlinarith)
  have hhigh : (fb - fa) * (t - ta) / (tb - ta) ≤ hi - fa :=
    Int.ediv_le_of_le_mul hrun (by nlinarith)
  omega

/-! ### Where the curve is read -/

/-- Points that lie at or below `t` are passed over (R74). -/
theorem curveFrom_append {before : List (Int × Int)} {t : Int} (h : ∀ q ∈ before, q.1 ≤ t) (ta fa : Int)
    {a : Int × Int} (ha : a.1 ≤ t) (rest : List (Int × Int)) :
    curveFrom ta fa t (before ++ a :: rest) = curveFrom a.1 a.2 t rest := by
  induction before generalizing ta fa with
  | nil => exact if_neg (Int.not_lt.mpr ha)
  | cons q before ih =>
    obtain ⟨hq, hbefore⟩ := List.forall_mem_cons.mp h
    exact (if_neg (Int.not_lt.mpr hq)).trans (ih hbefore _ _)

/-- At and above a point of a rising list the curve goes on from that point (R74). -/
theorem curveAt_append {before : List (Int × Int)} {a : Int × Int} {rest : List (Int × Int)} {t : Int}
    (h : List.Pairwise (fun a b => a.1 < b.1) (before ++ a :: rest)) (ha : a.1 ≤ t) :
    curveAt (before ++ a :: rest) t = curveFrom a.1 a.2 t rest := by
  obtain ⟨_, _, hcross⟩ := List.pairwise_append.mp h
  have hbelow : ∀ q ∈ before, q.1 ≤ t := fun q hq => (hcross q hq a List.mem_cons_self).le.trans ha
  cases before with
  | nil => exact if_neg (Int.not_lt.mpr ha)
  | cons q before =>
    obtain ⟨hq, hbefore⟩ := List.forall_mem_cons.mp hbelow
    exact (if_neg (Int.not_lt.mpr hq)).trans (curveFrom_append hbefore _ _ ha rest)

theorem curveFrom_bounds {t lo hi : Int} {pts : List (Int × Int)} (hpts : ∀ q ∈ pts, lo ≤ q.2 ∧ q.2 ≤ hi)
    {ta fa : Int} (hta : ta ≤ t) (hfa : lo ≤ fa ∧ fa ≤ hi) :
    lo ≤ curveFrom ta fa t pts ∧ curveFrom ta fa t pts ≤ hi := by
  induction pts generalizing ta fa with
  | nil => exact hfa
  | cons b rest ih =>
    obtain ⟨hb, hrest⟩ := List.forall_mem_cons.mp hpts
    unfold curveFrom
    split
    · exact segment_bounds hta ‹_› hfa hb
    · exact ih hrest (Int.not_lt.mp ‹_›) hb

/-- The factor never leaves the span of the points' factors (R74). -/
theorem curveAt_bounds {t lo hi : Int} {pts : List (Int × Int)} (hne : pts ≠ [])
    (hpts : ∀ q ∈ pts, lo ≤ q.2 ∧ q.2 ≤ hi) : lo ≤ curveAt pts t ∧ curveAt pts t ≤ hi := by
  cases pts with
  | nil => exact absurd rfl hne
  | cons a rest =>
    obtain ⟨ha, hrest⟩ := List.forall_mem_cons.mp hpts
    unfold curveAt
    dsimp only
    split
    · exact ha
    · exact curveFrom_bounds hrest (Int.not_lt.mp ‹_›) ha

/-! ### The points of a loop -/

theorem curve_getElem? (s : State) (g : Group) (k : Fin 8) : (s.curve g)[k.val]?
    = some (derateTemp (s.cfg (.loop g (.derate k))), derateFactor (s.cfg (.loop g (.derate k)))) := by
  simp [State.curve]

/-- The default curve (R74). -/
theorem curve_default {s : State} (h : s.settings = []) (g : Group) : s.curve g
    = [(450, 1000), (500, 980), (550, 950), (600, 900), (620, 850), (640, 800), (660, 700), (700, 500)] := by
  have hdflt : ∀ k, s.cfg (.loop g (.derate k)) = derateDefault k := by
    intro k
    rw [State.cfg, h]
    rfl
  unfold State.curve
  simp only [hdflt]
  decide

end Sys2Proof.Machine

/-- Settles O26: the curve is read from the last of its points at or below the temperature on. -/
theorem derateCurveInterpolatesDownward : Obligations.DerateCurveInterpolatesDownward := by
  unfold Obligations.DerateCurveInterpolatesDownward
  refine ⟨fun g s => ⟨by simp [State.curve], curve_getElem? s g, fun h => ?_⟩, fun pts t hrise => ⟨?_, ?_, ?_, ?_⟩⟩
  · rw [curve_default h]
    exact ⟨rfl, by decide⟩
  · rintro first rest rfl ht
    exact if_pos ht
  · rintro before last rfl ht
    exact curveAt_append hrise ht
  · rintro before a b after rfl ha hb
    exact (curveAt_append hrise ha).trans (if_pos hb)
  · exact fun lo hi hne hpts => curveAt_bounds hne hpts
end

section
/-! PROOFS. The beginning and the end of an unloading, and the out-of-turn cycle that follows it (O29, O31; R82 to R84,
R97, R130). -/

open Sys2Proof Sys2Proof.Machine

namespace Sys2Proof.Machine

/-! ### The cycle that follows a change of phase (R82, R130) -/

section
variable {s : State} {head tail : State → State}

theorem phases_congr {s t : State} (h : t.cool = s.cool) : t.phases = s.phases := by
  simp only [State.phases, coolOf_congr h]

theorem phases_ne {s t : State} {g : Group} (h : (t.coolOf g).cap.unloading ≠ (s.coolOf g).cap.unloading) :
    (t.phases != s.phases) = true := by
  refine bne_iff_ne.mpr fun e => h ?_
  have hg : ∀ u : State, u.phases.get g = (u.coolOf g).cap.unloading := fun u => Six.get_ofFn _ _
  rw [← hg, ← hg, e]

/-- After its two parts an event on the loops runs one cycle at most (R130). -/
theorem touches_unloadCycle : Touches [.energy, .events, .reg, .link] (tail (head s)) (s.withUnloadCycle head tail) :=
  (touches_when fun _ => touches_outOfTurn_setTarget).mpr (Touches.refl _ _)

/-- Of a unit the cycle changes the share slot alone (R140). -/
theorem unloadCycle_unit (g : Group) :
    ∃ x, (s.withUnloadCycle head tail).unit g = { (tail (head s)).unit g with share := x } := by
  unfold State.withUnloadCycle State.when
  dsimp only
  split
  · cases hr : (tail (head s)).regulating
    · rw [outOfTurn_of_not_regulating hr]
      exact ⟨_, rfl⟩
    · rw [outOfTurn_of_regulating hr]
      exact setTarget_unit _ _ _
  · exact ⟨_, rfl⟩

theorem unloadCycle_coolOf (g : Group) : (s.withUnloadCycle head tail).coolOf g = (tail (head s)).coolOf g :=
  coolOf_congr (touches_unloadCycle.cool (by decide)) g

theorem unloadCycle_of_not_regulating (h : (tail (head s)).regulating = false) :
    s.withUnloadCycle head tail = tail (head s) := by
  unfold State.withUnloadCycle State.when
  dsimp only
  rw [outOfTurn_of_not_regulating h, ite_self]

/-- Without a beginning or an end there is no cycle. -/
theorem unloadCycle_of_same (hh : (head s).cool = s.cool) (ht : (tail (head s)).cool = (head s).cool) :
    s.withUnloadCycle head tail = tail (head s) := by
  unfold State.withUnloadCycle
  dsimp only
  rw [phases_congr ht, phases_congr hh, bne_self_eq_false]
  rfl

theorem unloadCycle_of_change {g : Group} (h : ((head s).coolOf g).cap.unloading ≠ (s.coolOf g).cap.unloading) :
    s.withUnloadCycle head tail = (tail (head s)).outOfTurn := by
  unfold State.withUnloadCycle
  dsimp only
  rw [phases_ne h]
  rfl

end

/-! ### A group without allocation capacity has no share (R137, R139) -/

theorem allocate_of_no_capacity {s : State} {g : Group} (h : s.allocCapacity g = 0) {amount capacity : Nat} :
    ∀ x ∈ s.allocate amount capacity, x.1 = g → x.2 = 0 := by
  unfold State.allocate
  extract_lets items
  split
  · intro x hx _
    obtain ⟨y, _, rfl⟩ := List.mem_map.mp hx
    rfl
  · rename_i hcap
    rintro x hx rfl
    obtain ⟨a, q, hmem, hx⟩ := giveOut_bounds _ _ x hx
    obtain ⟨y, _, hy⟩ := List.mem_map.mp hmem
    obtain ⟨hg, ha⟩ := Prod.mk.inj hy
    obtain ⟨ha, hq⟩ := Prod.mk.inj ha
    rw [hg, h] at ha
    rw [hg, h, if_neg hcap, Nat.mul_zero, Nat.zero_div] at hq
    omega

/-- The share recorded for a group, when every share that is given to it is `a`. -/
theorem sharesRecorded_of_all {xs : List (Group × Nat)} {g : Group} {a : Nat} (hall : ∀ x ∈ xs, x.1 = g → x.2 = a)
    {v : Six (Option Nat)} (hg : g ∈ xs.map (·.1) ∨ v.get g = some a) :
    (xs.foldl (fun v x => v.set x.1 (some x.2)) v).get g = some a := by
  induction xs generalizing v with
  | nil => exact hg.resolve_left List.not_mem_nil
  | cons y ys ih =>
    obtain ⟨hy, hys⟩ := List.forall_mem_cons.mp hall
    refine ih hys ?_
    by_cases e : g = y.1
    · subst e
      rw [Six.get_set_self, hy rfl]
      exact .inr rfl
    · rw [Six.get_set_ne _ _ e]
      exact hg.imp_left fun hm => (List.mem_cons.mp hm).resolve_left e

theorem outOfTurn_share_zero {s : State} {g : Group} (hr : s.regulating = true) (ha : s.allocatable g = true)
    (hc : s.allocCapacity g = 0) : s.outOfTurn.reg.shares.get g = some 0 := by
  rw [outOfTurn_of_regulating hr, setTarget_reg]
  refine sharesRecorded_of_all (allocate_of_no_capacity hc) (.inl ?_)
  rw [allocate_groups]
  exact List.mem_filter.mpr ⟨g.mem_all, ha⟩

/-! ### The beginning of an unloading (R83) -/

/-- The capacity record once an unloading has begun, or goes on (R83). -/
def CapRecord.begun (c : CapRecord) (o : UnloadOrigin) : CapRecord :=
  if c.unloading then c else { c with unloading := true, origin := o, timer := 0 }

@[simp] theorem CapRecord.begun_unloading (c : CapRecord) (o : UnloadOrigin) : (c.begun o).unloading = true := by
  unfold CapRecord.begun
  split
  · exact ‹_›
  · rfl

theorem touches_beginUnload_self (s : State) (g : Group) (o : UnloadOrigin) : Touches [.cool] s (s.beginUnload g o) :=
  (touches_beginUnload (by decide)).mpr (Touches.refl _ _)

theorem beginUnload_coolOf_self (s : State) (g : Group) (o : UnloadOrigin) :
    (s.beginUnload g o).coolOf g = { s.coolOf g with cap := (s.coolOf g).cap.begun o } := by
  unfold State.beginUnload CapRecord.begun
  dsimp only
  split
  · rfl
  · exact coolOf_setCap_self _ _ _

theorem beginUnload_coolOf_ne (s : State) {g h : Group} (o : UnloadOrigin) (e : h ≠ g) :
    (s.beginUnload g o).coolOf h = s.coolOf h := by
  unfold State.beginUnload
  dsimp only
  split
  · rfl
  · exact coolOf_setCap_ne _ e

theorem effective_of_unloading {s : State} {g : Group} (h : (s.coolOf g).cap.unloading = true) :
    s.effective g = 0 := by
  simp [State.effective, h]

/-! ### The end of an unloading by TIME (R84) -/

theorem levelMet_iff {s : State} {g : Group} : s.levelMet g = true ↔ s.LevelReached g (s.chan (gcChan g)) := by
  simp [State.levelMet]

theorem unloadTimeUp_iff {s : State} {g : Group} :
    s.unloadTimeUp g = true ↔ s.cfgN (.group g .unloadTime) * 10 ≤ (s.coolOf g).cap.timer := decide_eq_true_iff

/-- The end of an unloading by TIME falls due (R84). -/
abbrev State.TimeEndsUnload (s : State) (g : Group) : Prop :=
  s.fitted g = true ∧ (s.coolOf g).cap.unloading = true ∧ ¬ s.LevelReached g (s.chan (gcChan g))
    ∧ s.cfgN (.group g .unloadTime) * 10 ≤ (s.coolOf g).cap.timer

theorem unloadTimeEnd_eq (s : State) (g : Group) : s.unloadTimeEnd g
    = if s.TimeEndsUnload g then s.withUnloadCycle (fun s => s.endUnload g .time) id else s := by
  unfold State.unloadTimeEnd
  refine if_congr ?_ rfl rfl
  rw [Bool.and_eq_true, Bool.and_eq_true, Bool.and_eq_true, unloadTimeUp_iff, Bool.not_eq_true', ← Bool.not_eq_true,
    levelMet_iff, and_assoc, and_assoc]

/-! ### STOP taken from the line computer (R96, R97) -/

theorem takeStop_of_not_allocatable {s : State} {g : Group} (h : s.allocatable g = false) (o : Origin) :
    s.takeOrder g .stop o = s.setUnit g { s.unit g with command := some (.fresh .stop o true) } := by
  have e : s.takeStop g o = s.setUnit g { s.unit g with command := some (.fresh .stop o true) } := by
    simp [State.takeStop, h, State.when]
  show s.withUnloadCycle (fun s => s.takeStop g o) id = _
  rw [unloadCycle_of_same (by rw [e]; rfl) rfl]
  exact e

/-- The part of a STOP for an allocatable group that comes before the cycle (R97). -/
theorem takeStop_of_allocatable {s : State} {g : Group} (h : s.allocatable g = true) (o : Origin) :
    Touches [.cool, .link] s (s.takeStop g o)
      ∧ (s.takeStop g o).unit g = { s.unit g with command := some (.fresh .stop o false) }
      ∧ (s.takeStop g o).coolOf g = { s.coolOf g with cap := (s.coolOf g).cap.begun .linkRequest } := by
  have e : s.takeStop g o
      = (s.setUnit g { s.unit g with command := some (.fresh .stop o false) }).beginUnload g .linkRequest := by
    simp [State.takeStop, h, State.when]
  rw [e]
  refine ⟨?_, ?_, beginUnload_coolOf_self _ _ _⟩
  · exact (touches_beginUnload (by decide)).mpr ((touches_setUnit (by decide)).mpr (Touches.refl _ s))
  · rw [unit_congr ((touches_beginUnload_self _ _ _).link (by decide)), unit_setUnit_self]

theorem takeOrder_stop_of_allocatable {s : State} {g : Group} (h : s.allocatable g = true) (o : Origin) :
    ((s.takeOrder g .stop o).unit g).command = some (.fresh .stop o false)
      ∧ ((s.takeOrder g .stop o).coolOf g).cap = (s.coolOf g).cap.begun .linkRequest
      ∧ (s.regulating = true → (s.coolOf g).cap.unloading = false →
        (s.takeOrder g .stop o).reg.shares.get g = some 0) := by
  obtain ⟨htouch, hunit, hcool⟩ := takeStop_of_allocatable h o
  obtain ⟨x, hcycle⟩ := unloadCycle_unit (s := s) (head := fun s => s.takeStop g o) (tail := id) g
  show ((s.withUnloadCycle (fun s => s.takeStop g o) id).unit g).command = _
    ∧ ((s.withUnloadCycle (fun s => s.takeStop g o) id).coolOf g).cap = _
    ∧ (_ → _ → (s.withUnloadCycle (fun s => s.takeStop g o) id).reg.shares.get g = _)
  refine ⟨?_, ?_, fun hr hu => ?_⟩
  · rw [hcycle, id_eq, hunit]
  · rw [unloadCycle_coolOf, id_eq, hcool]
  · have halloc : (s.takeStop g o).allocatable g = true :=
      (allocatable_congr (htouch.settings (by decide)) (by rw [hunit])).trans h
    rw [unloadCycle_of_change (g := g) (by rw [hcool, hu, CapRecord.begun_unloading]; decide)]
    refine outOfTurn_share_zero ((regulating_congr (htouch.sup (by decide))).trans hr) halloc ?_
    unfold State.allocCapacity State.holdsStop
    rw [id_eq, hunit]
    rfl

/-- The tests of R168 passed, a GROUP_ORDER is handled by R96 under the kind that it names. -/
theorem serveGroupOrder_of_admits {s : State} {f : Frame} {rest : List Frame} {k : CmdKind}
    (h : s.Admits .groupOrder f rest) (hk : CmdKind.ofCode? (field f.payload 1 1) = some k) : s.serveGroupOrder k
      = (s.taken.groupOrder (field f.payload 0 1) k f.tag (s.engineer f)).2.answer f (s.engineer f)
          (s.taken.groupOrder (field f.payload 0 1) k f.tag (s.engineer f)).1 := by
  obtain ⟨ho, hc, _, hl⟩ := h
  have hmine : f.isGroupOrder k = true := by simp [Frame.isGroupOrder, isKind_of_code hc, hl, hk]
  have hhandle : ∀ rule, RequestKind.groupOrder.handle rule f (s.engineer f) s.taken
      = rule f.payload (s.engineer f) s.taken := fun rule => by
    simp [RequestKind.handle, hl, RequestKind.engineerOnly]
  unfold State.serveGroupOrder
  rw [takeRequest_of_offers ho hmine, hhandle, hk]

/-- A STOP that passes the tests of R96 is taken, and the reply is QUEUED. -/
theorem exec_stop_of_admits {s : State} {f : Frame} {rest : List Frame} {g : Group} {num : Byte}
    (h : s.Admits .groupOrder f rest) (hnum : num.toNat = g.num) (hp : f.payload = [num, 2#8])
    (heng : s.engineer f = true) (hf : s.fitted g = true) (hs : s.sup.state ≠ .safe)
    (hc : (s.unit g).command = none) : exec .groupOrderStop s
      = .next ((s.taken.takeOrder g .stop (.linkRequest f.tag)).answer f true ⟨.queued, [num, 2#8]⟩) := by
  have hfield : field f.payload 0 1 = g.num := by simp [hp, field, beNat, hnum]
  have hkind : CmdKind.ofCode? (field f.payload 1 1) = some .stop := by rw [hp]; rfl
  have hname : groupOfNum? g.num = some g := by cases g <;> rfl
  have hbyte : beBytes 1 g.num = [num] := by rw [beBytes_one, ← hnum, BitVec.ofNat_toNat, BitVec.setWidth_eq]
  have hft : s.taken.fitted g = true := hf
  have hct : (s.taken.unit g).command = none := hc
  have hout : s.taken.groupOrder g.num .stop f.tag true
      = (⟨.queued, [num, 2#8]⟩, s.taken.takeOrder g .stop (.linkRequest f.tag)) := by
    unfold State.groupOrder
    rw [hname, hbyte]
    simp [hft, hct, hs, CmdKind.code]
  show Host.Outcome.next (s.serveGroupOrder .stop) = _
  rw [serveGroupOrder_of_admits h hkind, hfield, heng, hout]

end Sys2Proof.Machine

/-- Settles O29: the end by TIME ends the unloading and releases the STOP, and the cycle that follows leaves both. -/
theorem unloadingEndsByTime : Obligations.UnloadingEndsByTime := by
  unfold Obligations.UnloadingEndsByTime
  intro g s c gc level due
  have hexec : exec (.unloadTimeEnd g) s = .next (s.unloadTimeEnd g) := rfl
  rw [hexec, unloadTimeEnd_eq]
  refine ⟨fun h => by rw [if_neg h], fun h => ?_⟩
  rw [if_pos h]
  obtain ⟨hfit, hunl, hlevel, htime⟩ := h
  have htouch : Touches [.cool, .link] s (s.endUnload g .time) := (touches_endUnload (by decide)).mpr (Touches.refl _ _)
  have hcool : (s.endUnload g .time).coolOf g
      = { s.coolOf g with cap := { c with unloading := false, lastEnd := .time } } := by
    rw [endUnload_coolOf_self, CapRecord.ended, if_pos hunl]
  obtain ⟨x, hunit⟩ := unloadCycle_unit (s := s) (head := fun s => s.endUnload g .time) (tail := id) g
  have hunit : (s.withUnloadCycle (fun s => s.endUnload g .time) id).unit g = { s.unit g with
      command := (s.unit g).command.map fun x => if x.kind = .stop then { x with sendable := true } else x,
      share := x } := by
    rw [hunit, id_eq, endUnload_unit_self]
    have hunl : (s.coolOf g).cap.unloading = true := hunl
    simp only [Command.released, hunl, and_true]
  have ht : Touches [.cool, .energy, .events, .reg, .link] s
      (s.withUnloadCycle (fun s => s.endUnload g .time) id) :=
    (htouch.mono (by decide)).trans (touches_unloadCycle.mono (by decide))
  refine ⟨_, rfl, ht, ?_, ?_, fun g' e => ?_, ?_, ?_, fun hr => ?_, fun ha => ?_⟩
  · rw [unloadCycle_coolOf, id_eq, hcool]
  · rw [unloadCycle_coolOf, id_eq, hcool]
  · rw [unloadCycle_coolOf, id_eq, endUnload_coolOf_ne _ _ e]
  · rw [hunit]
  · rw [hunit]
  · rw [unloadCycle_of_not_regulating ((regulating_congr (htouch.sup (by decide))).trans hr)]
    exact ⟨htouch.reg (by decide), htouch.energy (by decide)⟩
  · have halloc := allocatable_congr (g := g) (ht.settings (by decide)) (by rw [hunit])
    unfold State.effective
    rw [halloc, ha, unloadCycle_coolOf, id_eq, hcool]
    rfl

/-- Settles O31: a STOP is entered, the unloading begun, and the cycle that follows finds no allocation capacity. -/
theorem stopOrderUnloadsAnAllocatableGroup : Obligations.StopOrderUnloadsAnAllocatableGroup := by
  unfold Obligations.StopOrderUnloadsAnAllocatableGroup
  intro f rest s g num h hnum hp heng hf hs hc stop
  rw [exec_stop_of_admits h hnum hp heng hf hs hc]
  refine ⟨fun ha => ?_, fun ha => ?_⟩
  · rw [takeStop_of_not_allocatable (s := s.taken) ha]
    rfl
  · obtain ⟨hcommand, hcap, hshare⟩ := takeOrder_stop_of_allocatable (s := s.taken) ha (.linkRequest f.tag)
    refine ⟨_, rfl, ?_, hcommand, ?_, hcap, hshare⟩
    · exact (touches_takeOrder (by decide)).mpr ((touches_taken (by decide)).mpr (Touches.refl _ s))
    · exact effective_of_unloading (by rw [hcap, CapRecord.begun_unloading])
end

section
/-! PROOFS. The evaluation of one loop, step by step (R73 to R79, R83, R84, R97, R98): what each step makes of the
records of its group and of the event queue, and that it leaves the other groups. -/

open Sys2Proof Sys2Proof.Machine

namespace Sys2Proof.Machine

/-! ### A group that stands -/

/-- The events about subject `n` (R176). -/
def aboutSubject (n : Nat) : EventKind → Nat → Bool := fun _ m => m == n

/-- From `s` to `t` group `h` stands: its loop's records, its unit, and the events about it. -/
structure GroupStands (h : Group) (s t : State) : Prop where
  cool : t.coolOf h = s.coolOf h
  unit : t.unit h = s.unit h
  events : Leaves (aboutSubject h.num) s t

section
variable {keep keep' : EventKind → Nat → Bool} {s t u : State} {g h : Group}

theorem Leaves.mono (hl : Leaves keep s t) (hk : ∀ k n, keep' k n = true → keep k n = true) : Leaves keep' s t := by
  refine ⟨?_, hl.overrun⟩
  have hsub : ∀ xs : List Event, (xs.filter fun e => keep' e.kind e.subject)
      = (xs.filter fun e => keep e.kind e.subject).filter fun e => keep' e.kind e.subject := fun xs => by
    rw [List.filter_filter]
    refine List.filter_congr fun e _ => ?_
    cases he : keep' e.kind e.subject
    · rfl
    · rw [hk _ _ he]; rfl
  rw [hsub, hl.entries, ← hsub]

/-- An operation that leaves the events of one kind leaves those of that kind about one subject. -/
theorem Leaves.ofSubject_of_kind {k : EventKind} {n : Nat} (hl : Leaves (ofKind k) s t) :
    Leaves (ofSubject k n) s t :=
  hl.mono fun _ _ hk => (Bool.and_eq_true_iff.mp hk).1

theorem Leaves.ofSubject_of_subject {k : EventKind} {n : Nat} (hl : Leaves (aboutSubject n) s t) :
    Leaves (ofSubject k n) s t :=
  hl.mono fun _ _ hk => (Bool.and_eq_true_iff.mp hk).2

theorem aboutSubject_ne (e : h ≠ g) : (g.num == h.num) = false :=
  beq_eq_false_iff_ne.mpr fun hn => e (Group.num_inj hn).symm

namespace GroupStands

theorem refl (h : Group) (s : State) : GroupStands h s s := ⟨rfl, rfl, .refl _ s⟩

theorem trans (a : GroupStands h s t) (b : GroupStands h t u) : GroupStands h s u :=
  ⟨b.cool.trans a.cool, b.unit.trans a.unit, a.events.trans b.events⟩

theorem tells {k : EventKind} {fields : List (List Byte)} (a : GroupStands h s t) (ht : s.Tells k h.num fields) :
    t.Tells k h.num fields := a.events.tells (beq_self_eq_true h.num) ht

theorem setLoop (e : h ≠ g) (l : LoopRecord) : GroupStands h s (s.setLoop g l) :=
  ⟨coolOf_setCoolOf_ne _ _ e, rfl, .of_events rfl⟩

theorem setCap (e : h ≠ g) (c : CapRecord) : GroupStands h s (s.setCap g c) :=
  ⟨coolOf_setCoolOf_ne _ _ e, rfl, .of_events rfl⟩

theorem setLeft (e : h ≠ g) (x : LoopLeft) : GroupStands h s (s.setLeft g x) :=
  ⟨coolOf_setCoolOf_ne _ _ e, rfl, .of_events rfl⟩

theorem setUnit (e : h ≠ g) (x : GroupUnit) : GroupStands h s (s.setUnit g x) :=
  ⟨rfl, unit_setUnit_ne _ _ e, .of_events rfl⟩

theorem post (e : h ≠ g) (k : EventKind) (fields : List (List Byte)) : GroupStands h s (s.post k g.num fields) :=
  ⟨rfl, rfl, leaves_self_post (aboutSubject_ne e)⟩

theorem when {c : Bool} {f : State → State} (hf : ∀ v, GroupStands h v (f v)) : GroupStands h s (s.when c f) := by
  cases c
  · exact refl h s
  · exact hf s

end GroupStands

/-- Seen from group `g`, an operation done for every group is that operation done for `g`, in a state in which `g`
still stands, and nothing after it. -/
theorem eachGroup_seen {f : State → Group → State} {l : List Block} (hf : ∀ t g, Touches l t (f t g))
    (hne : ∀ t {g h}, h ≠ g → GroupStands h t (f t g)) (s : State) (g : Group) :
    ∃ a, Touches l s a ∧ GroupStands g s a ∧ GroupStands g (f a g) (s.eachGroup f) := by
  have pass : ∀ (xs : List Group) t, g ∉ xs → GroupStands g t (xs.foldl f t) := by
    intro xs
    induction xs with
    | nil => exact fun t _ => .refl g t
    | cons x xs ih =>
      intro t hg
      obtain ⟨hx, hxs⟩ := List.ne_and_not_mem_of_not_mem_cons hg
      exact (hne t hx).trans (ih _ hxs)
  have hsplit : ∃ before after, Group.all = before ++ g :: after ∧ g ∉ before ∧ g ∉ after := by
    cases g
    · exact ⟨[], [.g2, .g3, .g4, .g5, .g6], rfl, by decide, by decide⟩
    · exact ⟨[.g1], [.g3, .g4, .g5, .g6], rfl, by decide, by decide⟩
    · exact ⟨[.g1, .g2], [.g4, .g5, .g6], rfl, by decide, by decide⟩
    · exact ⟨[.g1, .g2, .g3], [.g5, .g6], rfl, by decide, by decide⟩
    · exact ⟨[.g1, .g2, .g3, .g4], [.g6], rfl, by decide, by decide⟩
    · exact ⟨[.g1, .g2, .g3, .g4, .g5], [], rfl, by decide, by decide⟩
  obtain ⟨before, after, hall, hb, ha⟩ := hsplit
  refine ⟨before.foldl f s, (touches_foldl hf).mpr (Touches.refl _ _), pass before s hb, ?_⟩
  unfold State.eachGroup
  rw [hall, List.foldl_append, List.foldl_cons]
  exact pass after _ ha

end

/-! ### Step 1: the sensor fault field (R75) -/

section
variable {keep : EventKind → Nat → Bool} {s : State} {g h : Group}

/-- The SENSOR_FAULT condition of a loop (R75). -/
def State.sensorFault (s : State) (g : Group) : Bool := s.outletFailed g || s.flowFailed g

theorem sensorDiffers_iff : s.sensorDiffers g = true ↔ s.sensorFault g ≠ (s.coolOf g).loop.fault := bne_iff_ne

theorem evalSensor_of_same (hs : s.sensorFault g = (s.coolOf g).loop.fault) : s.evalSensor g = s :=
  if_neg fun hd => sensorDiffers_iff.mp hd hs

theorem evalSensor_of_change (hd : s.sensorFault g ≠ (s.coolOf g).loop.fault) : s.evalSensor g
    = (s.setLoop g { (s.coolOf g).loop with fault := s.sensorFault g }).post .coolingSensor g.num
        [flagByte (s.sensorFault g), beBytes 1 ((s.outletFailed g).toNat + 2 * (s.flowFailed g).toNat)] :=
  if_pos (sensorDiffers_iff.mpr hd)

theorem evalSensor_coolOf (s : State) (g : Group) : (s.evalSensor g).coolOf g
    = { s.coolOf g with loop := { (s.coolOf g).loop with fault := s.sensorFault g } } := by
  by_cases hs : s.sensorFault g = (s.coolOf g).loop.fault
  · rw [evalSensor_of_same hs, hs]
  · rw [evalSensor_of_change hs]
    exact coolOf_setLoop_self _ _ _

theorem leaves_evalSensor (hk : keep .coolingSensor g.num = false) : Leaves keep s (s.evalSensor g) := by
  by_cases hs : s.sensorFault g = (s.coolOf g).loop.fault
  · rw [evalSensor_of_same hs]
    exact .refl keep s
  · rw [evalSensor_of_change hs]
    exact leaves_post (.of_events rfl) hk

theorem stands_evalSensor (e : h ≠ g) : GroupStands h s (s.evalSensor g) := by
  by_cases hs : s.sensorFault g = (s.coolOf g).loop.fault
  · rw [evalSensor_of_same hs]
    exact .refl h s
  · rw [evalSensor_of_change hs]
    exact (GroupStands.setLoop e _).trans (.post e _ _)

/-! ### Steps 2 and 3: factors and capacity (R74 to R76, R81) -/

/-- The loop record with its factors formed (R74 to R76). -/
def State.factoredLoop (s : State) (g : Group) : LoopRecord :=
  let l := (s.coolOf g).loop
  let fT := (curveAt (s.curve g) (s.outlet g)).toNat
  let fF := if (s.chan (flChan g)).value < s.cfg (.loop g .flowMin) then s.cfgN (.loop g .flowFactor) else 1000
  let fS := if l.fault then s.cfgN (.loop g .sensorFactor) else 1000
  { l with tempFactor := fT, flowFactor := fF, senseFactor := fS, factor := min fT (min fF fS) }

/-- The capacity record brought to the loop factor (R76, R81). -/
def State.ratedCap (s : State) (g : Group) : CapRecord :=
  let c := (s.coolOf g).cap
  let cap := s.cfgN (.group g .rated) * (s.factoredLoop g).factor / 1000
  { c with capacity := cap, credit := min c.credit cap }

/-- Steps 2 and 3 of R73. -/
def State.evalRated (s : State) (g : Group) : State := (s.evalFactors g).evalCapacity g

theorem evalRated_eq (s : State) (g : Group) :
    s.evalRated g = (s.setLoop g (s.factoredLoop g)).setCap g (s.ratedCap g) := by
  have hc : (s.setLoop g (s.factoredLoop g)).coolOf g = { s.coolOf g with loop := s.factoredLoop g } :=
    coolOf_setLoop_self _ _ _
  show (s.setLoop g (s.factoredLoop g)).evalCapacity g = _
  unfold State.evalCapacity
  rw [hc]
  rfl

theorem evalRated_coolOf (s : State) (g : Group) :
    (s.evalRated g).coolOf g = { s.coolOf g with loop := s.factoredLoop g, cap := s.ratedCap g } := by
  rw [evalRated_eq, coolOf_setCap_self, coolOf_setLoop_self]

/-! ### Step 4: the cooling state (R77, R78) -/

/-- The cooling state that a sample finds (R77). -/
def State.foundState (s : State) (g : Group) : CoolState :=
  let crit := s.cfg (.loop g .critTemp)
  if (if (s.coolOf g).loop.state = .critical then crit - 20 else crit) ≤ s.outlet g then .critical
  else if (s.factoredLoop g).factor = 1000 then .normal else .derated

/-- The loop record once its cooling state has been brought into line (R77, R78). -/
def State.statedLoop (s : State) (g : Group) : LoopRecord :=
  let was := (s.coolOf g).loop
  let st := s.foundState g
  { s.factoredLoop g with
    state := st,
    dwell := if st = was.state then was.dwell else if st = .critical then some 0
             else if was.state = .critical then none else was.dwell,
    begun := if st = was.state then was.begun else if was.state = .critical then false else was.begun }

theorem evalRated_nextCoolState (s : State) (g : Group) : (s.evalRated g).nextCoolState g = s.foundState g := by
  unfold State.nextCoolState
  rw [evalRated_coolOf, evalRated_eq]
  rfl

theorem evalState_of_same (hs : s.foundState g = (s.coolOf g).loop.state) : s.evalState g = s.evalRated g := by
  show (s.evalRated g).evalCoolState g = _
  unfold State.evalCoolState
  dsimp only
  rw [evalRated_nextCoolState, evalRated_coolOf]
  exact if_pos hs

theorem evalState_of_change (hs : s.foundState g ≠ (s.coolOf g).loop.state) : s.evalState g
    = ((s.evalRated g).setLoop g (s.statedLoop g)).post .coolingState g.num
        [beBytes 1 (s.foundState g).code, beBytes 1 (s.coolOf g).loop.state.code,
         beBytes 2 (s.factoredLoop g).factor] := by
  have hwas : (s.factoredLoop g).state = (s.coolOf g).loop.state := rfl
  show (s.evalRated g).evalCoolState g = _
  unfold State.evalCoolState State.statedLoop
  dsimp only
  rw [evalRated_nextCoolState, evalRated_coolOf]
  dsimp only
  rw [hwas]
  simp only [if_neg hs]
  rfl

theorem evalState_coolOf (s : State) (g : Group) :
    (s.evalState g).coolOf g = { s.coolOf g with loop := s.statedLoop g, cap := s.ratedCap g } := by
  by_cases hs : s.foundState g = (s.coolOf g).loop.state
  · rw [evalState_of_same hs, evalRated_coolOf]
    unfold State.statedLoop
    simp only [hs]
    rfl
  · rw [evalState_of_change hs]
    refine (coolOf_setLoop_self _ _ _).trans ?_
    rw [evalRated_coolOf]

theorem leaves_evalState (hk : s.foundState g = (s.coolOf g).loop.state ∨ keep .coolingState g.num = false) :
    Leaves keep s (s.evalState g) := by
  have hrated : Leaves keep s (s.evalRated g) := by
    rw [evalRated_eq]
    exact .of_events rfl
  by_cases hs : s.foundState g = (s.coolOf g).loop.state
  · rw [evalState_of_same hs]
    exact hrated
  · rw [evalState_of_change hs]
    exact leaves_post (hrated.trans (.of_events rfl)) (hk.resolve_left hs)

theorem stands_evalState (e : h ≠ g) : GroupStands h s (s.evalState g) := by
  have hrated : GroupStands h s (s.evalRated g) := by
    rw [evalRated_eq]
    exact (GroupStands.setLoop e _).trans (.setCap e _)
  by_cases hs : s.foundState g = (s.coolOf g).loop.state
  · rw [evalState_of_same hs]
    exact hrated
  · rw [evalState_of_change hs]
    exact hrated.trans ((GroupStands.setLoop e _).trans (.post e _ _))

/-! ### Step 5: the dwell (R78) -/

theorem advanceDwell_coolOf (s : State) (g : Group) (before : CoolState) : (s.advanceDwell g before).coolOf g
    = { s.coolOf g with loop := { (s.coolOf g).loop with
        dwell := if before = .critical ∧ (s.coolOf g).loop.state = .critical
          then (s.coolOf g).loop.dwell.map (satInc 65535) else (s.coolOf g).loop.dwell } } := by
  unfold State.advanceDwell
  dsimp only
  split
  · exact coolOf_setLoop_self _ _ _
  · rfl

theorem touches_advanceDwell_self (s : State) (g : Group) (before : CoolState) :
    Touches [.cool] s (s.advanceDwell g before) := (touches_advanceDwell (by decide)).mpr (Touches.refl _ _)

theorem stands_advanceDwell (e : h ≠ g) (before : CoolState) : GroupStands h s (s.advanceDwell g before) := by
  unfold State.advanceDwell
  dsimp only
  split
  · exact .setLoop e _
  · exact .refl h s

/-- The loop record once the dwell has been advanced (R78). -/
def State.formedLoop (s : State) (g : Group) : LoopRecord :=
  { s.statedLoop g with
    dwell := if (s.coolOf g).loop.state = .critical ∧ s.foundState g = .critical
      then (s.statedLoop g).dwell.map (satInc 65535) else (s.statedLoop g).dwell }

theorem formedLoop_formed (s : State) (g : Group) :
    s.LoopFormed g (s.coolOf g).loop (s.formedLoop g) (s.outlet g) (s.chan (flChan g)).value := by
  refine ⟨rfl, rfl, rfl, rfl, rfl, ?_⟩
  have hst : (s.formedLoop g).state = s.foundState g := rfl
  have hdwell : (s.formedLoop g).dwell = if (s.coolOf g).loop.state = .critical ∧ s.foundState g = .critical
      then (s.statedLoop g).dwell.map (satInc 65535) else (s.statedLoop g).dwell := rfl
  rw [hst, hdwell]
  unfold State.statedLoop
  dsimp only
  by_cases hwas : (s.coolOf g).loop.state = .critical <;> by_cases hnow : s.foundState g = .critical
  · simp only [hwas, hnow, and_self, if_true]
    rfl
  · simp [hwas, hnow]
  · have hne : (.critical : CoolState) ≠ (s.coolOf g).loop.state := fun e => hwas e.symm
    simp [hwas, hnow, hne]
  · simp [hwas, hnow]

theorem formedLoop_begun (s : State) (g : Group) : (s.formedLoop g).begun
    = if (s.coolOf g).loop.state = .critical ∧ (s.formedLoop g).state ≠ .critical then false
      else (s.coolOf g).loop.begun := by
  have hst : (s.formedLoop g).state = s.foundState g := rfl
  have hbegun : (s.formedLoop g).begun = (s.statedLoop g).begun := rfl
  rw [hst, hbegun]
  unfold State.statedLoop
  dsimp only
  by_cases hwas : (s.coolOf g).loop.state = .critical
  · by_cases hnow : s.foundState g = .critical <;> simp [hwas, hnow]
  · simp [hwas]

/-! ### Steps 1 to 5 up to the cooling stop -/

/-- An evaluation begun anew, with its first step done (R73, log 2). -/
def State.evalSensed (s : State) (g : Group) : State := (s.setLeft g .none).evalSensor g

/-- An evaluation up to the advance of the dwell (R73). -/
def State.evalFormed (s : State) (g : Group) : State :=
  ((s.evalSensed g).evalState g).advanceDwell g ((s.evalSensed g).coolOf g).loop.state

theorem evalHead_eq (s : State) (apart : Bool) (g : Group) :
    (s.setLeft g .none).evalHead apart g = (s.evalFormed g).evalStop apart g := rfl

theorem evalSensed_coolOf (s : State) (g : Group) : (s.evalSensed g).coolOf g
    = { s.coolOf g with loop := { (s.coolOf g).loop with fault := s.sensorFault g }, left := .none } := by
  have hf : (s.setLeft g .none).sensorFault g = s.sensorFault g := rfl
  unfold State.evalSensed
  rw [evalSensor_coolOf, coolOf_setLeft_self, hf]

theorem touches_evalSensed (s : State) (g : Group) : Touches [.cool, .events] s (s.evalSensed g) :=
  (touches_evalSensor (by decide)).mpr ((touches_setLeft (by decide)).mpr (Touches.refl _ _))

theorem touches_evalFormed (s : State) (g : Group) : Touches [.cool, .events] s (s.evalFormed g) :=
  (touches_advanceDwell (by decide)).mpr ((touches_evalState (by decide)).mpr (touches_evalSensed s g))

theorem evalSensed_tells (hd : s.sensorFault g ≠ (s.coolOf g).loop.fault) : (s.evalSensed g).Tells .coolingSensor g.num
    [flagByte (s.sensorFault g), beBytes 1 ((s.outletFailed g).toNat + 2 * (s.flowFailed g).toNat)] := by
  unfold State.evalSensed
  rw [evalSensor_of_change (s := s.setLeft g .none) (by rw [coolOf_setLeft_self]; exact hd)]
  exact tells_post_self

/-- What an evaluation up to the advance of the dwell leaves of the records of its group, and what it posts (R74 to
R78, R81, R186). -/
structure State.Formed (s : State) (g : Group) (t : State) : Prop where
  left : (t.coolOf g).left = .none
  fault : (t.coolOf g).loop.fault = s.sensorFault g
  formed : s.LoopFormed g (s.coolOf g).loop (t.coolOf g).loop (s.outlet g) (s.chan (flChan g)).value
  begun : (t.coolOf g).loop.begun
    = if (s.coolOf g).loop.state = .critical ∧ (t.coolOf g).loop.state ≠ .critical then false
      else (s.coolOf g).loop.begun
  stage : (t.coolOf g).loop.stage = (s.coolOf g).loop.stage
  cap : (t.coolOf g).cap = { (s.coolOf g).cap with
    capacity := s.cfgN (.group g .rated) * (t.coolOf g).loop.factor / 1000,
    credit := min (s.coolOf g).cap.credit (s.cfgN (.group g .rated) * (t.coolOf g).loop.factor / 1000) }
  sensor : s.sensorFault g ≠ (s.coolOf g).loop.fault → t.Tells .coolingSensor g.num
    [flagByte (s.sensorFault g), beBytes 1 ((s.outletFailed g).toNat + 2 * (s.flowFailed g).toNat)]
  told : (t.coolOf g).loop.state ≠ (s.coolOf g).loop.state → t.Tells .coolingState g.num
    [beBytes 1 (t.coolOf g).loop.state.code, beBytes 1 (s.coolOf g).loop.state.code,
     beBytes 2 (t.coolOf g).loop.factor]
  quiet : (t.coolOf g).loop.state = (s.coolOf g).loop.state → Leaves (ofSubject .coolingState g.num) s t

theorem evalFormed_coolOf (s : State) (g : Group) : (s.evalFormed g).coolOf g
    = { loop := (s.evalSensed g).formedLoop g, cap := (s.evalSensed g).ratedCap g, left := .none } := by
  have hleft : ((s.evalSensed g).coolOf g).left = .none := by rw [evalSensed_coolOf]
  unfold State.evalFormed
  rw [advanceDwell_coolOf, evalState_coolOf]
  dsimp only
  rw [hleft]
  rfl

theorem loopFormed_congr {t : State} (hset : t.settings = s.settings) {was l : LoopRecord} {temp flow : Int} :
    t.LoopFormed g was l temp flow ↔ s.LoopFormed g was l temp flow := by
  simp only [State.LoopFormed, State.curve, cfg_congr hset, cfgN_congr hset]

theorem leaves_evalFormed_dwell {keep : EventKind → Nat → Bool} (s : State) (g : Group) :
    Leaves keep ((s.evalSensed g).evalState g) (s.evalFormed g) :=
  .of_touches (touches_advanceDwell_self _ _ _) (by decide)

theorem evalFormed_tells_sensor (hd : s.sensorFault g ≠ (s.coolOf g).loop.fault) :
    (s.evalFormed g).Tells .coolingSensor g.num
      [flagByte (s.sensorFault g), beBytes 1 ((s.outletFailed g).toNat + 2 * (s.flowFailed g).toNat)] := by
  have hstate : Leaves (ofKind .coolingSensor) (s.evalSensed g) ((s.evalSensed g).evalState g) :=
    leaves_evalState (.inr rfl)
  exact (hstate.trans (leaves_evalFormed_dwell s g)).tells rfl (evalSensed_tells hd)

theorem evalSensed_state (s : State) (g : Group) :
    ((s.evalSensed g).coolOf g).loop.state = (s.coolOf g).loop.state := by rw [evalSensed_coolOf]

theorem evalFormed_tells_state (hne : ((s.evalSensed g).formedLoop g).state ≠ (s.coolOf g).loop.state) :
    (s.evalFormed g).Tells .coolingState g.num
      [beBytes 1 ((s.evalSensed g).formedLoop g).state.code, beBytes 1 (s.coolOf g).loop.state.code,
       beBytes 2 ((s.evalSensed g).formedLoop g).factor] := by
  have hchange : (s.evalSensed g).foundState g ≠ ((s.evalSensed g).coolOf g).loop.state := by
    rw [evalSensed_state]
    exact hne
  refine (leaves_evalFormed_dwell (keep := ofKind .coolingState) s g).tells rfl ?_
  rw [evalState_of_change hchange, evalSensed_state]
  exact tells_post_self

theorem evalFormed_quiet (hs : ((s.evalSensed g).formedLoop g).state = (s.coolOf g).loop.state) :
    Leaves (ofSubject .coolingState g.num) s (s.evalFormed g) := by
  have hsame : (s.evalSensed g).foundState g = ((s.evalSensed g).coolOf g).loop.state := by
    rw [evalSensed_state]
    exact hs
  have hsensed : Leaves (ofSubject .coolingState g.num) s (s.evalSensed g) :=
    Leaves.trans (t := s.setLeft g .none) (.of_events rfl) (leaves_evalSensor rfl)
  exact hsensed.trans ((leaves_evalState (.inl hsame)).trans (leaves_evalFormed_dwell s g))

theorem evalFormed_formed (s : State) (g : Group) : s.Formed g (s.evalFormed g) := by
  have ht := touches_evalSensed s g
  have hset := ht.settings (by decide)
  have hchan := chan_congr (ht.front (by decide))
  have hout : (s.evalSensed g).outlet g = s.outlet g := congrArg Channel.value (hchan _)
  have hcool := evalSensed_coolOf s g
  have hformed := formedLoop_formed (s.evalSensed g) g
  rw [loopFormed_congr hset, hout, hchan, hcool] at hformed
  have hbegun := formedLoop_begun (s.evalSensed g) g
  rw [hcool] at hbegun
  have hcap : (s.evalSensed g).ratedCap g = { (s.coolOf g).cap with
      capacity := s.cfgN (.group g .rated) * ((s.evalSensed g).formedLoop g).factor / 1000,
      credit := min (s.coolOf g).cap.credit
        (s.cfgN (.group g .rated) * ((s.evalSensed g).formedLoop g).factor / 1000) } := by
    unfold State.ratedCap
    rw [hcool, cfgN_congr hset]
    rfl
  have hfault : ((s.evalSensed g).formedLoop g).fault = s.sensorFault g := congrArg (fun c => c.loop.fault) hcool
  have hstage : ((s.evalSensed g).formedLoop g).stage = (s.coolOf g).loop.stage :=
    congrArg (fun c => c.loop.stage) hcool
  have hnow := evalFormed_coolOf s g
  refine ⟨?_, ?_, ?_, ?_, ?_, ?_, evalFormed_tells_sensor, ?_, ?_⟩
  · rw [hnow]
  · rw [hnow]; exact hfault
  · rw [hnow]; exact hformed
  · rw [hnow]; exact hbegun
  · rw [hnow]; exact hstage
  · rw [hnow]; exact hcap
  · rw [hnow]; exact evalFormed_tells_state
  · rw [hnow]; exact evalFormed_quiet

end

end Sys2Proof.Machine
end

section
/-! PROOFS. The cooling stop, the stage and the unloading of one loop (R78, R79, R83, R84, R97, R98): steps 5 to 7 of
R73. -/

open Sys2Proof Sys2Proof.Machine

namespace Sys2Proof.Machine

section
variable {keep : EventKind → Nat → Bool} {s : State} {g h : Group}

theorem stands_evalFormed (e : h ≠ g) : GroupStands h s (s.evalFormed g) :=
  (GroupStands.setLeft e _).trans ((stands_evalSensor e).trans ((stands_evalState e).trans (stands_advanceDwell e _)))

/-! ### The hand-over of a cooling stop (R98) -/

/-- The unit of a group to which a cooling STOP has been handed over, the group being `unloading` or not (R98). -/
def GroupUnit.stopHanded (u : GroupUnit) (unloading : Bool) : GroupUnit :=
  let entered := { u with command := some (.fresh .stop .cooling (!unloading)) }
  let deferred := { u with coolPending := true }
  match u.command with
  | none => if u.resetFlag.isSome then deferred else entered
  | some x =>
    if x.state = .sent then deferred
    else if x.kind = .stop then u
    else if u.resetFlag.isSome then deferred
    else if x.kind = .groupReset then deferred
    else entered

theorem stopHanded_none {u : GroupUnit} {b : Bool} (hc : u.command = none) : u.stopHanded b
    = if u.resetFlag.isSome then { u with coolPending := true }
      else { u with command := some (.fresh .stop .cooling (!b)) } := by
  unfold GroupUnit.stopHanded
  rw [hc]

theorem stopHanded_some {u : GroupUnit} {b : Bool} {x : Command} (hc : u.command = some x) : u.stopHanded b
    = if x.state = .sent then { u with coolPending := true }
      else if x.kind = .stop then u
      else if u.resetFlag.isSome then { u with coolPending := true }
      else if x.kind = .groupReset then { u with coolPending := true }
      else { u with command := some (.fresh .stop .cooling (!b)) } := by
  unfold GroupUnit.stopHanded
  rw [hc]

theorem stopHanded_rest (u : GroupUnit) (b : Bool) : (u.stopHanded b).record = u.record
    ∧ (u.stopHanded b).resetFlag = u.resetFlag ∧ (u.stopHanded b).stage = u.stage := by
  unfold GroupUnit.stopHanded
  dsimp only
  repeat' split
  all_goals exact ⟨rfl, rfl, rfl⟩

theorem placeCoolingStop_none (hc : (s.unit g).command = none) :
    s.placeCoolingStop g = s.setUnit g ((s.unit g).stopHanded (s.coolOf g).cap.unloading) := by
  have e : s.placeCoolingStop g = if (s.unit g).resetFlag.isSome then s.setUnit g { s.unit g with coolPending := true }
      else s.enterCoolingStop g := by
    unfold State.placeCoolingStop
    dsimp only
    split
    · rfl
    · rename_i hx
      exact absurd (hc.symm.trans hx) nofun
  rw [e, stopHanded_none hc]
  split <;> rfl

theorem placeCoolingStop_some {x : Command} (hc : (s.unit g).command = some x) : s.placeCoolingStop g
    = if x.state = .sent then s.setUnit g { s.unit g with coolPending := true }
      else if x.kind = .stop then s
      else if (s.unit g).resetFlag.isSome then s.setUnit g { s.unit g with coolPending := true }
      else if x.kind = .groupReset then s.setUnit g { s.unit g with coolPending := true }
      else (s.postCompletion g x .superseded 0).enterCoolingStop g := by
  unfold State.placeCoolingStop
  dsimp only
  split
  · rename_i hx
    exact absurd (hc.symm.trans hx) nofun
  · rename_i y hy
    obtain rfl := Option.some.inj (hc.symm.trans hy)
    rfl

/-- A command that is neither in flight nor a STOP or GROUP_RESET, without a GROUP_RESET waiting behind it, completes
SUPERSEDED (R98). -/
abbrev GroupUnit.Superseded (u : GroupUnit) (x : Command) : Prop :=
  x.state ≠ .sent ∧ x.kind ≠ .stop ∧ u.resetFlag = none ∧ x.kind ≠ .groupReset

theorem placeCoolingStop_superseded {x : Command} (hc : (s.unit g).command = some x) (hx : (s.unit g).Superseded x) :
    s.placeCoolingStop g = (s.post .orderFailed g.num
        [beBytes 1 x.origin.code, beBytes 1 x.origin.tag, beBytes 1 x.kind.orderCode, beBytes 1 x.seq, [4#8],
         [0#8]]).setUnit g ((s.unit g).stopHanded (s.coolOf g).cap.unloading) := by
  obtain ⟨hsent, hstop, hflag, hreset⟩ := hx
  have hflag : ¬ (s.unit g).resetFlag.isSome = true := by simp [hflag]
  rw [placeCoolingStop_some hc, stopHanded_some hc]
  simp only [if_neg hsent, if_neg hstop, if_neg hflag, if_neg hreset]
  rfl

theorem placeCoolingStop_kept {x : Command} (hc : (s.unit g).command = some x) (hx : ¬ (s.unit g).Superseded x) :
    s.placeCoolingStop g = s.setUnit g ((s.unit g).stopHanded (s.coolOf g).cap.unloading) := by
  rw [placeCoolingStop_some hc, stopHanded_some hc]
  by_cases hsent : x.state = .sent
  · simp only [if_pos hsent]
  by_cases hstop : x.kind = .stop
  · simp only [if_neg hsent, if_pos hstop, setUnit_unit]
  by_cases hflag : (s.unit g).resetFlag.isSome = true
  · simp only [if_neg hsent, if_neg hstop, if_pos hflag]
  have hreset : x.kind = .groupReset := by
    by_contra hne
    exact hx ⟨hsent, hstop, by simpa using hflag, hne⟩
  simp only [if_neg hsent, if_neg hstop, if_neg hflag, if_pos hreset]

/-- Handing a cooling stop over changes the unit of its group, and posts the failure of a command that it supersedes
and nothing else (R98, R106). -/
theorem placeCoolingStop_cases (s : State) (g : Group) : ∃ t, (t = s ∨ ∃ fields, t = s.post .orderFailed g.num fields)
    ∧ s.placeCoolingStop g = t.setUnit g ((s.unit g).stopHanded (s.coolOf g).cap.unloading) := by
  cases hc : (s.unit g).command with
  | none => exact ⟨s, .inl rfl, placeCoolingStop_none hc⟩
  | some x =>
    by_cases hx : (s.unit g).Superseded x
    · exact ⟨_, .inr ⟨_, rfl⟩, placeCoolingStop_superseded hc hx⟩
    · exact ⟨s, .inl rfl, placeCoolingStop_kept hc hx⟩

theorem placeCoolingStop_unit (s : State) (g : Group) :
    (s.placeCoolingStop g).unit g = (s.unit g).stopHanded (s.coolOf g).cap.unloading := by
  obtain ⟨t, _, e⟩ := placeCoolingStop_cases s g
  rw [e, unit_setUnit_self]

theorem leaves_placeCoolingStop (hk : keep .orderFailed g.num = false) : Leaves keep s (s.placeCoolingStop g) := by
  obtain ⟨t, rfl | ⟨fields, rfl⟩, e⟩ := placeCoolingStop_cases s g
  · rw [e]
    exact .of_events rfl
  · rw [e]
    exact (leaves_self_post hk).trans (.of_events rfl)

theorem stands_placeCoolingStop (e : h ≠ g) : GroupStands h s (s.placeCoolingStop g) := by
  obtain ⟨t, rfl | ⟨fields, rfl⟩, eq⟩ := placeCoolingStop_cases s g
  · rw [eq]
    exact .setUnit e _
  · rw [eq]
    exact (GroupStands.post e _ _).trans (.setUnit e _)

/-! ### The cooling stop (R78) -/

theorem stopDue_iff : s.stopDue g = true ↔ s.StopFallsDue g (s.coolOf g).loop.dwell (s.coolOf g).loop.begun := by
  unfold State.stopDue State.StopFallsDue
  dsimp only
  cases (s.coolOf g).loop.begun <;> cases (s.coolOf g).loop.dwell <;> simp

theorem stoppable_iff {st : GroupState} : st.stoppable = true ↔ st = .starting ∨ st = .running ∨ st = .unknown := by
  cases st <;> decide

theorem flagByte_stoppable {st : GroupState} :
    flagByte st.stoppable = if st = .starting ∨ st = .running ∨ st = .unknown then [1#8] else [0#8] := by
  cases st <;> rfl

/-- A cooling stop begun, with the unloading that it brings (R78, R83). -/
def State.stopUnloading (s : State) (g : Group) : State :=
  (s.setLoop g { (s.coolOf g).loop with begun := true }).when (s.allocatable g) fun s => s.beginUnload g .cooling

theorem touches_stopUnloading (s : State) (g : Group) : Touches [.cool] s (s.stopUnloading g) :=
  (touches_when fun _ => touches_beginUnload_self _ _ _).mpr ((touches_setLoop (by decide)).mpr (Touches.refl _ s))

theorem stopUnloading_coolOf (s : State) (g : Group) : (s.stopUnloading g).coolOf g
    = { s.coolOf g with
        loop := { (s.coolOf g).loop with begun := true }, cap := s.unloadingBegun g (s.coolOf g).cap } := by
  unfold State.stopUnloading State.unloadingBegun
  cases s.allocatable g
  · exact coolOf_setLoop_self _ _ _
  · refine (beginUnload_coolOf_self _ _ _).trans ?_
    rw [coolOf_setLoop_self]
    cases hu : (s.coolOf g).cap.unloading <;> simp [CapRecord.begun, hu]

theorem stands_stopUnloading (e : h ≠ g) : GroupStands h s (s.stopUnloading g) := by
  have hbegin : ∀ u : State, GroupStands h u (u.beginUnload g .cooling) := fun u =>
    ⟨beginUnload_coolOf_ne u _ e, unit_congr ((touches_beginUnload_self u g _).link (by decide)) h,
      .of_touches (touches_beginUnload_self u g _) (by decide)⟩
  exact (GroupStands.setLoop e _).trans (.when hbegin)

/-- A cooling stop begun, the unloading with it, and the STOP handed over (R78, R83, R98). -/
def State.stopPlaced (s : State) (g : Group) : State :=
  (s.stopUnloading g).when (s.unit g).record.state.stoppable fun s => s.placeCoolingStop g

theorem beginCoolingStop_eq (s : State) (g : Group) : s.beginCoolingStop g = (s.stopPlaced g).post .coolingStop g.num
    [beSigned 2 (s.outlet g), flagByte (s.unit g).record.state.stoppable] := by
  have hunit : (s.stopUnloading g).unit g = s.unit g := unit_congr ((touches_stopUnloading s g).link (by decide)) g
  have ht : Touches [.cool, .link, .events] s (s.stopPlaced g) :=
    (touches_when fun _ => (touches_placeCoolingStop (by decide)).mpr (Touches.refl _ _)).mpr
      ((touches_stopUnloading s g).mono (by decide))
  have hout : (s.stopPlaced g).outlet g = s.outlet g := congrArg Channel.value (chan_congr (ht.front (by decide)) _)
  rw [← hout]
  unfold State.stopPlaced
  rw [← hunit]
  rfl

theorem beginCoolingStop_coolOf (s : State) (g : Group) : (s.beginCoolingStop g).coolOf g
    = { s.coolOf g with
        loop := { (s.coolOf g).loop with begun := true }, cap := s.unloadingBegun g (s.coolOf g).cap } := by
  have ht : Touches [.link, .events] (s.stopUnloading g) (s.beginCoolingStop g) := by
    rw [beginCoolingStop_eq, touches_post (by decide)]
    exact (touches_when fun _ => (touches_placeCoolingStop (by decide)).mpr (Touches.refl _ _)).mpr (Touches.refl _ _)
  rw [coolOf_congr (ht.cool (by decide)), stopUnloading_coolOf]

theorem beginCoolingStop_unit (s : State) (g : Group) : (s.beginCoolingStop g).unit g
    = if (s.unit g).record.state.stoppable then (s.unit g).stopHanded (s.unloadingBegun g (s.coolOf g).cap).unloading
      else s.unit g := by
  have hunit : (s.stopUnloading g).unit g = s.unit g := unit_congr ((touches_stopUnloading s g).link (by decide)) g
  rw [beginCoolingStop_eq]
  show (s.stopPlaced g).unit g = _
  unfold State.stopPlaced State.when
  split
  · rw [placeCoolingStop_unit, stopUnloading_coolOf, hunit]
  · exact hunit

theorem beginCoolingStop_tells (s : State) (g : Group) : (s.beginCoolingStop g).Tells .coolingStop g.num
    [beSigned 2 (s.outlet g), flagByte (s.unit g).record.state.stoppable] := by
  rw [beginCoolingStop_eq]
  exact tells_post_self

theorem beginCoolingStop_tells_superseded {x : Command} (hst : (s.unit g).record.state.stoppable = true)
    (hc : (s.unit g).command = some x) (hx : (s.unit g).Superseded x) : (s.beginCoolingStop g).Tells .orderFailed g.num
      [beBytes 1 x.origin.code, beBytes 1 x.origin.tag, beBytes 1 x.kind.orderCode, beBytes 1 x.seq, [4#8], [0#8]] := by
  have hunit : (s.stopUnloading g).unit g = s.unit g := unit_congr ((touches_stopUnloading s g).link (by decide)) g
  rw [beginCoolingStop_eq]
  unfold State.stopPlaced
  rw [hst]
  refine (leaves_self_post (keep := ofKind .orderFailed) rfl).tells rfl ?_
  show ((s.stopUnloading g).placeCoolingStop g).Tells _ _ _
  rw [placeCoolingStop_superseded (by rw [hunit]; exact hc) (by rw [hunit]; exact hx)]
  exact (tells_congr rfl).mpr tells_post_self

theorem leaves_beginCoolingStop (hf : keep .orderFailed g.num = false) (hs : keep .coolingStop g.num = false) :
    Leaves keep s (s.beginCoolingStop g) := by
  rw [beginCoolingStop_eq]
  refine leaves_post (Leaves.trans (t := s.stopUnloading g) (.of_touches (touches_stopUnloading s g) (by decide)) ?_) hs
  unfold State.stopPlaced State.when
  split
  · exact leaves_placeCoolingStop hf
  · exact .refl keep _

theorem stands_beginCoolingStop (e : h ≠ g) : GroupStands h s (s.beginCoolingStop g) := by
  rw [beginCoolingStop_eq]
  exact (stands_stopUnloading e).trans ((GroupStands.when fun _ => stands_placeCoolingStop e).trans (.post e _ _))

/-! ### Step 6: the stage (R79) -/

/-- The highest of three stages that hold (R79). -/
theorem foldl_max_stages (p : Fin 3 → Bool) :
    ((((List.finRange 3).filter p).map fun k => k.val + 1).foldl max 0)
      = max (if p 0 then 1 else 0) (max (if p 1 then 2 else 0) (if p 2 then 3 else 0)) := by
  have hlist : List.finRange 3 = [0, 1, 2] := rfl
  rw [hlist]
  cases h0 : p 0 <;> cases h1 : p 1 <;> cases h2 : p 2 <;> simp [List.filter, h0, h1, h2]

/-- The thresholds that are in force among the stages up to `was` (R79). -/
theorem highestStage_take (t hyst a b c : Int) (was : Nat) :
    highestStage t hyst ([(1, a), (2, b), (3, c)].take was)
      = max (if 1 ≤ was ∧ a - hyst ≤ t then 1 else 0)
          (max (if 2 ≤ was ∧ b - hyst ≤ t then 2 else 0) (if 3 ≤ was ∧ c - hyst ≤ t then 3 else 0)) := by
  match was with
  | 0 => rfl
  | 1 => simp [highestStage]
  | 2 => simp [highestStage]
  | n + 3 => simp [highestStage]

theorem ite_or_eq_max (p q : Prop) [Decidable p] [Decidable q] (n : Nat) :
    (if p ∨ q then n else 0) = max (if p then n else 0) (if q then n else 0) := by
  by_cases hp : p <;> by_cases hq : q <;> simp [hp, hq]

theorem nextStage_eq (s : State) (g : Group) : s.nextStage g
    = s.stageAfter g (s.coolOf g).loop.fault (s.coolOf g).loop.stage (s.outlet g) := by
  unfold State.nextStage State.stageAfter
  extract_lets l t table on holds
  have htable : highestStage t 0 table
      = max (if on 0 ≤ t then 1 else 0) (max (if on 1 ≤ t then 2 else 0) (if on 2 ≤ t then 3 else 0)) := by
    simpa using highestStage_take t 0 (on 0) (on 1) (on 2) 3
  have hkept := highestStage_take t (s.cfg .stageHyst) (on 0) (on 1) (on 2) l.stage
  have hmax : max (highestStage t 0 table) (highestStage t (s.cfg .stageHyst) (table.take l.stage))
      = (holds.map fun k => k.val + 1).foldl max 0 := by
    rw [foldl_max_stages, htable, hkept]
    simp only [decide_eq_true_eq, ite_or_eq_max]
    exact (max_max_max_comm _ _ _ _).trans (congrArg _ (max_max_max_comm _ _ _ _))
  rw [hmax]

theorem evalStage_coolOf (s : State) (g : Group) : (s.evalStage g).coolOf g
    = { s.coolOf g with loop := { (s.coolOf g).loop with stage := s.nextStage g } } := by
  unfold State.evalStage
  dsimp only
  split
  · rename_i h
    rw [h]
  · exact coolOf_setLoop_self _ _ _

theorem evalStage_unit (s : State) (g : Group) : (s.evalStage g).unit g
    = { s.unit g with stage := if s.nextStage g = (s.coolOf g).loop.stage then (s.unit g).stage
        else (s.unit g).stage.written (s.nextStage g) } := by
  unfold State.evalStage
  dsimp only
  split
  · rfl
  · exact unit_setUnit_self _ _ _

theorem touches_evalStage_self (s : State) (g : Group) : Touches [.cool, .link] s (s.evalStage g) :=
  (touches_evalStage (by decide)).mpr (Touches.refl _ _)

theorem stands_evalStage (e : h ≠ g) : GroupStands h s (s.evalStage g) := by
  unfold State.evalStage
  dsimp only
  split
  · exact .refl h s
  · exact (GroupStands.setLoop e _).trans (.setUnit e _)

/-! ### Step 7: the unloading (R84, R97) -/

/-- An unloading with its timer advanced (R84). -/
def State.unloadTimed (s : State) (g : Group) : State :=
  s.setCap g { (s.coolOf g).cap with timer := satInc 3000 (s.coolOf g).cap.timer }

theorem unloadTimed_coolOf (s : State) (g : Group) : (s.unloadTimed g).coolOf g
    = { s.coolOf g with cap := { (s.coolOf g).cap with timer := satInc 3000 (s.coolOf g).cap.timer } } :=
  coolOf_setCap_self _ _ _

theorem unloadTimed_levelMet_iff : (s.unloadTimed g).levelMet g = true ↔ s.LevelReached g (s.chan (gcChan g)) :=
  levelMet_iff (s := s.unloadTimed g)

theorem unloadTimed_timeUp_iff : (s.unloadTimed g).unloadTimeUp g = true
    ↔ s.cfgN (.group g .unloadTime) * 10 ≤ satInc 3000 (s.coolOf g).cap.timer := by
  rw [unloadTimeUp_iff, unloadTimed_coolOf]
  rfl

/-- The time of an unloading whose timer the sample advances is up, and the sample may end it (R84, log 2). -/
abbrev State.TimeUpAfter (s : State) (g : Group) (apart : Bool) : Prop :=
  apart = false ∧ s.cfgN (.group g .unloadTime) * 10 ≤ satInc 3000 (s.coolOf g).cap.timer

theorem evalUnload_eq (s : State) (g : Group) (apart : Bool) : s.evalUnload g apart
    = if (s.coolOf g).cap.unloading = false then s
      else if s.LevelReached g (s.chan (gcChan g)) then (s.unloadTimed g).endUnload g .level
      else if s.TimeUpAfter g apart then (s.unloadTimed g).endUnload g .time
      else s.unloadTimed g := by
  have e : s.evalUnload g apart
      = if (s.coolOf g).cap.unloading then
          if (s.unloadTimed g).levelMet g then (s.unloadTimed g).endUnload g .level
          else if !apart && (s.unloadTimed g).unloadTimeUp g then (s.unloadTimed g).endUnload g .time
          else s.unloadTimed g
        else s := rfl
  rw [e]
  by_cases hu : (s.coolOf g).cap.unloading = true
  · rw [if_pos hu, if_neg (c := (s.coolOf g).cap.unloading = false) (by rw [hu]; decide)]
    simp only [unloadTimed_levelMet_iff, Bool.and_eq_true, Bool.not_eq_true', unloadTimed_timeUp_iff]
  · rw [if_neg hu, if_pos (Bool.eq_false_iff.mpr hu)]

theorem unloadingAfter_eq (s : State) (g : Group) (apart : Bool) :
    s.unloadingAfter g (s.chan (gcChan g)) apart (s.coolOf g).cap
      = if (s.coolOf g).cap.unloading = false then (s.coolOf g).cap
        else if s.LevelReached g (s.chan (gcChan g)) then ((s.unloadTimed g).coolOf g).cap.ended .level
        else if s.TimeUpAfter g apart then ((s.unloadTimed g).coolOf g).cap.ended .time
        else ((s.unloadTimed g).coolOf g).cap := by
  have hended : ∀ cause, (s.coolOf g).cap.unloading ≠ false → ((s.unloadTimed g).coolOf g).cap.ended cause
      = { (s.coolOf g).cap with
          timer := satInc 3000 (s.coolOf g).cap.timer, unloading := false, lastEnd := cause } := by
    intro cause hu
    rw [unloadTimed_coolOf]
    exact if_pos (Bool.eq_true_of_not_eq_false hu)
  unfold State.unloadingAfter
  dsimp only
  split
  · rfl
  · rename_i hu
    rw [hended _ hu, hended _ hu, unloadTimed_coolOf]
    rfl

theorem evalUnload_coolOf (s : State) (g : Group) (apart : Bool) : (s.evalUnload g apart).coolOf g
    = { s.coolOf g with cap := s.unloadingAfter g (s.chan (gcChan g)) apart (s.coolOf g).cap } := by
  rw [unloadingAfter_eq, evalUnload_eq]
  split
  · rfl
  split
  · rw [endUnload_coolOf_self, unloadTimed_coolOf]
  split
  · rw [endUnload_coolOf_self, unloadTimed_coolOf]
  · rw [unloadTimed_coolOf]

/-- The sample ends the unloading of a group (R84). -/
abbrev State.UnloadEnds (s : State) (g : Group) (apart : Bool) : Prop :=
  (s.coolOf g).cap.unloading = true
    ∧ (s.unloadingAfter g (s.chan (gcChan g)) apart (s.coolOf g).cap).unloading = false

theorem released_of_not {x : Command} {p : Prop} [Decidable p] (hp : ¬ p) : x.released p = x :=
  if_neg fun h => hp h.2

theorem released_congr {x : Command} {p q : Prop} [Decidable p] [Decidable q] (h : p ↔ q) :
    x.released p = x.released q := by
  simp only [Command.released, h]

theorem evalUnload_unit (s : State) (g : Group) (apart : Bool) : (s.evalUnload g apart).unit g
    = { s.unit g with command := (s.unit g).command.map fun x => x.released (s.UnloadEnds g apart) } := by
  have hstill : ¬ s.UnloadEnds g apart → s.unit g
      = { s.unit g with command := (s.unit g).command.map fun x => x.released (s.UnloadEnds g apart) } := by
    intro hn
    simp only [released_of_not hn, Option.map_id']
  have hends : ∀ cause, (s.coolOf g).cap.unloading = true → s.UnloadEnds g apart →
      ((s.unloadTimed g).endUnload g cause).unit g
        = { s.unit g with command := (s.unit g).command.map fun x => x.released (s.UnloadEnds g apart) } := by
    intro cause hu he
    rw [endUnload_unit_self, unloadTimed_coolOf]
    simp only [released_congr (iff_of_true hu he)]
    rfl
  rw [evalUnload_eq]
  split
  · rename_i hu
    exact hstill fun h => Bool.false_ne_true (hu.symm.trans h.1)
  · rename_i hu
    have hu := Bool.eq_true_of_not_eq_false hu
    have hafter := unloadingAfter_eq s g apart
    rw [if_neg ‹_›] at hafter
    split
    · rw [if_pos ‹_›] at hafter
      exact hends _ hu ⟨hu, by rw [hafter, CapRecord.ended_unloading]⟩
    · rw [if_neg ‹_›] at hafter
      split
      · rw [if_pos ‹_›] at hafter
        exact hends _ hu ⟨hu, by rw [hafter, CapRecord.ended_unloading]⟩
      · rw [if_neg ‹_›, unloadTimed_coolOf] at hafter
        refine hstill fun h => ?_
        obtain ⟨_, hnow⟩ := h
        rw [hafter] at hnow
        exact Bool.false_ne_true (hnow.symm.trans hu)

theorem touches_evalUnload_self (s : State) (g : Group) (apart : Bool) :
    Touches [.cool, .link] s (s.evalUnload g apart) :=
  (touches_evalUnload (by decide)).mpr (Touches.refl _ _)

theorem stands_evalUnload (e : h ≠ g) (apart : Bool) : GroupStands h s (s.evalUnload g apart) := by
  have hend : ∀ (u : State) cause, GroupStands h u (u.endUnload g cause) := fun u cause =>
    ⟨endUnload_coolOf_ne u cause e, endUnload_unit_ne u cause e,
      .of_touches (l := [.cool, .link]) ((touches_endUnload (by decide)).mpr (Touches.refl _ u)) (by decide)⟩
  have htimed : GroupStands h s (s.unloadTimed g) := .setCap e _
  rw [evalUnload_eq]
  split
  · exact .refl h s
  split
  · exact htimed.trans (hend _ _)
  split
  · exact htimed.trans (hend _ _)
  · exact htimed

/-! ### Steps 6 and 7 -/

/-- Steps 6 and 7 of R73. -/
def State.evalLast (s : State) (g : Group) (apart : Bool) : State := (s.evalStage g).evalUnload g apart

theorem evalStageUnload_goesOn (hf : s.fitted g = true) (hl : (s.coolOf g).left = .none) (apart : Bool) :
    s.evalStageUnload apart g = s.evalLast g apart := if_pos (by rw [hf, hl]; rfl)

theorem evalStageUnload_halted (hl : s.fitted g = false ∨ (s.coolOf g).left ≠ .none) (apart : Bool) :
    s.evalStageUnload apart g = s := by
  refine if_neg fun h => ?_
  obtain ⟨hf, hn⟩ := Bool.and_eq_true_iff.mp h
  rcases hl with hl | hl
  · exact Bool.false_ne_true (hl.symm.trans hf)
  · exact hl (beq_iff_eq.mp hn)

theorem unloadingAfter_congr {t : State} (hset : t.settings = s.settings) (gc : Channel) (apart : Bool)
    (c : CapRecord) : t.unloadingAfter g gc apart c = s.unloadingAfter g gc apart c := by
  simp only [State.unloadingAfter, State.LevelReached, cfg_congr hset, cfgN_congr hset]

theorem evalStage_unloadingAfter (s : State) (g : Group) (apart : Bool) :
    (s.evalStage g).unloadingAfter g ((s.evalStage g).chan (gcChan g)) apart ((s.evalStage g).coolOf g).cap
      = s.unloadingAfter g (s.chan (gcChan g)) apart (s.coolOf g).cap := by
  have ht := touches_evalStage_self s g
  rw [unloadingAfter_congr (ht.settings (by decide)), chan_congr (ht.front (by decide)), evalStage_coolOf]

/-- The stage that a sample finds for the loop of `g` (R79). -/
abbrev State.stageFound (s : State) (g : Group) : Nat :=
  s.stageAfter g (s.coolOf g).loop.fault (s.coolOf g).loop.stage (s.outlet g)

theorem evalLast_coolOf (s : State) (g : Group) (apart : Bool) : (s.evalLast g apart).coolOf g
    = { s.coolOf g with
        loop := { (s.coolOf g).loop with stage := s.stageFound g },
        cap := s.unloadingAfter g (s.chan (gcChan g)) apart (s.coolOf g).cap } := by
  unfold State.evalLast
  rw [evalUnload_coolOf, evalStage_unloadingAfter, evalStage_coolOf, nextStage_eq]

theorem evalLast_unit (s : State) (g : Group) (apart : Bool) : (s.evalLast g apart).unit g
    = { s.unit g with
        command := (s.unit g).command.map fun x => x.released (s.UnloadEnds g apart),
        stage := if s.stageFound g = (s.coolOf g).loop.stage then (s.unit g).stage
          else (s.unit g).stage.written (s.stageFound g) } := by
  have hends : (s.evalStage g).UnloadEnds g apart ↔ s.UnloadEnds g apart := by
    unfold State.UnloadEnds
    rw [evalStage_unloadingAfter, evalStage_coolOf]
  unfold State.evalLast
  rw [evalUnload_unit, evalStage_unit, nextStage_eq]
  simp only [released_congr hends]

theorem touches_evalLast (s : State) (g : Group) (apart : Bool) : Touches [.cool, .link] s (s.evalLast g apart) :=
  (touches_evalStage_self s g).trans (touches_evalUnload_self _ g apart)

theorem stands_evalLast (e : h ≠ g) (apart : Bool) : GroupStands h s (s.evalLast g apart) :=
  (stands_evalStage e).trans (stands_evalUnload e apart)

theorem stands_evalStageUnload (e : h ≠ g) (apart : Bool) : GroupStands h s (s.evalStageUnload apart g) := by
  unfold State.evalStageUnload
  split
  · exact stands_evalLast e apart
  · exact .refl h s

end

end Sys2Proof.Machine
end

section
/-! PROOFS. COOLING_STOP (O28; R73, R78, R79, R83, R84, R98): an evaluation gone on with from the cooling stop. -/

open Sys2Proof Sys2Proof.Machine

namespace Sys2Proof.Machine

section
variable {s : State} {g : Group}

/-! ### What is read of the state depends on the settings, the channels and the record of the group only -/

theorem stageAfter_congr {t : State} (hset : t.settings = s.settings) (fault : Bool) (was : Nat) (temp : Int) :
    t.stageAfter g fault was temp = s.stageAfter g fault was temp := by
  simp only [State.stageAfter, cfg_congr hset]

theorem stopFallsDue_congr {t : State} (hset : t.settings = s.settings) {dwell : Option Nat} {begun : Bool} :
    t.StopFallsDue g dwell begun ↔ s.StopFallsDue g dwell begun := by
  simp only [State.StopFallsDue, cfgN_congr hset]

theorem unloadingBegun_congr {t : State} (ha : t.allocatable g = s.allocatable g) (c : CapRecord) :
    t.unloadingBegun g c = s.unloadingBegun g c := by
  simp only [State.unloadingBegun, ha]

/-! ### What the cycle of a change of phase leaves (R130, R138 to R140) -/

/-- From `s` to `t` at most an out-of-turn cycle has been run: of the loops and units only share slots have changed,
and CAPACITY_LIMIT alone may have been posted. -/
structure CycleFollows (s t : State) : Prop where
  touches : Touches [.energy, .events, .reg, .link] s t
  unit : ∀ g, ∃ x, t.unit g = { s.unit g with share := x }
  leaves : ∀ keep, keep .capacityLimit 0 = false → Leaves keep s t

theorem leaves_outOfTurn {keep : EventKind → Nat → Bool} (hk : keep .capacityLimit 0 = false) :
    Leaves keep s s.outOfTurn := by
  cases hr : s.regulating
  · rw [outOfTurn_of_not_regulating hr]
    exact .refl keep s
  · rw [outOfTurn_of_regulating hr, setTarget_eq]
    refine Leaves.trans (t := s.cycleReported false) ?_
      (Leaves.trans (t := (s.cycleReported false).setReg (s.cycleRecord false)) (.of_events rfl)
        (.of_touches touches_writeShares (by decide)))
    have hmark : ∀ c : Bool, Leaves keep s (s.when c State.markAeHeld) := fun c => by
      cases c
      · exact .refl keep s
      · exact .of_events rfl
    unfold State.cycleReported
    extract_lets ramp
    unfold State.when
    split
    · exact leaves_post (hmark _) hk
    · exact hmark _

theorem cycleFollows (s : State) (head tail : State → State) :
    CycleFollows (tail (head s)) (s.withUnloadCycle head tail) := by
  refine ⟨touches_unloadCycle, unloadCycle_unit, fun keep hk => ?_⟩
  unfold State.withUnloadCycle State.when
  dsimp only
  split
  · exact leaves_outOfTurn hk
  · exact .refl keep _

namespace CycleFollows

variable {t : State}

theorem coolOf (h : CycleFollows s t) (g : Group) : t.coolOf g = s.coolOf g :=
  coolOf_congr (h.touches.cool (by decide)) g

theorem slots (h : CycleFollows s t) (g : Group) : (t.unit g).command = (s.unit g).command
    ∧ (t.unit g).stage = (s.unit g).stage ∧ (t.unit g).resetFlag = (s.unit g).resetFlag
    ∧ (t.unit g).coolPending = (s.unit g).coolPending := by
  obtain ⟨x, hx⟩ := h.unit g
  rw [hx]
  exact ⟨rfl, rfl, rfl, rfl⟩

theorem tells (h : CycleFollows s t) {k : EventKind} {n : Nat} {fields : List (List Byte)} (hk : k ≠ .capacityLimit)
    (ht : s.Tells k n fields) : t.Tells k n fields :=
  (h.leaves (ofKind k) (beq_eq_false_iff_ne.mpr hk.symm)).tells (beq_self_eq_true k) ht

end CycleFollows

/-! ### An unloading that the sample ends releases the STOP (R84, R97) -/

theorem unloadEnds_apart_iff : s.UnloadEnds g true
    ↔ (s.coolOf g).cap.unloading = true ∧ s.LevelReached g (s.chan (gcChan g)) := by
  unfold State.UnloadEnds
  rw [unloadingAfter_eq]
  refine and_congr_right fun hu => ?_
  rw [if_neg (by rw [hu]; decide)]
  split
  · exact iff_of_true (CapRecord.ended_unloading _ _) ‹_›
  · rw [if_neg fun h => Bool.false_ne_true h.1.symm, unloadTimed_coolOf]
    exact iff_of_false (fun h => Bool.false_ne_true (h.symm.trans hu)) ‹_›

/-- A STOP that has entered with the unloading as it stood is sendable as the unloading stands after the sample. -/
theorem released_fresh (s : State) (g : Group) (apart : Bool) :
    (Command.fresh .stop .cooling (!(s.coolOf g).cap.unloading)).released (s.UnloadEnds g apart)
      = .fresh .stop .cooling
          (!(s.unloadingAfter g (s.chan (gcChan g)) apart (s.coolOf g).cap).unloading) := by
  by_cases he : s.UnloadEnds g apart
  · obtain ⟨_, hnow⟩ := id he
    refine (if_pos ⟨rfl, he⟩).trans ?_
    rw [hnow]
    rfl
  · refine (released_of_not he).trans (congrArg (fun b => Command.fresh .stop .cooling (!b)) ?_)
    cases hu : (s.coolOf g).cap.unloading
    · rw [unloadingAfter_eq, if_pos hu, hu]
    · exact (Bool.eq_true_of_not_eq_false fun hnow => he ⟨hu, hnow⟩).symm

/-! ### COOLING_STOP -/

/-- A cooling stop gone on with falls due (R73, R78, log 2). -/
abbrev State.CoolingStopDue (s : State) (g : Group) : Prop :=
  s.fitted g = true ∧ (s.coolOf g).left = .stop
    ∧ s.StopFallsDue g (s.coolOf g).loop.dwell (s.coolOf g).loop.begun

theorem coolingStop_not_due (h : ¬ s.CoolingStopDue g) : s.coolingStop g = s := by
  refine if_neg fun hd => h ?_
  obtain ⟨hfl, hstop⟩ := Bool.and_eq_true_iff.mp hd
  obtain ⟨hf, hl⟩ := Bool.and_eq_true_iff.mp hfl
  exact ⟨hf, beq_iff_eq.mp hl, stopDue_iff.mp hstop⟩

/-- The cooling stop of an evaluation gone on with, before steps 6 and 7. -/
def State.stopBegun (s : State) (g : Group) : State := (s.setLeft g .none).beginCoolingStop g

theorem coolingStop_due (h : s.CoolingStopDue g) : s.coolingStop g
    = s.withUnloadCycle (fun s => s.stopBegun g) fun s => s.evalStageUnload true g := by
  obtain ⟨hf, hl, hstop⟩ := h
  exact if_pos (by rw [hf, hl, stopDue_iff.mpr hstop]; rfl)

theorem stopBegun_coolOf (s : State) (g : Group) : (s.stopBegun g).coolOf g
    = { loop := { (s.coolOf g).loop with begun := true }, cap := s.unloadingBegun g (s.coolOf g).cap,
        left := .none } := by
  unfold State.stopBegun
  rw [beginCoolingStop_coolOf, coolOf_setLeft_self]
  rfl

theorem stopBegun_unit (s : State) (g : Group) : (s.stopBegun g).unit g
    = if (s.unit g).record.state.stoppable then (s.unit g).stopHanded (s.unloadingBegun g (s.coolOf g).cap).unloading
      else s.unit g := by
  unfold State.stopBegun
  rw [beginCoolingStop_unit, coolOf_setLeft_self]
  rfl

theorem touches_stopBegun (s : State) (g : Group) : Touches [.cool, .link, .events] s (s.stopBegun g) :=
  (touches_beginCoolingStop (by decide)).mpr ((touches_setLeft (by decide)).mpr (Touches.refl _ s))

/-- The cooling stop of an evaluation gone on with, and steps 6 and 7. -/
def State.stopEvaluated (s : State) (g : Group) : State := (s.stopBegun g).evalLast g true

theorem coolingStop_eq (h : s.CoolingStopDue g) : (s.stopBegun g).evalStageUnload true g = s.stopEvaluated g := by
  obtain ⟨hf, _, _⟩ := h
  exact evalStageUnload_goesOn ((fitted_congr ((touches_stopBegun s g).settings (by decide)) g).trans hf)
    (by rw [stopBegun_coolOf]) true

theorem touches_stopEvaluated (s : State) (g : Group) : Touches [.cool, .link, .events] s (s.stopEvaluated g) :=
  (touches_stopBegun s g).trans ((touches_evalLast _ g true).mono (by decide))

/-- The sample ends the unloading of a group that a cooling stop has reached by its level (R84). -/
abbrev State.StopLevelEnds (s : State) (g : Group) : Prop :=
  (s.unloadingBegun g (s.coolOf g).cap).unloading = true ∧ s.LevelReached g (s.chan (gcChan g))

theorem stopBegun_unloadEnds_iff (s : State) (g : Group) : (s.stopBegun g).UnloadEnds g true ↔ s.StopLevelEnds g := by
  have hv := touches_stopBegun s g
  rw [unloadEnds_apart_iff, stopBegun_coolOf, chan_congr (hv.front (by decide))]
  simp only [State.LevelReached, cfg_congr (hv.settings (by decide))]

theorem stopBegun_stageFound (s : State) (g : Group) : (s.stopBegun g).stageFound g = s.stageFound g := by
  have hv := touches_stopBegun s g
  have hout : (s.stopBegun g).outlet g = s.outlet g := congrArg Channel.value (chan_congr (hv.front (by decide)) _)
  unfold State.stageFound
  rw [stageAfter_congr (hv.settings (by decide)), hout, stopBegun_coolOf]

theorem stopEvaluated_coolOf (s : State) (g : Group) : (s.stopEvaluated g).coolOf g
    = { loop := { (s.coolOf g).loop with begun := true, stage := s.stageFound g },
        cap := s.unloadingAfter g (s.chan (gcChan g)) true (s.unloadingBegun g (s.coolOf g).cap), left := .none } := by
  have hv := touches_stopBegun s g
  unfold State.stopEvaluated
  rw [evalLast_coolOf, stopBegun_stageFound, unloadingAfter_congr (hv.settings (by decide)),
    chan_congr (hv.front (by decide)), stopBegun_coolOf]

/-- The unit after a cooling stop: what the hand-over makes of it, and the STOP released if the sample ends the
unloading. -/
theorem stopEvaluated_unit (s : State) (g : Group) {v : GroupUnit} (hv : (s.stopBegun g).unit g = v) :
    (s.stopEvaluated g).unit g = { v with
      command := v.command.map fun x => x.released (s.StopLevelEnds g),
      stage := if s.stageFound g = (s.coolOf g).loop.stage then v.stage else v.stage.written (s.stageFound g) } := by
  unfold State.stopEvaluated
  rw [evalLast_unit, stopBegun_stageFound]
  simp only [released_congr (stopBegun_unloadEnds_iff s g)]
  rw [stopBegun_coolOf, hv]

/-- A STOP entered by a cooling stop is sendable as the unloading stands after the sample (R97, R98). -/
theorem stop_fresh_released (s : State) (g : Group) :
    (Command.fresh .stop .cooling (!(s.unloadingBegun g (s.coolOf g).cap).unloading)).released (s.StopLevelEnds g)
      = .fresh .stop .cooling (!((s.stopEvaluated g).coolOf g).cap.unloading) := by
  have h := released_fresh (s.stopBegun g) g true
  rw [released_congr (stopBegun_unloadEnds_iff s g)] at h
  have hcap : ((s.stopEvaluated g).coolOf g).cap
      = (s.stopBegun g).unloadingAfter g ((s.stopBegun g).chan (gcChan g)) true
          ((s.stopBegun g).coolOf g).cap := congrArg Cooling.cap (evalLast_coolOf (s.stopBegun g) g true)
  rw [hcap, ← h, stopBegun_coolOf]

/-- A command that the STOP supersedes leaves the slot to it (R98). -/
theorem stopHanded_superseded {u : GroupUnit} {b : Bool} {x : Command} (hc : u.command = some x)
    (hx : u.Superseded x) : u.stopHanded b = { u with command := some (.fresh .stop .cooling (!b)) } := by
  obtain ⟨hsent, hstop, hflag, hreset⟩ := hx
  rw [stopHanded_some hc, if_neg hsent, if_neg hstop, if_neg (by simp [hflag]), if_neg hreset]

/-- Behind a command in flight, a GROUP_RESET, or a command with a GROUP_RESET behind it, the cooling stop pends
(R98). -/
theorem stopHanded_deferred {u : GroupUnit} {b : Bool} {x : Command} (hc : u.command = some x)
    (hx : x.state = .sent ∨ x.kind = .groupReset ∨ x.kind ≠ .stop ∧ u.resetFlag ≠ none) :
    u.stopHanded b = { u with coolPending := true } := by
  rw [stopHanded_some hc]
  by_cases hsent : x.state = .sent
  · rw [if_pos hsent]
  have hstop : x.kind ≠ .stop := by
    rcases hx with h | h | ⟨h, _⟩
    · exact absurd h hsent
    · rw [h]; decide
    · exact h
  rw [if_neg hsent, if_neg hstop]
  by_cases hflag : u.resetFlag.isSome = true
  · rw [if_pos hflag]
  have hreset : x.kind = .groupReset := by
    rcases hx with h | h | ⟨_, h⟩
    · exact absurd h hsent
    · exact h
    · exact absurd (Option.isSome_iff_ne_none.mpr h) hflag
  rw [if_neg hflag, if_pos hreset]

theorem stopBegun_unit_rest (s : State) (g : Group) : ((s.stopBegun g).unit g).resetFlag = (s.unit g).resetFlag
    ∧ ((s.stopBegun g).unit g).stage = (s.unit g).stage := by
  obtain ⟨_, hflag, hstage⟩ := stopHanded_rest (s.unit g) (s.unloadingBegun g (s.coolOf g).cap).unloading
  rw [stopBegun_unit]
  split
  · exact ⟨hflag, hstage⟩
  · exact ⟨rfl, rfl⟩

theorem stands_stopEvaluated {h : Group} (e : h ≠ g) : GroupStands h s (s.stopEvaluated g) :=
  (GroupStands.setLeft e _).trans ((stands_beginCoolingStop e).trans (stands_evalLast e true))

/-- Steps 6 and 7 post nothing. -/
theorem stopEvaluated_tells {k : EventKind} {n : Nat} {fields : List (List Byte)}
    (h : (s.stopBegun g).Tells k n fields) : (s.stopEvaluated g).Tells k n fields :=
  (tells_congr ((touches_evalLast _ g true).events (by decide))).mpr h

end

end Sys2Proof.Machine

/-- Settles O28: the cooling stop, then steps 6 and 7, then a cycle that changes nothing of what they leave. -/
theorem coolingStopUnloadsAndHandsOverAStop : Obligations.CoolingStopUnloadsAndHandsOverAStop := by
  unfold Obligations.CoolingStopUnloadsAndHandsOverAStop
  intro g s l temp due
  refine ⟨fun h => congrArg Host.Outcome.next (coolingStop_not_due h), fun h => ?_⟩
  have hexec : exec (.coolingStop g) s = .next (s.coolingStop g) := rfl
  have hcycle := cycleFollows s (fun s => s.stopBegun g) fun s => s.evalStageUnload true g
  rw [hexec, coolingStop_due h]
  extract_lets st handed unloads stage ended
  simp only [coolingStop_eq h] at hcycle
  generalize (s.withUnloadCycle (fun s => s.stopBegun g) fun s => s.evalStageUnload true g) = t at *
  have hcool := (hcycle.coolOf g).trans (stopEvaluated_coolOf s g)
  obtain ⟨hcommand, hstage, hflag, hpending⟩ := hcycle.slots g
  have hslots : ∀ v, (s.stopBegun g).unit g = v → (t.unit g).command = v.command.map (fun x => x.released ended)
      ∧ (t.unit g).coolPending = v.coolPending := by
    intro v hv
    rw [hcommand, hpending, stopEvaluated_unit s g hv]
    exact ⟨rfl, rfl⟩
  have hhanded : handed → (s.stopBegun g).unit g = (s.unit g).stopHanded unloads.unloading := fun hh =>
    (stopBegun_unit s g).trans (if_pos (stoppable_iff.mpr hh))
  have hnot : ¬ handed → (s.stopBegun g).unit g = s.unit g := fun hh =>
    (stopBegun_unit s g).trans (if_neg fun hs => hh (stoppable_iff.mp hs))
  have hfresh : (Command.fresh .stop .cooling (!unloads.unloading)).released ended
      = .fresh .stop .cooling (!(t.coolOf g).cap.unloading) := by
    rw [hcycle.coolOf]
    exact stop_fresh_released s g
  obtain ⟨hflagBegun, hstageBegun⟩ := stopBegun_unit_rest s g
  refine ⟨t, rfl, ?_, hcool, fun g' e => ?_, ?_, fun hh => hslots _ (hnot hh), fun hh hc hf => ?_, fun hh hc hf => ?_,
    fun hh x hc hk hs => ?_, fun hh hf x hc hs hk => ?_, fun hh x hc hx => ?_, ?_, ?_⟩
  · exact ((touches_stopEvaluated s g).mono (by decide)).trans (hcycle.touches.mono (by decide))
  · exact (hcycle.coolOf g').trans (stands_stopEvaluated e).cool
  · rw [hstage, stopEvaluated_unit s g rfl]
    dsimp only
    rw [hstageBegun]
    rfl
  · obtain ⟨h1, h2⟩ := hslots _ (hhanded hh)
    rw [stopHanded_none hc, if_neg (by simp [hf])] at h1 h2
    exact ⟨h1.trans (congrArg some hfresh), h2⟩
  · obtain ⟨h1, h2⟩ := hslots _ (hhanded hh)
    rw [stopHanded_none hc, if_pos (Option.isSome_iff_ne_none.mpr hf)] at h1 h2
    exact ⟨h1.trans (by rw [hc]; rfl), h2⟩
  · obtain ⟨h1, h2⟩ := hslots _ (hhanded hh)
    rw [stopHanded_some hc, if_neg hs, if_pos hk] at h1 h2
    exact ⟨h1.trans (by rw [hc]; rfl), h2⟩
  · have hx : (s.unit g).Superseded x := ⟨hs, by rcases hk with hk | hk | hk <;> simp [hk], hf,
      by rcases hk with hk | hk | hk <;> simp [hk]⟩
    obtain ⟨h1, h2⟩ := hslots _ (hhanded hh)
    rw [stopHanded_superseded hc hx] at h1 h2
    refine ⟨⟨_, h1.trans (congrArg some hfresh), rfl, rfl, rfl, rfl⟩, h2, ?_⟩
    exact hcycle.tells nofun (stopEvaluated_tells (beginCoolingStop_tells_superseded (s := s.setLeft g .none)
      (stoppable_iff.mpr hh) hc hx))
  · obtain ⟨h1, h2⟩ := hslots _ (hhanded hh)
    rw [stopHanded_deferred hc hx] at h1 h2
    exact ⟨h1.trans (by rw [hc]; rfl), h2⟩
  · rw [hflag, stopEvaluated_unit s g rfl]
    exact hflagBegun
  · have htold := beginCoolingStop_tells (s.setLeft g .none) g
    rw [flagByte_stoppable] at htold
    exact hcycle.tells nofun (stopEvaluated_tells htold)
end

section
/-! PROOFS. The evaluation of one loop as a whole (R73), as group `g` sees it: the steps up to the cooling stop, then
steps 6 and 7 in a state in which `g` stands as the first steps left it, then at most one cycle. -/

open Sys2Proof Sys2Proof.Machine

namespace Sys2Proof.Machine

/-! ### What an evaluation brings about -/

section
variable (s t : State) (g : Group)

/-- The stop begun mark before a cooling stop: NO once the loop has left CRITICAL (R78). -/
abbrev State.begunKept : Bool :=
  if (s.coolOf g).loop.state = .critical ∧ (t.coolOf g).loop.state ≠ .critical then false
  else (s.coolOf g).loop.begun

/-- A cooling stop falls due in the evaluation that leaves `t` (R78). -/
abbrev State.StopsIn : Prop := s.StopFallsDue g (t.coolOf g).loop.dwell (s.begunKept t g)

/-- The capacity record with the capacity that the evaluation has formed (R76, R81). -/
abbrev State.capHeld : CapRecord :=
  { (s.coolOf g).cap with
    capacity := (t.coolOf g).cap.capacity, credit := min (s.coolOf g).cap.credit (t.coolOf g).cap.capacity }

/-- The capacity record that step 7 finds, with the unloading that a cooling stop has begun (R78, R83). -/
abbrev State.capReached : CapRecord :=
  if s.StopsIn t g then s.unloadingBegun g (s.capHeld t g) else s.capHeld t g

end

/-- What the evaluation of the loop of `g` from `s` to `t` brings about, once it has got past a change of the sensor
fault field (R73 to R79, R81, R83, R84, R95, R97). -/
structure State.Evaluated (s : State) (g : Group) (apart : Bool) (t : State) : Prop where
  fault : (t.coolOf g).loop.fault = s.sensorFault g
  formed : s.LoopFormed g (s.coolOf g).loop (t.coolOf g).loop (s.outlet g) (s.chan (flChan g)).value
  capacity : (t.coolOf g).cap.capacity = s.cfgN (.group g .rated) * (t.coolOf g).loop.factor / 1000
  told : s.CoolStateTold t g (s.coolOf g).loop (t.coolOf g).loop
  sensor : s.sensorFault g ≠ (s.coolOf g).loop.fault → t.Tells .coolingSensor g.num
    [flagByte (s.sensorFault g), beBytes 1 ((s.outletFailed g).toNat + 2 * (s.flowFailed g).toNat)]
  stopTold : apart = false → s.StopsIn t g → t.Tells .coolingStop g.num
    [beSigned 2 (s.outlet g), flagByte (s.unit g).record.state.stoppable]
  halted : apart = true → s.StopsIn t g → (t.coolOf g).left = .stop ∧ (t.coolOf g).loop.begun = s.begunKept t g
    ∧ (t.coolOf g).loop.stage = (s.coolOf g).loop.stage ∧ (t.coolOf g).cap = s.capHeld t g
    ∧ (t.unit g).stage = (s.unit g).stage
  done : apart = false ∨ ¬ s.StopsIn t g → (t.coolOf g).left = .none
    ∧ (t.coolOf g).loop.begun = (s.begunKept t g || decide (s.StopsIn t g))
    ∧ (t.coolOf g).loop.stage = s.stageAfter g (s.sensorFault g) (s.coolOf g).loop.stage (s.outlet g)
    ∧ (t.unit g).stage = (if (t.coolOf g).loop.stage = (s.coolOf g).loop.stage then (s.unit g).stage
        else (s.unit g).stage.written (t.coolOf g).loop.stage)
    ∧ (t.coolOf g).cap = s.unloadingAfter g (s.chan (gcChan g)) apart (s.capReached t g)
    ∧ ((s.capReached t g).unloading = true → (t.coolOf g).cap.unloading = false →
        ∀ x, (s.unit g).command = some x → x.kind = .stop → (t.unit g).command = some { x with sendable := true })

/-! ### From the advance of the dwell to the end -/

section
variable {s a b t : State} {g : Group} {apart : Bool}

/-- The events of the evaluation after the advance of the dwell: those of a cooling stop, and CAPACITY_LIMIT. -/
theorem leaves_evalStop {keep : EventKind → Nat → Bool} (hf : keep .orderFailed g.num = false)
    (hs : keep .coolingStop g.num = false) : Leaves keep s (s.evalStop apart g) := by
  unfold State.evalStop
  split
  · split
    · exact .of_events rfl
    · exact leaves_beginCoolingStop hf hs
  · exact .refl keep s

theorem touches_evalStageUnload_self : Touches [.cool, .link] s (s.evalStageUnload apart g) :=
  (touches_evalStageUnload (by decide)).mpr (Touches.refl _ s)

/-- What is told of `g` and of no order and no capacity limit stays told from the cooling stop on. -/
theorem leaves_after_stop {k : EventKind} (hk : k ≠ .capacityLimit) (hfirst : GroupStands g s a)
    (hlast : GroupStands g (a.evalStageUnload apart g) b) (hcycle : CycleFollows b t) :
    Leaves (ofSubject k g.num) s t := by
  have hcap : ofSubject k g.num .capacityLimit 0 = false := by
    unfold ofSubject
    rw [beq_eq_false_iff_ne.mpr hk.symm]
    rfl
  exact hfirst.events.ofSubject_of_subject.trans
    ((Leaves.of_touches (touches_evalStageUnload_self (apart := apart)) (by decide)).trans
      (hlast.events.ofSubject_of_subject.trans (hcycle.leaves _ hcap)))

theorem evalStop_halts (h : s.stopDue g = true) : s.evalStop true g = s.setLeft g .stop := if_pos h

/-- A STOP in the slot is left in it by the hand-over of a cooling stop (R98). -/
theorem stopHanded_of_stop {u : GroupUnit} {unloading : Bool} {x : Command} (hc : u.command = some x)
    (hk : x.kind = .stop) : (u.stopHanded unloading).command = some x := by
  rw [stopHanded_some hc, if_pos hk]
  split
  · exact hc
  · exact hc

theorem evalStop_goesOn (h : apart = false ∨ s.stopDue g = false) : (s.evalStop apart g).coolOf g
      = { s.coolOf g with
          loop := { (s.coolOf g).loop with begun := (s.coolOf g).loop.begun || s.stopDue g },
          cap := if s.stopDue g then s.unloadingBegun g (s.coolOf g).cap else (s.coolOf g).cap }
    ∧ ((s.evalStop apart g).unit g).stage = (s.unit g).stage
    ∧ ∀ x, (s.unit g).command = some x → x.kind = .stop → ((s.evalStop apart g).unit g).command = some x := by
  cases hd : s.stopDue g
  · have e : s.evalStop apart g = s := if_neg (by rw [hd]; decide)
    rw [e, Bool.or_false]
    exact ⟨rfl, rfl, fun _ hx _ => hx⟩
  · obtain rfl : apart = false := h.resolve_right (by rw [hd]; decide)
    have e : s.evalStop false g = s.beginCoolingStop g := if_pos hd
    rw [e, beginCoolingStop_coolOf, beginCoolingStop_unit, Bool.or_true]
    refine ⟨rfl, ?_, fun x hx hk => ?_⟩
    · obtain ⟨_, _, hstage⟩ := stopHanded_rest (s.unit g) (s.unloadingBegun g (s.coolOf g).cap).unloading
      split
      · exact hstage
      · rfl
    · split
      · exact stopHanded_of_stop hx hk
      · exact hx

/-- The loop record with its stop begun mark and stage as the later steps have left them. -/
abbrev LoopRecord.marked (l : LoopRecord) (begun : Bool) (stage : Nat) : LoopRecord :=
  { l with begun := begun, stage := stage }

theorem State.Formed.stopsIn_iff {v : State} (hF : s.Formed g v) (hset : v.settings = s.settings) {n : Bool} {k : Nat}
    (hloop : (t.coolOf g).loop = (v.coolOf g).loop.marked n k) : s.StopsIn t g ↔ v.stopDue g = true := by
  rw [stopDue_iff, stopFallsDue_congr hset, hF.begun]
  unfold State.StopsIn State.begunKept
  rw [hloop]

theorem State.Formed.capHeld_eq {v : State} (hF : s.Formed g v)
    (hcap : (t.coolOf g).cap.capacity = (v.coolOf g).cap.capacity) : s.capHeld t g = (v.coolOf g).cap := by
  unfold State.capHeld
  rw [hcap, hF.cap]

theorem unloadingAfter_capacity (s : State) (g : Group) (gc : Channel) (apart : Bool) (c : CapRecord) :
    (s.unloadingAfter g gc apart c).capacity = c.capacity := by
  unfold State.unloadingAfter
  dsimp only
  repeat' split
  all_goals rfl

theorem unloadingBegun_capacity (s : State) (g : Group) (c : CapRecord) :
    (s.unloadingBegun g c).capacity = c.capacity := by
  unfold State.unloadingBegun
  split <;> rfl

/-- The part of an evaluation's account that the later steps do not change, once it is known what they leave. -/
theorem State.Formed.evaluated {v : State} (hF : s.Formed g v) {n : Bool} {k : Nat}
    (hloop : (t.coolOf g).loop = (v.coolOf g).loop.marked n k)
    (hcap : (t.coolOf g).cap.capacity = (v.coolOf g).cap.capacity)
    (hquiet : ∀ k, k = .coolingSensor ∨ k = .coolingState → Leaves (ofSubject k g.num) v t)
    (stopTold : apart = false → s.StopsIn t g → t.Tells .coolingStop g.num
      [beSigned 2 (s.outlet g), flagByte (s.unit g).record.state.stoppable])
    (halted : apart = true → s.StopsIn t g → (t.coolOf g).left = .stop ∧ n = s.begunKept t g
      ∧ k = (s.coolOf g).loop.stage ∧ (t.coolOf g).cap = s.capHeld t g ∧ (t.unit g).stage = (s.unit g).stage)
    (done : apart = false ∨ ¬ s.StopsIn t g → (t.coolOf g).left = .none
      ∧ n = (s.begunKept t g || decide (s.StopsIn t g))
      ∧ k = s.stageAfter g (s.sensorFault g) (s.coolOf g).loop.stage (s.outlet g)
      ∧ (t.unit g).stage = (if k = (s.coolOf g).loop.stage then (s.unit g).stage else (s.unit g).stage.written k)
      ∧ (t.coolOf g).cap = s.unloadingAfter g (s.chan (gcChan g)) apart (s.capReached t g)
      ∧ ((s.capReached t g).unloading = true → (t.coolOf g).cap.unloading = false →
        ∀ x, (s.unit g).command = some x → x.kind = .stop →
          (t.unit g).command = some { x with sendable := true })) :
    s.Evaluated g apart t := by
  have hself : ∀ k, ofSubject k g.num k g.num = true := fun k => by simp [ofSubject]
  have hstage : (t.coolOf g).loop.stage = k := by rw [hloop]
  have hbegun : (t.coolOf g).loop.begun = n := by rw [hloop]
  refine ⟨?_, ?_, ?_, ⟨fun hne => ?_, fun hsame => ?_⟩, fun hd => ?_, stopTold, ?_, ?_⟩
  · rw [hloop]; exact hF.fault
  · rw [hloop]; exact hF.formed
  · rw [hcap, hF.cap, hloop]
  · rw [hloop] at hne ⊢
    exact (hquiet .coolingState (.inr rfl)).tells (hself _) (hF.told hne)
  · rw [hloop] at hsame
    exact ((hF.quiet hsame).trans (hquiet .coolingState (.inr rfl))).entries
  · exact (hquiet .coolingSensor (.inl rfl)).tells (hself _) (hF.sensor hd)
  · rw [hstage, hbegun]; exact halted
  · rw [hstage, hbegun]; exact done

/-- The evaluation that halts at a cooling stop (log 2). -/
theorem evaluated_halted
    (hdue : (s.evalFormed g).stopDue g = true) (hfirst : GroupStands g ((s.evalFormed g).evalStop true g) a)
    (hlast : GroupStands g (a.evalStageUnload true g) b) (hcycle : CycleFollows b t) : s.Evaluated g true t := by
  have hF := evalFormed_formed s g
  have hv := touches_evalFormed s g
  rw [evalStop_halts hdue] at hfirst
  have ha : a.coolOf g = { (s.evalFormed g).coolOf g with left := .stop } :=
    hfirst.cool.trans (coolOf_setLeft_self _ _ _)
  have hsame : a.evalStageUnload true g = a := evalStageUnload_halted (.inr (by rw [ha]; exact nofun)) true
  have hquiet : ∀ k, k = .coolingSensor ∨ k = .coolingState → Leaves (ofSubject k g.num) (s.evalFormed g) t :=
    fun k hk => Leaves.trans (t := (s.evalFormed g).setLeft g .stop) (.of_events rfl)
      (leaves_after_stop (by rcases hk with rfl | rfl <;> decide) hfirst hlast hcycle)
  rw [hsame] at hlast
  have hcool : t.coolOf g = { (s.evalFormed g).coolOf g with left := .stop } := by
    rw [hcycle.coolOf, hlast.cool, ha]
  have hstage : (t.unit g).stage = (s.unit g).stage := by
    obtain ⟨_, hstage, _, _⟩ := hcycle.slots g
    rw [hstage, hlast.unit, hfirst.unit]
    exact congrArg GroupUnit.stage (unit_congr (hv.link (by decide)) g)
  have hloop : (t.coolOf g).loop
      = ((s.evalFormed g).coolOf g).loop.marked (s.begunKept t g) (s.coolOf g).loop.stage := by
    unfold State.begunKept
    rw [hcool]
    dsimp only
    rw [← hF.begun, ← hF.stage]
  have hcap : (t.coolOf g).cap = ((s.evalFormed g).coolOf g).cap := by rw [hcool]
  have hstops : s.StopsIn t g := (hF.stopsIn_iff (hv.settings (by decide)) hloop).mpr hdue
  refine hF.evaluated hloop (by rw [hcap]) hquiet nofun (fun _ _ => ⟨by rw [hcool], rfl, rfl, ?_, hstage⟩) fun h => ?_
  · rw [hcap, hF.capHeld_eq (by rw [hcap])]
  · exact absurd hstops (h.resolve_left nofun)

/-- The capacity record that step 7 finds, once the steps before have been gone through (R76, R78, R81, R83). -/
abbrev State.capAtLast (s : State) (g : Group) : CapRecord :=
  if (s.evalFormed g).stopDue g then s.unloadingBegun g ((s.evalFormed g).coolOf g).cap
  else ((s.evalFormed g).coolOf g).cap

theorem evalFormed_unloadingBegun (s : State) (g : Group) (c : CapRecord) :
    (s.evalFormed g).unloadingBegun g c = s.unloadingBegun g c := by
  have hv := touches_evalFormed s g
  have hunit : (s.evalFormed g).unit g = s.unit g := unit_congr (hv.link (by decide)) g
  exact unloadingBegun_congr (allocatable_congr (hv.settings (by decide)) (by rw [hunit])) c

/-- The records of the loop after an evaluation that has gone through to its end. -/
theorem evalStageUnload_done (hfit : s.fitted g = true) (hkeep : Touches [.cool, .link, .events] s a)
    (hgoes : apart = false ∨ (s.evalFormed g).stopDue g = false)
    (hfirst : GroupStands g ((s.evalFormed g).evalStop apart g) a) :
    a.evalStageUnload apart g = a.evalLast g apart
      ∧ (a.evalLast g apart).coolOf g =
          { loop := ((s.evalFormed g).coolOf g).loop.marked
              (((s.evalFormed g).coolOf g).loop.begun || (s.evalFormed g).stopDue g)
              (s.stageAfter g (s.sensorFault g) (s.coolOf g).loop.stage (s.outlet g)),
            cap := s.unloadingAfter g (s.chan (gcChan g)) apart (s.capAtLast g), left := .none }
      ∧ (a.coolOf g).cap = s.capAtLast g
      ∧ a.stageFound g = s.stageAfter g (s.sensorFault g) (s.coolOf g).loop.stage (s.outlet g)
      ∧ (a.coolOf g).loop.stage = (s.coolOf g).loop.stage := by
  have hF := evalFormed_formed s g
  have haset := hkeep.settings (by decide)
  have hachan := chan_congr (hkeep.front (by decide))
  have haout : a.outlet g = s.outlet g := congrArg Channel.value (hachan _)
  obtain ⟨hcool, _, _⟩ := evalStop_goesOn hgoes
  rw [← hfirst.cool, evalFormed_unloadingBegun] at hcool
  have hcap : (a.coolOf g).cap = s.capAtLast g := by rw [hcool]
  have hstage : a.stageFound g = s.stageAfter g (s.sensorFault g) (s.coolOf g).loop.stage (s.outlet g) := by
    unfold State.stageFound
    rw [stageAfter_congr haset, haout, hcool]
    dsimp only
    rw [hF.fault, hF.stage]
  refine ⟨evalStageUnload_goesOn ((fitted_congr haset g).trans hfit) (by rw [hcool]; exact hF.left) apart, ?_, hcap,
    hstage, by rw [hcool]; exact hF.stage⟩
  rw [evalLast_coolOf, hstage, unloadingAfter_congr haset, hachan, hcap, hcool]
  dsimp only
  rw [hF.left]

theorem unloadEnds_iff : s.UnloadEnds g apart
    ↔ (s.coolOf g).cap.unloading = true ∧ ((s.evalLast g apart).coolOf g).cap.unloading = false := by
  rw [evalLast_coolOf]

/-- A cooling stop due that does not halt the evaluation is told (R78). -/
theorem evalStop_tells (hdue : s.stopDue g = true) : (s.evalStop false g).Tells .coolingStop g.num
    [beSigned 2 (s.outlet g), flagByte (s.unit g).record.state.stoppable] := by
  have e : s.evalStop false g = s.beginCoolingStop g := if_pos hdue
  rw [e]
  exact beginCoolingStop_tells s g

/-- The evaluation that goes through to its end. -/
theorem evaluated_done (hfit : s.fitted g = true) (hkeep : Touches [.cool, .link, .events] s a)
    (hgoes : apart = false ∨ (s.evalFormed g).stopDue g = false)
    (hfirst : GroupStands g ((s.evalFormed g).evalStop apart g) a)
    (hlast : GroupStands g (a.evalStageUnload apart g) b) (hcycle : CycleFollows b t) : s.Evaluated g apart t := by
  have hF := evalFormed_formed s g
  have hv := touches_evalFormed s g
  have hunit : (s.evalFormed g).unit g = s.unit g := unit_congr (hv.link (by decide)) g
  have hout : (s.evalFormed g).outlet g = s.outlet g := congrArg Channel.value (chan_congr (hv.front (by decide)) _)
  obtain ⟨_, hstage, hcommand⟩ := evalStop_goesOn hgoes
  rw [← hfirst.unit, hunit] at hstage hcommand
  obtain ⟨hend, hcool, hacap, hfound, hastage⟩ := evalStageUnload_done hfit hkeep hgoes hfirst
  have hafter := leaves_after_stop (k := .coolingStop) nofun hfirst hlast hcycle
  have hquiet : ∀ k, k = .coolingSensor ∨ k = .coolingState → Leaves (ofSubject k g.num) (s.evalFormed g) t :=
    fun k hk => Leaves.trans
      (leaves_evalStop (by rcases hk with rfl | rfl <;> rfl) (by rcases hk with rfl | rfl <;> rfl))
      (leaves_after_stop (by rcases hk with rfl | rfl <;> decide) hfirst hlast hcycle)
  rw [hend] at hlast
  have htcool := ((hcycle.coolOf g).trans hlast.cool).trans hcool
  obtain ⟨htcommand, htstage, _, _⟩ := hcycle.slots g
  rw [hlast.unit, evalLast_unit, hfound] at htcommand htstage
  have hloop := congrArg Cooling.loop htcool
  have hcap := congrArg Cooling.cap htcool
  dsimp only at hloop hcap htcommand htstage
  have hcapacity : (t.coolOf g).cap.capacity = ((s.evalFormed g).coolOf g).cap.capacity := by
    rw [hcap, unloadingAfter_capacity]
    unfold State.capAtLast
    split
    · exact unloadingBegun_capacity ..
    · rfl
  have hstops := hF.stopsIn_iff (hv.settings (by decide)) hloop
  have hbegun : ((s.evalFormed g).coolOf g).loop.begun = s.begunKept t g := by
    rw [hF.begun]
    unfold State.begunKept
    rw [hloop]
  have hreached : s.capReached t g = s.capAtLast g := by
    unfold State.capReached
    rw [hF.capHeld_eq hcapacity]
    exact if_congr hstops rfl rfl
  refine hF.evaluated hloop hcapacity hquiet (fun hap hst => ?_) (fun hap hst => ?_) fun _ => ⟨?_, ?_, rfl, ?_, ?_, ?_⟩
  · subst hap
    have htold := evalStop_tells (hstops.mp hst)
    rw [hunit, hout] at htold
    exact hafter.tells (by simp [ofSubject]) htold
  · obtain hap' | hnot := hgoes
    · exact absurd (hap.symm.trans hap') nofun
    · exact absurd (hnot.symm.trans (hstops.mp hst)) nofun
  · rw [htcool]
  · rw [hbegun, Bool.eq_iff_iff.mpr (decide_eq_true_iff.trans hstops)]
  · rw [htstage, hastage, hstage]
  · rw [hreached, hcap]
  · intro hu hn x hx hk
    have hends : a.UnloadEnds g apart := by
      rw [unloadEnds_iff, hacap, hcool, ← hcap, ← hreached]
      exact ⟨hu, hn⟩
    rw [htcommand, hcommand x hx hk]
    exact congrArg some (if_pos ⟨hk, hends⟩)

/-- The evaluation of the loop of `g`, as `g` sees it: the steps up to the cooling stop, then steps 6 and 7, then at
most one cycle. -/
theorem evaluated_of_steps (hfit : s.fitted g = true) (hkeep : Touches [.cool, .link, .events] s a)
    (hfirst : GroupStands g ((s.evalFormed g).evalStop apart g) a)
    (hlast : GroupStands g (a.evalStageUnload apart g) b) (hcycle : CycleFollows b t) : s.Evaluated g apart t := by
  cases hap : apart
  · subst hap
    exact evaluated_done hfit hkeep (.inl rfl) hfirst hlast hcycle
  · subst hap
    cases hdue : (s.evalFormed g).stopDue g
    · exact evaluated_done hfit hkeep (.inr hdue) hfirst hlast hcycle
    · exact evaluated_halted hdue hfirst hlast hcycle

end

end Sys2Proof.Machine
end

section
/-! PROOFS. COOLING_SENSOR (O27; R73 to R79, R81, R84): an evaluation gone on with from a change of the sensor fault
field. -/

open Sys2Proof Sys2Proof.Machine

namespace Sys2Proof.Machine

section
variable {s : State} {g h : Group} {apart : Bool}

theorem touches_evalStop_self (s : State) (g : Group) (apart : Bool) :
    Touches [.cool, .link, .events] s (s.evalStop apart g) :=
  (touches_evalStop (by decide)).mpr (Touches.refl _ s)

theorem stands_evalStop (e : h ≠ g) : GroupStands h s (s.evalStop apart g) := by
  unfold State.evalStop
  split
  · split
    · exact .setLeft e _
    · exact stands_beginCoolingStop e
  · exact .refl h s

/-- Steps 1 to 5 of R73 without a halt at a change of the sensor fault field. -/
def State.evalFirst (s : State) (apart : Bool) (g : Group) : State := (s.evalFormed g).evalStop apart g

theorem touches_evalFirst (s : State) (apart : Bool) (g : Group) :
    Touches [.cool, .link, .events] s (s.evalFirst apart g) :=
  ((touches_evalFormed s g).mono (by decide)).trans (touches_evalStop_self _ g apart)

theorem stands_evalFirst (e : h ≠ g) : GroupStands h s (s.evalFirst apart g) :=
  (stands_evalFormed e).trans (stands_evalStop e)

/-- A change of the sensor fault field gone on with falls due (R73, R75, log 2). -/
abbrev State.SensorChangeDue (s : State) (g : Group) : Prop :=
  s.fitted g = true ∧ (s.coolOf g).left = .sensor ∧ s.sensorFault g ≠ (s.coolOf g).loop.fault

theorem sensorChange_not_due (h : ¬ s.SensorChangeDue g) : s.sensorChange g = s := by
  refine if_neg fun hd => h ?_
  obtain ⟨hfl, hdiff⟩ := Bool.and_eq_true_iff.mp hd
  obtain ⟨hf, hl⟩ := Bool.and_eq_true_iff.mp hfl
  exact ⟨hf, beq_iff_eq.mp hl, sensorDiffers_iff.mp hdiff⟩

theorem sensorChange_due (h : s.SensorChangeDue g) : s.sensorChange g
    = s.withUnloadCycle (fun s => s.evalFirst true g) fun s => s.evalStageUnload true g := by
  obtain ⟨hf, hl, hdiff⟩ := h
  exact if_pos (by rw [hf, hl, sensorDiffers_iff.mpr hdiff]; rfl)

end

end Sys2Proof.Machine

/-- Settles O27: the evaluation begun anew from step 1, which cannot halt there again, and a cycle that changes
nothing of what it leaves. -/
theorem sensorFaultFollowsTheInvalidRuns : Obligations.SensorFaultFollowsTheInvalidRuns := by
  unfold Obligations.SensorFaultFollowsTheInvalidRuns
  intro g s was c temp outlet flow fault due
  refine ⟨fun h => congrArg Host.Outcome.next (sensorChange_not_due h), fun h => ?_⟩
  have hexec : exec (.coolingSensor g) s = .next (s.sensorChange g) := rfl
  have hcycle := cycleFollows s (fun s => s.evalFirst true g) fun s => s.evalStageUnload true g
  rw [hexec, sensorChange_due h]
  generalize (s.withUnloadCycle (fun s => s.evalFirst true g) fun s => s.evalStageUnload true g) = t at *
  have hkeep := touches_evalFirst s true g
  obtain ⟨hfit, _, hdiff⟩ := h
  have hall : s.Evaluated g true t := evaluated_of_steps hfit hkeep (.refl g _) (.refl g _) hcycle
  have htouch : Touches [.cool, .energy, .events, .reg, .link] s t :=
    (hkeep.mono (by decide)).trans
      ((touches_evalStageUnload_self.mono (by decide)).trans (hcycle.touches.mono (by decide)))
  refine ⟨t, rfl, htouch, ?_, ?_, fun g' e => ?_⟩
  · extract_lets l now begun stops held
    refine ⟨hall.fault, hall.formed, hall.told, ?_, hall.capacity, fun hstops => ?_, fun hnot => ?_⟩
    · by_cases hstops : s.StopsIn t g
      · exact (hall.halted rfl hstops).2.1
      · have hb := (hall.done (.inr hstops)).2.1
        rwa [decide_eq_false hstops, Bool.or_false] at hb
    · obtain ⟨hleft, _, hstage, hcap, hslot⟩ := hall.halted rfl hstops
      exact ⟨hleft, hstage, hcap, hslot⟩
    · obtain ⟨hleft, _, hstage, hslot, hcap, hrelease⟩ := hall.done (.inr hnot)
      have hheld : s.capReached t g = held := if_neg hnot
      rw [hheld] at hcap hrelease
      exact ⟨hleft, hstage, hcap, hslot, hrelease⟩
  · exact hall.sensor hdiff
  · have hstands : GroupStands g' s ((s.evalFirst true g).evalStageUnload true g) :=
      (stands_evalFirst e).trans (stands_evalStageUnload e true)
    obtain ⟨hcommand, hstage, _, _⟩ := hcycle.slots g'
    rw [hcycle.coolOf, hcommand, hstage, hstands.cool, hstands.unit]
    exact ⟨rfl, rfl, rfl⟩
end

section
/-! PROOFS. What a 100 ms boundary does before the evaluation of the loops (R73): it posts no COOLING_STATE, writes no
loop record, and leaves the record, the stage slot and a STOP of every unit. One lemma for each operation says that
the COOLING_STATE events stand. -/

open Sys2Proof Sys2Proof.Machine

namespace Sys2Proof.Machine

/-- From `s` to `t` the COOLING_STATE events stand as they were (R77, R176). -/
abbrev CoolStateStands (s t : State) : Prop := Leaves (ofKind .coolingState) s t

section
variable {s t : State} {g : Group} {p n v : Nat} {c : Bool}

@[simp] theorem coolStands_refl (s : State) : CoolStateStands s s := .refl _ s

@[simp] theorem coolStands_post {k : EventKind} {fields : List (List Byte)} (h : CoolStateStands s t)
    (hk : k ≠ .coolingState) : CoolStateStands s (t.post k n fields) :=
  leaves_post h (beq_eq_false_iff_ne.mpr hk)

@[simp] theorem coolStands_setSup {x : Supervisor} (h : CoolStateStands s t) : CoolStateStands s (t.setSup x) :=
  h.trans (.of_events rfl)

@[simp] theorem coolStands_setReg {x : Regulator} (h : CoolStateStands s t) : CoolStateStands s (t.setReg x) :=
  h.trans (.of_events rfl)

@[simp] theorem coolStands_setEnergy {x : Energy} (h : CoolStateStands s t) : CoolStateStands s (t.setEnergy x) :=
  h.trans (.of_events rfl)

@[simp] theorem coolStands_setStack {x : CeilingStack} (h : CoolStateStands s t) : CoolStateStands s (t.setStack x) :=
  h.trans (.of_events rfl)

@[simp] theorem coolStands_setSwitching {x : Switching} (h : CoolStateStands s t) :
    CoolStateStands s (t.setSwitching x) := h.trans (.of_events rfl)

@[simp] theorem coolStands_setPotAe {x : PotAe} (h : CoolStateStands s t) : CoolStateStands s (t.setPotAe p x) :=
  h.trans (.of_events rfl)

@[simp] theorem coolStands_setUnit {x : GroupUnit} (h : CoolStateStands s t) : CoolStateStands s (t.setUnit g x) :=
  h.trans (.of_events rfl)

@[simp] theorem coolStands_when {f : State → State} (h : CoolStateStands s t) (hf : ∀ u, CoolStateStands u (f u)) :
    CoolStateStands s (t.when c f) := by
  cases c
  · exact h
  · exact h.trans (hf t)

@[simp] theorem coolStands_foldl {α : Type} {xs : List α} {f : State → α → State} (h : CoolStateStands s t)
    (hf : ∀ u x, CoolStateStands u (f u x)) : CoolStateStands s (xs.foldl f t) :=
  h.trans (leaves_foldl fun u x _ => hf u x)

/-! ### The line sample (R10, R30) -/

theorem coolStands_postSample {r : LineRecord} (h : CoolStateStands s t) : CoolStateStands s (t.postSample r) := by
  unfold State.postSample
  exact coolStands_when (coolStands_when h fun _ => coolStands_post (.refl _ _) nofun)
    fun _ => coolStands_post (.refl _ _) nofun

theorem coolStands_measurementHold (h : CoolStateStands s t) : CoolStateStands s t.measurementHold := by
  unfold State.measurementHold
  split
  · exact coolStands_post (coolStands_setSup h) nofun
  · exact h

theorem coolStands_lineSample (s : State) (b : Boundary) : CoolStateStands s (s.lineSample b) := by
  have hbegun : CoolStateStands s ((s.boundaryBegun b).completeSample b.conversions) := .of_events rfl
  rw [lineSample_eq]
  exact coolStands_measurementHold (coolStands_postSample hbegun)

/-! ### The energy unit (R149 to R158) -/

@[simp] theorem coolStands_noteSaturation {x y : Account} (h : CoolStateStands s t) :
    CoolStateStands s (t.noteSaturation n x y) := by
  unfold State.noteSaturation
  split
  · exact coolStands_post h nofun
  · exact h

theorem coolStands_accrue (h : CoolStateStands s t) : CoolStateStands s t.accrue := by
  unfold State.accrue State.addTariff State.addLifetime
  simp (maxDischargeDepth := 9) [h]

@[simp] theorem coolStands_releaseLimiter {x : LimitCause} (h : CoolStateStands s t) :
    CoolStateStands s (t.releaseLimiter x) := by
  unfold State.releaseLimiter
  exact coolStands_when (coolStands_setEnergy h) fun _ => coolStands_post (.refl _ _) nofun

@[simp] theorem coolStands_workTrim (h : CoolStateStands s t) : CoolStateStands s t.workTrim := by
  unfold State.workTrim State.setLimiter
  dsimp only
  repeat' split
  all_goals simp (maxDischargeDepth := 9) [h]

theorem coolStands_evalDemand (s : State) : CoolStateStands s s.evalDemand := by
  unfold State.evalDemand State.setLimiter State.markLimited State.postLimit
  dsimp only
  repeat' split
  all_goals simp (maxDischargeDepth := 9) only [coolStands_refl, coolStands_releaseLimiter, coolStands_workTrim,
    coolStands_setEnergy, coolStands_post, ne_eq, reduceCtorEq, not_false_eq_true]

theorem coolStands_closeInterval (s : State) : CoolStateStands s s.closeInterval := by
  unfold State.closeInterval
  simp (maxDischargeDepth := 9)

theorem coolStands_energySample (s : State) (apart : Bool) : CoolStateStands s (s.energySample apart) := by
  have minute : ∀ u : State, CoolStateStands u u.minuteEvaluation := fun u =>
    .of_touches (l := [.energy]) ((touches_minuteEvaluation (by decide)).mpr (Touches.refl _ _)) (by decide)
  exact coolStands_when (coolStands_accrue (.refl _ _)) fun u =>
    coolStands_when ((coolStands_when (.refl _ _) coolStands_evalDemand).trans (minute _)) coolStands_closeInterval

/-! ### The ceiling stack (R109 to R123) -/

@[simp] theorem coolStands_postStack {x : StackChange} {e : StackEntry} (h : CoolStateStands s t) :
    CoolStateStands s (t.postStack x e) := coolStands_post h nofun

@[simp] theorem coolStands_removeEntry {f : StackEntry → Bool} {x : StackChange} (h : CoolStateStands s t) :
    CoolStateStands s (t.removeEntry f x) := by
  unfold State.removeEntry
  split
  · exact coolStands_postStack (coolStands_setStack h)
  · exact h

theorem coolStands_evictOldest (h : CoolStateStands s t) : CoolStateStands s t.evictOldest := by
  unfold State.evictOldest
  dsimp only
  repeat' split
  all_goals simp (maxDischargeDepth := 9) [h]

@[simp] theorem coolStands_pushUtility (h : CoolStateStands s t) : CoolStateStands s t.pushUtility := by
  unfold State.pushUtility
  split
  · exact h
  · exact coolStands_postStack (coolStands_setStack (coolStands_evictOldest h))

@[simp] theorem coolStands_registerUtility (h : CoolStateStands s t) : CoolStateStands s (t.registerUtility c) := by
  unfold State.registerUtility
  cases c <;> simp (maxDischargeDepth := 9) [h]

theorem coolStands_readUtility (s : State) (pin apart : Bool) : CoolStateStands s (s.readUtility pin apart) := by
  unfold State.readUtility
  dsimp only
  repeat' split
  all_goals simp (maxDischargeDepth := 9)

theorem coolStands_switchReadiness (s : State) : CoolStateStands s s.switchReadiness := by
  unfold State.switchReadiness State.postSwitch
  dsimp only
  repeat' split
  all_goals simp (maxDischargeDepth := 9)

theorem coolStands_switchTimeout (s : State) : CoolStateStands s s.switchTimeout := by
  unfold State.switchTimeout State.endSwitch State.postSwitch
  dsimp only
  split
  all_goals simp (maxDischargeDepth := 9)

theorem coolStands_stackSample (s : State) (apart : Bool) : CoolStateStands s (s.stackSample apart) := by
  have expire : ∀ u : State, CoolStateStands u u.expireEntries := fun u =>
    coolStands_foldl (coolStands_setStack (.refl _ _)) fun _ _ => coolStands_postStack (.refl _ _)
  have tick : ∀ u : State, CoolStateStands u u.tickSwitch := fun u =>
    .of_touches (l := [.stack]) ((touches_tickSwitch (by decide)).mpr (Touches.refl _ _)) (by decide)
  have lives : CoolStateStands s s.tickLives := .of_events rfl
  exact coolStands_when ((coolStands_when lives expire).trans ((coolStands_switchReadiness _).trans (tick _)))
    coolStands_switchTimeout

/-! ### The level inputs (R3, R12, R107) -/

theorem coolStands_withdrawStart (s : State) (g : Group) : CoolStateStands s (s.withdrawStart g) := by
  cases hc : (s.unit g).command with
  | none =>
    rw [withdrawStart_of_none hc]
    exact .refl _ s
  | some x =>
    by_cases hw : x.Withdrawable
    · rw [withdrawStart_eq hc hw]
      exact coolStands_setUnit (coolStands_post (coolStands_setUnit (.refl _ s)) nofun)
    · rw [withdrawStart_of_not hc hw]
      exact .refl _ s

theorem coolStands_enterSafe {x : EntryCause} (h : CoolStateStands s t) : CoolStateStands s (t.enterSafe x) := by
  rw [enterSafe_eq]
  exact coolStands_setReg (coolStands_foldl
    (coolStands_post (coolStands_post (coolStands_setSup h) nofun) nofun) coolStands_withdrawStart)

theorem coolStands_registerSafe (s : State) (level : Bool) : CoolStateStands s (s.registerSafe level) := by
  have hset : CoolStateStands s (s.setSup { s.sup with safeLevel := level, safeRun := 0 }) := .of_events rfl
  unfold State.registerSafe State.safeIfAsserted
  split
  · exact coolStands_enterSafe hset
  · exact hset

theorem coolStands_readSafe (s : State) (pin apart : Bool) : CoolStateStands s (s.readSafe pin apart) := by
  unfold State.readSafe
  extract_lets n
  split
  · exact coolStands_registerSafe s pin
  · exact coolStands_setSup (.refl _ s)

/-! ### Anode effects and the scan (R56, R57, R69) -/

theorem coolStands_aeSample (s : State) (apart : Bool) : CoolStateStands s (s.aeSample apart) := by
  have quench : ∀ (u : State) p, CoolStateStands u (u.quenchRequest p) := fun u p => by
    unfold State.quenchRequest
    dsimp only
    split
    all_goals simp (maxDischargeDepth := 9)
  have long : ∀ (u : State) p, CoolStateStands u (u.longAe p) := fun u p => by
    unfold State.longAe
    dsimp only
    split
    all_goals simp (maxDischargeDepth := 9)
  have ticked : CoolStateStands s (s.setPots (s.pots.map Pot.tick)) := .of_events rfl
  exact coolStands_when ticked fun u => coolStands_foldl (coolStands_foldl (.refl _ _) quench) long

end

end Sys2Proof.Machine
end

section
/-! PROOFS. A line sample as the loop of one group sees it (O25; R73): the steps before the loops leave what its
evaluation reads of the state before the sample, then come its own steps, among those of other groups, and at most one
cycle. -/

open Sys2Proof Sys2Proof.Machine

namespace Sys2Proof.Machine

/-! ### What stands until the evaluation of a loop begins -/

/-- From `s` to `t` stands what the evaluation of the loop of `g` reads, but for the channels: the settings, the
records of its loop, the record and the stage slot of its unit, and a STOP in its slot; and the COOLING_STATE events
about it stand. -/
structure LoopStands (g : Group) (s t : State) : Prop where
  settings : t.settings = s.settings
  cool : t.coolOf g = s.coolOf g
  record : (t.unit g).record = (s.unit g).record
  stage : (t.unit g).stage = (s.unit g).stage
  stop : ∀ x, (s.unit g).command = some x → x.kind = .stop → (t.unit g).command = some x
  events : Leaves (ofSubject .coolingState g.num) s t

section
variable {s t u : State} {g h : Group} {apart : Bool}

theorem Touches.symm {l : List Block} (ht : Touches l s t) : Touches l t s := by
  intro b hb
  have hsame := ht b hb
  cases b
  all_goals exact Eq.symm hsame

theorem LoopStands.trans (a : LoopStands g s t) (b : LoopStands g t u) : LoopStands g s u where
  settings := b.settings.trans a.settings
  cool := b.cool.trans a.cool
  record := b.record.trans a.record
  stage := b.stage.trans a.stage
  stop x hx hk := b.stop x (a.stop x hx hk) hk
  events := a.events.trans b.events

/-- An operation on other blocks than settings, loops and link that posts no COOLING_STATE. -/
theorem LoopStands.of_touches {l : List Block} (ht : Touches l s t) (hset : .settings ∉ l) (hcool : .cool ∉ l)
    (hlink : .link ∉ l) (he : CoolStateStands s t) : LoopStands g s t := by
  have hunit : t.unit g = s.unit g := unit_congr (ht.link hlink) g
  refine ⟨ht.settings hset, coolOf_congr (ht.cool hcool) g, ?_, ?_, fun x hx _ => ?_, he.ofSubject_of_kind⟩
  · rw [hunit]
  · rw [hunit]
  · rw [hunit, hx]

theorem LoopStands.of_group (hg : GroupStands g s t) (hset : t.settings = s.settings) : LoopStands g s t :=
  ⟨hset, hg.cool, by rw [hg.unit], by rw [hg.unit], fun _ hx _ => by rw [hg.unit, hx],
    hg.events.ofSubject_of_subject⟩

/-- The withdrawal of a START leaves the record and the stage slot of its unit, and a STOP (R107). -/
theorem withdrawnUnit_stands (s : State) (g : Group) : (s.withdrawnUnit g).record = (s.unit g).record
    ∧ (s.withdrawnUnit g).stage = (s.unit g).stage
    ∧ ∀ x, (s.unit g).command = some x → x.kind = .stop → (s.withdrawnUnit g).command = some x := by
  have hres : ∀ b, ((s.unit g).resolved b).record = (s.unit g).record
      ∧ ((s.unit g).resolved b).stage = (s.unit g).stage := fun b => by
    unfold GroupUnit.resolved
    dsimp only
    split
    all_goals exact ⟨rfl, rfl⟩
  cases hc : (s.unit g).command with
  | none =>
    have e : s.withdrawnUnit g = s.unit g := by unfold State.withdrawnUnit; rw [hc]
    rw [e]
    exact ⟨rfl, rfl, fun _ hx _ => absurd hx nofun⟩
  | some y =>
    have e : s.withdrawnUnit g
        = if y.Withdrawable then (s.unit g).resolved (s.coolOf g).cap.unloading else s.unit g := by
      unfold State.withdrawnUnit
      rw [hc]
    rw [e]
    split
    · rename_i hw
      obtain ⟨hstart, _⟩ := hw
      obtain ⟨hrec, hstage⟩ := hres (s.coolOf g).cap.unloading
      refine ⟨hrec, hstage, fun x hx hk => ?_⟩
      obtain rfl := Option.some.inj hx
      exact absurd (hk.symm.trans hstart) nofun
    · exact ⟨rfl, rfl, fun x hx _ => hc.trans hx⟩

theorem registerSafe_unit (s : State) (level : Bool) (g : Group) :
    (s.registerSafe level).unit g = s.unit g ∨ (s.registerSafe level).unit g = s.withdrawnUnit g := by
  unfold State.registerSafe State.safeIfAsserted
  split
  · exact .inr (enterSafe_unit _ _ g)
  · exact .inl rfl

theorem readSafe_loopStands (s : State) (pin apart : Bool) (g : Group) : LoopStands g s (s.readSafe pin apart) := by
  have ht : Touches [.sup, .events, .link, .reg] s (s.readSafe pin apart) :=
    (touches_readSafe (by decide)).mpr (Touches.refl _ s)
  have hunit : (s.readSafe pin apart).unit g = s.unit g ∨ (s.readSafe pin apart).unit g = s.withdrawnUnit g := by
    unfold State.readSafe
    extract_lets n
    split
    · exact registerSafe_unit s pin g
    · exact .inl rfl
  have hev : Leaves (ofSubject .coolingState g.num) s (s.readSafe pin apart) :=
    (coolStands_readSafe s pin apart).ofSubject_of_kind
  have hcool := coolOf_congr (ht.cool (by decide)) g
  obtain hu | hu := hunit
  · exact ⟨ht.settings (by decide), hcool, by rw [hu], by rw [hu], fun x hx _ => by rw [hu, hx], hev⟩
  · obtain ⟨hrec, hstage, hstop⟩ := withdrawnUnit_stands s g
    exact ⟨ht.settings (by decide), hcool, by rw [hu, hrec], by rw [hu, hstage],
      fun x hx hk => by rw [hu, hstop x hx hk], hev⟩

/-- A boundary up to the evaluation of the loops. -/
def State.boundaryScanned (s : State) (b : Boundary) : State := ((s.boundaryRead b).aeSample b.apart).scanSample b.apart

theorem boundary_evalLoops (s : State) (b : Boundary) :
    s.boundary b = (s.boundaryScanned b).evalLoops b.apart := boundary_eq s b

theorem boundarySampled_loopStands (s : State) (b : Boundary) (g : Group) :
    LoopStands g s (s.boundarySampled b) := by
  have hline : Touches [.ticks, .pins, .energy, .front, .events, .sup] s (s.lineSample b) :=
    (touches_lineSample (by decide)).mpr (Touches.refl _ s)
  exact .of_touches (l := [.ticks, .pins, .energy, .front, .events, .sup, .stack])
    ((hline.mono (by decide)).trans (touches_boundarySampled.mono (by decide))) (by decide) (by decide) (by decide)
    ((coolStands_lineSample s b).trans ((coolStands_energySample _ _).trans (coolStands_stackSample _ _)))

theorem readInputs_loopStands (s : State) (b : Boundary) (g : Group) : LoopStands g s (s.readInputs b) := by
  have hutility : LoopStands g s (s.readUtility b.utility b.apart) :=
    .of_touches (l := [.stack, .events]) ((touches_readUtility (by decide)).mpr (Touches.refl _ s)) (by decide)
      (by decide) (by decide) (coolStands_readUtility s _ _)
  have hkey : ∀ v : State, Touches [.host] v (v.readKey b.engKey b.apart) := fun v =>
    (touches_readKey (by decide)).mpr (Touches.refl _ v)
  exact hutility.trans ((readSafe_loopStands _ b.safe b.apart g).trans
    (.of_touches (hkey _) (by decide) (by decide) (by decide) (.of_touches (hkey _) (by decide))))

theorem boundaryScanned_loopStands (s : State) (b : Boundary) (g : Group) :
    LoopStands g s (s.boundaryScanned b) := by
  have hscan : ∀ v : State, Touches [.scan] v (v.scanSample b.apart) := fun v =>
    (touches_scanSample (by decide)).mpr (Touches.refl _ v)
  refine (boundarySampled_loopStands s b g).trans ((readInputs_loopStands _ b g).trans ?_)
  exact .of_touches touches_aeScan (by decide) (by decide) (by decide)
    ((coolStands_aeSample _ _).trans (.of_touches (hscan _) (by decide)))

/-! ### The first steps of one loop -/

theorem evalLoop_of_unfitted (hf : s.fitted g = false) : s.evalLoop apart g = s :=
  if_neg (by rw [hf]; exact Bool.false_ne_true)

/-- An evaluation in a sample taken apart that comes to a change of the sensor fault field halts there (log 2). -/
theorem evalLoop_halts (hf : s.fitted g = true) (hd : s.sensorFault g ≠ (s.coolOf g).loop.fault) :
    s.evalLoop true g = (s.setLeft g .none).setLeft g .sensor := by
  have hdiff : (s.setLeft g .none).sensorDiffers g = true :=
    sensorDiffers_iff.mpr (by rw [coolOf_setLeft_self]; exact hd)
  exact (if_pos hf).trans (if_pos hdiff)

theorem evalLoop_goesOn (hf : s.fitted g = true)
    (hd : apart = false ∨ s.sensorFault g = (s.coolOf g).loop.fault) : s.evalLoop apart g = s.evalFirst apart g := by
  have hdiff : (apart && (s.setLeft g .none).sensorDiffers g) = false := by
    obtain rfl | hs := hd
    · rfl
    · refine Bool.and_eq_false_iff.mpr (.inr (Bool.eq_false_iff.mpr fun h => ?_))
      have hne := sensorDiffers_iff.mp h
      rw [coolOf_setLeft_self] at hne
      exact hne hs
  unfold State.evalLoop
  rw [if_pos hf]
  dsimp only
  rw [hdiff]
  rfl

theorem stands_evalLoop (e : h ≠ g) : GroupStands h s (s.evalLoop apart g) := by
  cases hf : s.fitted g
  · rw [evalLoop_of_unfitted hf]
    exact .refl h s
  · unfold State.evalLoop
    rw [if_pos hf]
    dsimp only
    split
    · exact (GroupStands.setLeft e _).trans (.setLeft e _)
    · rw [evalHead_eq]
      exact stands_evalFirst e

/-- The evaluation of the loops as the loop of `g` sees it: its first steps in a state `a` in which what they read
stands, its last two in a state `c` in which `g` stands as the first have left it, then at most one cycle. -/
theorem boundary_seen (s : State) (b : Boundary) (g : Group) : ∃ a c w, LoopStands g s a
    ∧ a.front = (s.boundary b).front ∧ Touches [.cool, .link, .events] a c
    ∧ GroupStands g (a.evalLoop b.apart g) c ∧ GroupStands g (c.evalStageUnload b.apart g) w
    ∧ CycleFollows w (s.boundary b) := by
  have hscanned := boundaryScanned_loopStands s b g
  have hcycle := cycleFollows (s.boundaryScanned b) (fun s => s.eachGroup fun s g => s.evalLoop b.apart g)
    fun s => s.eachGroup fun s g => s.evalStageUnload b.apart g
  have hfirst : ∀ t g, Touches [.cool, .link, .events] t (t.evalLoop b.apart g) := fun t g =>
    (touches_evalLoop (by decide)).mpr (Touches.refl _ t)
  have hlast : ∀ t g, Touches [.cool, .link] t (t.evalStageUnload b.apart g) := fun _ _ => touches_evalStageUnload_self
  obtain ⟨a, ha, hga, hgp⟩ := eachGroup_seen hfirst (fun t _ _ e => stands_evalLoop e) (s.boundaryScanned b) g
  have hp : Touches [.cool, .link, .events] (s.boundaryScanned b)
      ((s.boundaryScanned b).eachGroup fun s g => s.evalLoop b.apart g) :=
    (touches_eachGroup fun t g => hfirst t g).mpr (Touches.refl _ _)
  obtain ⟨c, hc, hgc, hgw⟩ := eachGroup_seen hlast (fun t _ _ e => stands_evalStageUnload e b.apart)
    ((s.boundaryScanned b).eachGroup fun s g => s.evalLoop b.apart g) g
  rw [boundary_evalLoops]
  have hwhole : Touches [.cool, .energy, .events, .reg, .link] (s.boundaryScanned b)
      ((s.boundaryScanned b).evalLoops b.apart) := (touches_evalLoops (by decide)).mpr (Touches.refl _ _)
  refine ⟨a, c, _, hscanned.trans (.of_group hga (ha.settings (by decide))), ?_, ?_, hgp.trans hgc, hgw, hcycle⟩
  · rw [ha.front (by decide), hwhole.front (by decide)]
  · exact ha.symm.trans (hp.trans (hc.mono (by decide)))

/-! ### The account of an evaluation, read of the state before the sample -/

theorem unloadingAfter_credit (s : State) (g : Group) (gc : Channel) (apart : Bool) (c : CapRecord) :
    (s.unloadingAfter g gc apart c).credit = c.credit := by
  unfold State.unloadingAfter
  dsimp only
  repeat' split
  all_goals rfl

theorem unloadingBegun_credit (s : State) (g : Group) (c : CapRecord) : (s.unloadingBegun g c).credit = c.credit := by
  unfold State.unloadingBegun
  split
  all_goals rfl

/-- The join credit is brought down to the capacity (R81). -/
theorem State.Evaluated.credit_le (h : s.Evaluated g apart t) :
    (t.coolOf g).cap.credit ≤ (t.coolOf g).cap.capacity := by
  have hheld : (s.capHeld t g).credit ≤ (t.coolOf g).cap.capacity := Nat.min_le_right _ _
  have hreached : (s.capReached t g).credit = (s.capHeld t g).credit := by
    unfold State.capReached
    split
    · exact unloadingBegun_credit ..
    · rfl
  by_cases hgoes : apart = false ∨ ¬ s.StopsIn t g
  · obtain ⟨_, _, _, _, hcap, _⟩ := h.done hgoes
    have hcredit : (t.coolOf g).cap.credit = (s.capReached t g).credit := by rw [hcap, unloadingAfter_credit]
    rw [hcredit, hreached]
    exact hheld
  · obtain ⟨hap, hst⟩ := not_or.mp hgoes
    obtain ⟨_, _, _, hcap, _⟩ := h.halted (Bool.eq_true_of_not_eq_false hap) (not_not.mp hst)
    have hcredit : (t.coolOf g).cap.credit = (s.capHeld t g).credit := by rw [hcap]
    rw [hcredit]
    exact hheld

/-- The flow factor is a setting of at most 1000, so the loop factor is at most 1000 (R76, 11.6). -/
theorem factor_le_of_formed {was l : LoopRecord} {temp flow : Int} (hs : s.SettingsKept)
    (hf : s.LoopFormed g was l temp flow) : l.factor ≤ 1000 := by
  obtain ⟨_, hrange, _⟩ := hs
  have hitem : s.cfg (.loop g .flowFactor) ≤ 1000 := (hrange (.loop g .flowFactor) (Item.mem_all _)).2
  obtain ⟨_, hflow, _, hfactor, _, _⟩ := hf
  have hle : l.flowFactor ≤ 1000 := by
    rw [hflow]
    split
    · unfold State.cfgN
      omega
    · exact le_refl _
  rw [hfactor]
  exact (Nat.min_le_right _ _).trans ((Nat.min_le_left _ _).trans hle)

/-- A capacity formed with a loop factor is at most the rated current (R76). -/
theorem capacity_le_rated {rated factor : Nat} (h : factor ≤ 1000) : rated * factor / 1000 ≤ rated :=
  Nat.div_le_of_le_mul ((Nat.mul_le_mul_left _ h).trans_eq (Nat.mul_comm _ _))

namespace LoopStands

variable {a : State}

theorem stopsIn_iff (h : LoopStands g s a) : a.StopsIn t g ↔ s.StopsIn t g := by
  unfold State.StopsIn State.begunKept
  rw [h.cool, stopFallsDue_congr h.settings]

theorem begunKept_eq (h : LoopStands g s a) : a.begunKept t g = s.begunKept t g := by
  unfold State.begunKept
  rw [h.cool]

theorem capHeld_eq (h : LoopStands g s a) : a.capHeld t g = s.capHeld t g := by
  unfold State.capHeld
  rw [h.cool]

theorem capReached_eq (h : LoopStands g s a) : a.capReached t g = s.capReached t g := by
  unfold State.capReached
  rw [h.capHeld_eq, unloadingBegun_congr (allocatable_congr h.settings h.record)]
  exact if_congr h.stopsIn_iff rfl rfl

theorem coolStateTold {was l : LoopRecord} (h : LoopStands g s a) (ht : a.CoolStateTold t g was l) :
    s.CoolStateTold t g was l := by
  obtain ⟨htold, hquiet⟩ := ht
  exact ⟨htold, fun hs => (hquiet hs).trans h.events.entries⟩

end LoopStands

end

end Sys2Proof.Machine

/-- Settles O25: the steps of one loop are followed from the state in which they begin, and what they read is traced
back to the state before the sample. -/
theorem boundaryEvaluatesEveryFittedLoop : Obligations.BoundaryEvaluatesEveryFittedLoop := by
  unfold Obligations.BoundaryEvaluatesEveryFittedLoop
  intro b s
  refine ⟨s.boundary b, rfl, fun g => ?_⟩
  obtain ⟨a, c, w, hsa, hfront, hac, hfirst, hlast, hcycle⟩ := boundary_seen s b g
  have hchan : ∀ n, (s.boundary b).chan n = a.chan n := chan_congr hfront.symm
  obtain ⟨_, hslot, _, _⟩ := hcycle.slots g
  generalize s.boundary b = t at *
  have hset := hac.settings (by decide)
  intro was cap l now slot st temp failed
  have hfit : a.fitted g = s.fitted g := fitted_congr hsa.settings g
  have hfailed : a.sensorFault g = failed := by
    show _ = decide (_ ∨ _)
    rw [hchan, hchan, Bool.decide_or]
    rfl
  refine ⟨fun hf => ?_, fun hf => ⟨fun hap hd => ?_, fun hgoes => ?_⟩⟩
  · rw [evalLoop_of_unfitted (hfit.trans hf)] at hfirst
    rw [evalStageUnload_halted (.inl ((fitted_congr hset g).trans (hfit.trans hf)))] at hlast
    exact ⟨(hcycle.coolOf g).trans (hlast.cool.trans (hfirst.cool.trans hsa.cool)),
      by show (t.unit g).stage = _; rw [hslot, hlast.unit, hfirst.unit, hsa.stage]⟩
  · rw [hap, evalLoop_halts (hfit.trans hf) (by rw [hfailed, hsa.cool]; exact hd)] at hfirst
    have hc : c.coolOf g = { a.coolOf g with left := .sensor } := by
      rw [hfirst.cool, coolOf_setLeft_self, coolOf_setLeft_self]
    rw [evalStageUnload_halted (.inr (by rw [hc]; exact nofun))] at hlast
    exact ⟨(hcycle.coolOf g).trans (hlast.cool.trans (hc.trans (by rw [hsa.cool]))),
      by show (t.unit g).stage = _; rw [hslot, hlast.unit, hfirst.unit]; exact hsa.stage⟩
  · rw [evalLoop_goesOn (hfit.trans hf) (by rw [hfailed, hsa.cool]; exact hgoes)] at hfirst
    have hall : a.Evaluated g b.apart t := evaluated_of_steps (hfit.trans hf) hac hfirst hlast hcycle
    have htemp : a.outlet g = temp := congrArg Channel.value (hchan _).symm
    have hformed := (loopFormed_congr hsa.settings).mp hall.formed
    rw [hsa.cool, htemp, ← hchan] at hformed
    have hcapacity := hall.capacity
    rw [cfgN_congr hsa.settings] at hcapacity
    have hstoppable : (if st = .starting ∨ st = .running ∨ st = .unknown then [1#8] else [0#8])
        = flagByte (a.unit g).record.state.stoppable := by
      rw [hsa.record]
      exact flagByte_stoppable.symm
    extract_lets begun stops held
    have hstops : a.StopsIn t g ↔ stops := hsa.stopsIn_iff
    refine ⟨hall.fault.trans hfailed, hformed, hcapacity,
      fun hs => hcapacity.trans_le (capacity_le_rated (factor_le_of_formed hs hformed)), hall.credit_le, ?_,
      fun hd => ?_, fun hap hst => ?_, fun hap hst => ?_, fun hgo => ?_⟩
    · have htold := hsa.coolStateTold hall.told
      rw [hsa.cool] at htold
      exact htold
    · have htold := hall.sensor (by rw [hfailed, hsa.cool]; exact hd)
      rw [hfailed] at htold
      unfold State.outletFailed State.flowFailed at htold
      rw [← hchan, ← hchan] at htold
      exact htold
    · have htold := hall.stopTold hap (hstops.mpr hst)
      rw [htemp, ← hstoppable] at htold
      exact htold
    · have hhalted := hall.halted hap (hstops.mpr hst)
      rw [hsa.begunKept_eq, hsa.capHeld_eq, hsa.cool, hsa.stage] at hhalted
      exact hhalted
    · obtain ⟨hleft, hbegun, hstage, hstageSlot, hcap, hrelease⟩ := hall.done (hgo.imp_right (mt hstops.mp))
      rw [hsa.cool, hsa.stage] at hstageSlot
      rw [hsa.capReached_eq, unloadingAfter_congr hsa.settings, ← hchan] at hcap
      rw [hsa.capReached_eq] at hrelease
      rw [hsa.cool, hfailed, htemp, stageAfter_congr hsa.settings] at hstage
      rw [decide_eq_decide.mpr hstops, hsa.begunKept_eq] at hbegun
      exact ⟨hleft, hbegun, hstage, hstageSlot, hcap,
        fun hu hn x hx hk => hrelease hu hn x (hsa.stop x hx hk) hk⟩
end

section
/-! PROOFS. The command in flight (O59; R93, R99): `FlightStands s t` says that from `s` to `t` the link stands and no
command becomes SENT or ceases to be. Each operation that does not send, answer or discard an order has one lemma. -/

open Sys2Proof Sys2Proof.Machine

namespace Sys2Proof.Machine

/-! ### The kind that is SENT, and the kind in flight -/

/-- The kind of the command in the slot, when it is SENT (R93). -/
def GroupUnit.sentKind (u : GroupUnit) : Option CmdKind :=
  u.command.bind fun c => if c.state = .sent then some c.kind else none

/-- The kind of command that the link carries to group `g` (R99). -/
def Bus.sentTo (b : Bus) (g : Group) : Option CmdKind :=
  match b with
  | .idle | .draining => none
  | .awaiting o =>
    if o.group = g then
      match o.order with
      | .command k => some k
      | .sense | .setShare _ | .setStage _ => none
    else none

theorem sentKind_iff {u : GroupUnit} {k : CmdKind} :
    u.sentKind = some k ↔ ∃ c, u.command = some c ∧ c.state = .sent ∧ c.kind = k := by
  simp [GroupUnit.sentKind, Option.bind_eq_some_iff]

theorem sentTo_iff {b : Bus} {g : Group} {k : CmdKind} :
    b.sentTo g = some k ↔ ∃ o, b = .awaiting o ∧ o.group = g ∧ o.order = .command k := by
  cases b with
  | idle => simp [Bus.sentTo]
  | draining => simp [Bus.sentTo]
  | awaiting o =>
    unfold Bus.sentTo
    cases horder : o.order <;> simp [horder]

theorem sentTo_of_ne {o : InFlight} {g : Group} (e : o.group ≠ g) : (Bus.awaiting o).sentTo g = none := if_neg e

theorem sentTo_of_other {o : InFlight} (g : Group) (ho : ∀ k, o.order ≠ .command k) :
    (Bus.awaiting o).sentTo g = none :=
  Option.eq_none_iff_forall_ne_some.mpr fun k hk => by
    obtain ⟨_, hb, _, hko⟩ := sentTo_iff.mp hk
    exact ho k (Bus.awaiting.inj hb ▸ hko)

/-- The law, said group by group: the kind that is SENT is the kind in flight. -/
theorem flightKept_iff {s : State} : s.FlightKept ↔ ∀ g, (s.unit g).sentKind = s.link.bus.sentTo g := by
  unfold State.FlightKept
  simp only [← sentKind_iff, ← sentTo_iff]
  exact forall_congr' fun g => ⟨fun h => Option.ext h, fun h k => by rw [h]⟩

/-- With no order in flight, the law says that no command is SENT. -/
theorem flightKept_of_idle {s : State} (hbus : s.link.bus = .idle ∨ s.link.bus = .draining)
    (hsent : ∀ g, (s.unit g).sentKind = none) : s.FlightKept := by
  refine flightKept_iff.mpr fun g => ?_
  rw [hsent]
  rcases hbus with h | h <;> rw [h] <;> rfl

theorem sentKind_congr {u v : GroupUnit} (h : v.command = u.command) : v.sentKind = u.sentKind := by
  unfold GroupUnit.sentKind
  rw [h]

theorem sentKind_of_none {u : GroupUnit} (h : u.command = none) : u.sentKind = none := by
  unfold GroupUnit.sentKind
  rw [h]
  rfl

theorem sentKind_of_ne {u : GroupUnit} {c : Command} (h : u.command = some c) (hs : c.state ≠ .sent) :
    u.sentKind = none := by
  simp [GroupUnit.sentKind, h, hs]

/-- What a completion leaves in the slot has not been sent (R98, R106). -/
theorem sentKind_resolved (u : GroupUnit) (unloading : Bool) : (u.resolved unloading).sentKind = none := by
  unfold GroupUnit.resolved GroupUnit.sentKind
  dsimp only
  split
  · rfl
  · dsimp only
    split <;> rfl

/-! ### Operations that leave the link and the command in flight -/

/-- From `s` to `t` the link stands, and so does what each group has SENT. -/
structure FlightStands (s t : State) : Prop where
  bus : t.link.bus = s.link.bus
  sent : ∀ g, (t.unit g).sentKind = (s.unit g).sentKind

namespace FlightStands

variable {s t u : State} {g : Group}

theorem refl (s : State) : FlightStands s s := ⟨rfl, fun _ => rfl⟩

theorem trans (a : FlightStands s t) (b : FlightStands t u) : FlightStands s u :=
  ⟨b.bus.trans a.bus, fun g => (b.sent g).trans (a.sent g)⟩

theorem of_link (h : t.link = s.link) : FlightStands s t := ⟨by rw [h], fun g => by rw [unit_congr h]⟩

theorem of_touches {l : List Block} (h : Touches l s t) (hl : .link ∉ l) : FlightStands s t := of_link (h.link hl)

/-- An operation may begin in a state with the same link. -/
theorem after (a : FlightStands t u) (h : t.link = s.link) : FlightStands s u := (of_link h).trans a

/-- The law passes over an operation that leaves the command in flight. -/
theorem keeps (a : FlightStands s t) (h : s.FlightKept) : t.FlightKept := by
  rw [flightKept_iff] at h ⊢
  intro g
  rw [a.sent, a.bus, h]

theorem setUnit {v : GroupUnit} (h : v.sentKind = (s.unit g).sentKind) : FlightStands s (s.setUnit g v) := by
  refine ⟨rfl, fun g' => ?_⟩
  by_cases e : g' = g
  · subst e
    rw [unit_setUnit_self, h]
  · rw [unit_setUnit_ne _ _ e]

theorem setRecord (r : GroupRecord) : FlightStands s (s.setRecord g r) := setUnit rfl

theorem when {c : Bool} {f : State → State} (hf : FlightStands s (f s)) : FlightStands s (s.when c f) := by
  cases c
  · exact refl s
  · exact hf

theorem foldl {α : Type} {f : State → α → State} (hf : ∀ v x, FlightStands v (f v x)) (xs : List α)
    (s : State) :
    FlightStands s (xs.foldl f s) := by
  induction xs generalizing s with
  | nil => exact refl s
  | cons x xs ih => exact (hf s x).trans (ih _)

theorem eachGroup {f : State → Group → State} (hf : ∀ v g, FlightStands v (f v g)) :
    FlightStands s (s.eachGroup f) :=
  foldl hf Group.all s

/-! #### Share and stage slots (R94, R95) -/

theorem writeShare (v : Nat) : FlightStands s (s.writeShare g v) := setUnit rfl

theorem writeStage (v : Nat) : FlightStands s (s.writeStage g v) := setUnit rfl

theorem setTarget (s : State) (periodic : Bool) : FlightStands s (s.setTarget periodic) := by
  rw [setTarget_eq]
  exact (foldl (fun (v : State) (x : Group × Nat) => writeShare (s := v) (g := x.1) x.2) _ _).after
    (touches_cycleReported.link (by decide))

theorem outOfTurn (s : State) : FlightStands s s.outOfTurn := by
  cases hr : s.regulating
  · rw [outOfTurn_of_not_regulating hr]; exact refl s
  · rw [outOfTurn_of_regulating hr]; exact setTarget s false

theorem cycle (s : State) (apart : Bool) : FlightStands s (s.cycle true apart) := by
  cases hr : s.regulating
  · rw [cycle_of_not_regulating hr]; exact refl s
  · have hgrown : FlightStands s s.grown := of_touches touches_grown (by decide)
    have hrest : Touches [.reg, .events] (s.grown.setTarget true) (s.cycle true apart) := by
      have e : s.cycle true apart
          = (s.grown.setTarget true).countTracking.when (!apart) State.evalTracking := by
        simp [State.cycle, hr, State.when, State.grown]
      rw [e]
      exact (touches_when fun _ => (touches_evalTracking (by decide)).mpr (Touches.refl _ _)).mpr
        ((touches_countTracking (by decide)).mpr (Touches.refl _ _))
    exact hgrown.trans ((setTarget _ true).trans (of_touches hrest (by decide)))

theorem notice (s : State) (before : Carriage) (cause : Bool) : FlightStands s (s.notice before cause) := by
  rw [notice_eq]
  exact (of_touches touches_settled (by decide)).trans (when (outOfTurn _))

theorem unloadCycle {head tail : State → State} (h : FlightStands s (tail (head s))) :
    FlightStands s (s.withUnloadCycle head tail) := h.trans (when (outOfTurn _))

/-! #### The loops (R73, R78, R97, R98) -/

/-- A cooling stop handed over leaves a command that is SENT, and puts none in flight (R98). -/
theorem placeCoolingStop (s : State) (g : Group) : FlightStands s (s.placeCoolingStop g) := by
  have hslot : ((s.unit g).stopHanded (s.coolOf g).cap.unloading).sentKind = (s.unit g).sentKind := by
    cases hc : (s.unit g).command with
    | none =>
      rw [stopHanded_none hc, sentKind_of_none hc]
      split
      · exact sentKind_of_none hc
      · rfl
    | some x =>
      rw [stopHanded_some hc]
      by_cases hx : x.state = .sent
      · rw [if_pos hx]
        rfl
      · rw [if_neg hx, sentKind_of_ne hc hx]
        split
        · exact sentKind_of_ne hc hx
        · split
          · exact sentKind_of_ne hc hx
          · split
            · exact sentKind_of_ne hc hx
            · rfl
  obtain ⟨t, ht, e⟩ := placeCoolingStop_cases s g
  have hst : FlightStands s t := by
    rcases ht with rfl | ⟨fields, rfl⟩
    · exact refl _
    · exact of_link rfl
  rw [e]
  exact hst.trans (setUnit (hslot.trans (hst.sent g).symm))

theorem releaseStop (s : State) (g : Group) : FlightStands s (s.releaseStop g) := by
  unfold State.releaseStop
  dsimp only
  split
  · rename_i c hc
    split
    · exact setUnit (by unfold GroupUnit.sentKind; rw [hc]; rfl)
    · exact refl s
  · exact refl s

theorem endUnload (s : State) (g : Group) (cause : UnloadEnd) : FlightStands s (s.endUnload g cause) := by
  unfold State.endUnload
  dsimp only
  split
  · exact (releaseStop _ g).after rfl
  · exact refl s

theorem beginCoolingStop (s : State) (g : Group) : FlightStands s (s.beginCoolingStop g) := by
  rw [beginCoolingStop_eq]
  exact (of_touches (touches_stopUnloading s g) (by decide)).trans
    ((when (placeCoolingStop _ g)).trans (of_link (t := State.post _ _ _ _) rfl))

theorem evalStop (s : State) (apart : Bool) (g : Group) : FlightStands s (s.evalStop apart g) := by
  unfold State.evalStop
  split
  · split
    · exact of_link rfl
    · exact beginCoolingStop s g
  · exact refl s

theorem evalHead (s : State) (apart : Bool) (g : Group) : FlightStands s (s.evalHead apart g) := by
  refine (of_touches (l := [.cool, .events]) ?_ (by decide)).trans (evalStop _ apart g)
  simp

theorem evalLoop (s : State) (apart : Bool) (g : Group) : FlightStands s (s.evalLoop apart g) := by
  unfold State.evalLoop
  dsimp only
  split
  · split
    · exact of_link rfl
    · exact (evalHead _ apart g).after rfl
  · exact refl s

theorem evalStage (s : State) (g : Group) : FlightStands s (s.evalStage g) := by
  unfold State.evalStage
  dsimp only
  split
  · exact refl s
  · exact (writeStage _).after rfl

theorem evalUnload (s : State) (g : Group) (apart : Bool) : FlightStands s (s.evalUnload g apart) := by
  unfold State.evalUnload
  extract_lets c timed
  have htimed : FlightStands s timed := of_link rfl
  split
  · split
    · exact htimed.trans (endUnload _ g _)
    · split
      · exact htimed.trans (endUnload _ g _)
      · exact htimed
  · exact refl s

theorem evalStageUnload (s : State) (apart : Bool) (g : Group) : FlightStands s (s.evalStageUnload apart g) := by
  unfold State.evalStageUnload
  split
  · exact (evalStage s g).trans (evalUnload _ g apart)
  · exact refl s

theorem evalLoops (s : State) (apart : Bool) : FlightStands s (s.evalLoops apart) :=
  unloadCycle ((eachGroup fun v g => evalLoop v apart g).trans (eachGroup fun v g => evalStageUnload v apart g))

theorem sensorChange (s : State) (g : Group) : FlightStands s (s.sensorChange g) := by
  unfold State.sensorChange
  split
  · exact unloadCycle (((evalHead _ true g).trans (evalStageUnload _ true g)).after rfl)
  · exact refl s

theorem coolingStop (s : State) (g : Group) : FlightStands s (s.coolingStop g) := by
  unfold State.coolingStop
  split
  · exact unloadCycle (((beginCoolingStop _ g).trans (evalStageUnload _ true g)).after rfl)
  · exact refl s

theorem unloadTimeEnd (s : State) (g : Group) : FlightStands s (s.unloadTimeEnd g) := by
  unfold State.unloadTimeEnd
  split
  · exact unloadCycle (endUnload s g .time)
  · exact refl s

/-! #### The supervisor (R11, R12, R107) -/

/-- A START is withdrawn before it is sent, never in flight (R107). -/
theorem withdrawStart (s : State) (g : Group) : FlightStands s (s.withdrawStart g) := by
  cases hc : (s.unit g).command with
  | none => rw [withdrawStart_of_none hc]; exact refl s
  | some x =>
    by_cases hw : x.Withdrawable
    · rw [withdrawStart_eq hc hw]
      obtain ⟨_, hx⟩ := hw
      have hempty : FlightStands s (s.setUnit g { s.unit g with command := none }) :=
        setUnit ((sentKind_of_none rfl).trans (sentKind_of_ne hc hx).symm)
      refine hempty.trans ((of_link (State.post_link _ _ _ _)).trans (setUnit ?_))
      rw [sentKind_resolved, unit_congr (State.post_link _ _ _ _), unit_setUnit_self]
      exact (sentKind_of_none rfl).symm
    · rw [withdrawStart_of_not hc hw]; exact refl s

theorem enterSafe (s : State) (cause : EntryCause) : FlightStands s (s.enterSafe cause) := by
  rw [enterSafe_eq]
  have hwithdrawn : FlightStands (s.safeAnnounced cause) ((s.safeAnnounced cause).eachGroup State.withdrawStart) :=
    eachGroup withdrawStart
  exact (hwithdrawn.trans (of_link (State.setReg_link _ _))).after rfl

theorem safeIfAsserted (s : State) : FlightStands s s.safeIfAsserted := by
  unfold State.safeIfAsserted
  split
  · exact enterSafe s .safeInput
  · exact refl s

theorem registerSafe (s : State) (level : Bool) : FlightStands s (s.registerSafe level) :=
  (safeIfAsserted (s.setSup { s.sup with safeLevel := level, safeRun := 0 })).after rfl

theorem readSafe (s : State) (pin apart : Bool) : FlightStands s (s.readSafe pin apart) := by
  unfold State.readSafe
  extract_lets n
  split
  · exact registerSafe s pin
  · exact of_link rfl

theorem lossTimeout (s : State) : FlightStands s s.lossTimeout := by
  unfold State.lossTimeout
  split
  · exact enterSafe s .noGroup
  · exact refl s

theorem runEntry (s : State) : FlightStands s s.runEntry := by
  have hprepared : FlightStands s.rampStarted s.runPrepared := of_touches touches_runPrepared (by decide)
  rw [runEntry_eq]
  exact (hprepared.trans ((cycle _ false).trans
    (of_link ((postSupState_link _ _).trans (State.setReg_link _ _))))).after rfl

theorem runRequest (s : State) : FlightStands s s.runRequest.2 := by
  by_cases hs : s.sup.state = .setup
  · by_cases hv : s.runValidation = .accepted
    · rw [runRequest_of_accepted hs hv]
      exact (runEntry (s.runNoted .accepted)).after rfl
    · rw [runRequest_of_refused hs hv]
      exact of_link rfl
  · rw [runRequest_of_not_setup hs]
    exact refl s

/-! #### The boundary (R28) -/

theorem boundary (s : State) (b : Boundary) : FlightStands s (s.boundary b) := by
  have hline : FlightStands s (s.lineSample b) :=
    of_touches (l := [.ticks, .pins, .energy, .front, .events, .sup])
      ((touches_lineSample (by decide)).mpr (Touches.refl _ s)) (by decide)
  have hread : FlightStands (s.boundarySampled b) (s.boundaryRead b) :=
    (of_touches (l := [.stack, .events]) ((touches_readUtility (by decide)).mpr (Touches.refl _ _)) (by decide)).trans
      ((readSafe _ b.safe b.apart).trans
        (of_touches (l := [.host]) ((touches_readKey (by decide)).mpr (Touches.refl _ _)) (by decide)))
  rw [boundary_eq]
  exact hline.trans ((of_touches touches_boundarySampled (by decide)).trans
    (hread.trans ((of_touches touches_aeScan (by decide)).trans (evalLoops _ b.apart))))

/-! #### The line computer's orders, the timers and the trip inputs (R90, R96, R100, R104) -/

theorem postCompletion (c : Command) (o : Completion) (status : Nat) :
    FlightStands s (s.postCompletion g c o status) :=
  of_touches (l := [.events]) ((touches_postCompletion (by decide)).mpr (Touches.refl _ s)) (by decide)

/-- A GROUP_RESET takes the place of a command that is not SENT, and waits behind one that is (R96). -/
theorem takeGroupReset (s : State) (g : Group) (o : Origin) : FlightStands s (s.takeGroupReset g o) := by
  unfold State.takeGroupReset
  extract_lets u dropFlag
  have hdrop : ∀ v : State, FlightStands v (dropFlag v) := fun v => by
    simp only [dropFlag]
    split
    · exact postCompletion _ _ _
    · exact refl v
  split
  · rename_i hc
    exact setUnit (sentKind_of_none hc).symm
  · rename_i c hc
    split
    · exact (hdrop s).trans (setUnit ((hdrop s).sent g).symm)
    · rename_i hx
      have hposted := (postCompletion (s := s) (g := g) c .superseded 0).trans (hdrop _)
      exact hposted.trans (setUnit (((hposted.sent g).trans (sentKind_of_ne hc hx)).symm))

theorem takeStop {o : Origin} (h : (s.unit g).command = none) : FlightStands s (s.takeStop g o) := by
  have hentered : FlightStands s
      (s.setUnit g { s.unit g with command := some (.fresh .stop o (!s.allocatable g)) }) :=
    setUnit (sentKind_of_none h).symm
  have hbegun : ∀ v : State, FlightStands v (v.beginUnload g .linkRequest) := fun v =>
    of_touches (touches_beginUnload_self v g .linkRequest) (by decide)
  exact hentered.trans (when (f := fun v => v.beginUnload g .linkRequest) (hbegun _))

/-- An order enters an empty slot, or is a GROUP_RESET (R96). -/
theorem takeOrder {kind : CmdKind} {o : Origin} (h : (s.unit g).command = none ∨ kind = .groupReset) :
    FlightStands s (s.takeOrder g kind o) := by
  cases kind with
  | groupReset => exact takeGroupReset s g o
  | stop => exact unloadCycle (head := fun s => s.takeStop g o) (tail := id) (takeStop (h.resolve_right nofun))
  | start | resetTrip | capture => exact setUnit (sentKind_of_none (h.resolve_right nofun)).symm

theorem groupOrder (s : State) (num : Nat) (kind : CmdKind) (tag : Byte) (eng : Bool) :
    FlightStands s (s.groupOrder num kind tag eng).2 := by
  unfold State.groupOrder
  split
  · exact refl s
  · repeat' split
    case isFalse.isFalse.isFalse.isFalse hbusy =>
      refine takeOrder ?_
      simpa [or_iff_not_imp_left, Option.isSome_iff_ne_none] using hbusy
    all_goals exact refl s

theorem backoffPass (s : State) (g : Group) (slot : LinkSlot) : FlightStands s (s.backoffPass g slot) := by
  unfold State.backoffPass
  cases slot with
  | command =>
    refine setUnit ?_
    unfold GroupUnit.sentKind Command.passDeadline
    cases (s.unit g).command with
    | none => rfl
    | some c => cases hc : c.state <;> simp [hc]
  | share => exact setUnit rfl
  | stage => exact setUnit rfl

theorem senseExpiry (s : State) (g : Group) : FlightStands s (s.senseExpiry g) := by
  unfold State.senseExpiry
  dsimp only
  split
  · exact setUnit rfl
  · exact refl s

theorem tripEvent (s : State) (g : Group) (level : Bool) : FlightStands s (s.tripEvent g level) := by
  have hregistered : FlightStands s (s.tripRegistered g level) :=
    (setRecord (g := g) { (s.unit g).record with trip := level }).trans (of_link rfl)
  by_cases h : level = (s.unit g).record.trip
  · rw [tripEvent_of_same h]
    exact refl s
  · cases hf : s.fitted g
    · rw [tripEvent_of_unfitted h hf]
      exact hregistered
    · rw [tripEvent_of_fitted h hf]
      have htold : FlightStands (s.tripPosted g level) (s.tripTold g level) :=
        when (f := fun t => t.endUnload g .trip) (endUnload _ g .trip)
      exact hregistered.trans ((htold.trans (notice _ _ _)).after rfl)

end FlightStands

end Sys2Proof.Machine
end

section
/-! PROOFS. What the taking of a reply and the end of a reply window leave of the units, the loops and the event queue,
part by part (R89, R100 to R106, R184). -/

open Sys2Proof Sys2Proof.Machine

namespace Sys2Proof.Machine

/-! ### The completion of a command (R98, R106) -/

theorem resolved_rest (u : GroupUnit) (unloading : Bool) : (u.resolved unloading).record = u.record
    ∧ (u.resolved unloading).share = u.share ∧ (u.resolved unloading).stage = u.stage := by
  unfold GroupUnit.resolved
  dsimp only
  split <;> exact ⟨rfl, rfl, rfl⟩

/-- What waits behind a command depends on the reset flag, the mark and the reported state (R98, R106). -/
theorem resolved_slots_congr {u v : GroupUnit} (hstate : v.record.state = u.record.state)
    (hflag : v.resetFlag = u.resetFlag) (hmark : v.coolPending = u.coolPending) (unloading : Bool) :
    (v.resolved unloading).command = (u.resolved unloading).command
      ∧ (v.resolved unloading).resetFlag = (u.resolved unloading).resetFlag
      ∧ (v.resolved unloading).coolPending = (u.resolved unloading).coolPending := by
  unfold GroupUnit.resolved
  dsimp only
  rw [hstate, hflag, hmark]
  cases u.resetFlag with
  | some o => exact ⟨rfl, rfl, rfl⟩
  | none => exact ⟨rfl, rfl, rfl⟩

/-- The unit of a group once the command in its slot, if it holds one, has completed (R106). -/
def GroupUnit.completed (u : GroupUnit) (unloading : Bool) : GroupUnit :=
  if u.command.isSome then u.resolved unloading else u

theorem completed_of_some {u : GroupUnit} {c : Command} (hc : u.command = some c) (unloading : Bool) :
    u.completed unloading = u.resolved unloading := by
  simp [GroupUnit.completed, hc]

theorem completed_record (u : GroupUnit) (unloading : Bool) : (u.completed unloading).record = u.record := by
  unfold GroupUnit.completed
  split
  · exact (resolved_rest u unloading).1
  · rfl

theorem sentKind_completed (u : GroupUnit) (unloading : Bool) : (u.completed unloading).sentKind = none := by
  unfold GroupUnit.completed
  split
  · exact sentKind_resolved u unloading
  · rename_i hc
    exact sentKind_of_none (by simpa using hc)

section
variable {s : State} {g h : Group} {c : Command} {o : Completion} {n : Nat}

theorem complete_of_none (hc : (s.unit g).command = none) : s.complete g o n = s := by
  unfold State.complete
  rw [hc]

theorem postCompletion_link (s : State) (g : Group) (c : Command) (o : Completion) (n : Nat) :
    (s.postCompletion g c o n).link = s.link :=
  Touches.link (l := [.events]) ((touches_postCompletion (by decide)).mpr (Touches.refl _ s)) (by decide)

theorem setUnit_link_congr {t : State} (e : t.link = s.link) (u : GroupUnit) :
    (t.setUnit g u).link = (s.setUnit g u).link := by
  unfold State.setUnit
  rw [e]
  rfl

/-- Of the link a completion changes the unit of its group. -/
theorem complete_link (s : State) (g : Group) (o : Completion) (n : Nat) :
    (s.complete g o n).link = (s.setUnit g ((s.unit g).completed (s.coolOf g).cap.unloading)).link := by
  cases hc : (s.unit g).command with
  | none =>
    rw [complete_of_none hc]
    simp [GroupUnit.completed, hc, setUnit_unit]
  | some c =>
    rw [complete_eq hc, completed_of_some hc, setUnit_link_congr (postCompletion_link _ _ _ _ _), setUnit_setUnit]

/-- Each completion has its event, but for a cooling STOP that is DONE (R106). -/
theorem complete_tells (hc : (s.unit g).command = some c) (h : ¬ (o = .done ∧ c.origin = .cooling)) :
    (s.complete g o n).Tells (if o = .done then .orderDone else .orderFailed) g.num
      [beBytes 1 c.origin.code, beBytes 1 c.origin.tag, beBytes 1 c.kind.orderCode, beBytes 1 c.seq,
       beBytes 1 o.code, beBytes 1 n] := by
  rw [complete_eq hc]
  refine (tells_congr rfl).mpr ?_
  unfold State.postCompletion
  rw [if_neg h]
  exact tells_post_self

end

/-! ### A valid reply is read (R101, R184) -/

/-- The condition that a code byte of 0 to 2 names (R184). -/
def Condition.ofByte (b : Byte) : Condition :=
  if b = 0#8 then .accepted else if b = 1#8 then .rejected else .busy

theorem Condition.ofCode?_ofByte {b : Byte} (h : b.toNat ≤ 2) : Condition.ofCode? b.toNat = some (.ofByte b) := by
  have hb : b = 0#8 ∨ b = 1#8 ∨ b = 2#8 := by bv_omega
  rcases hb with rfl | rfl | rfl <;> rfl

@[simp] theorem Condition.ofByte_accepted {b : Byte} : Condition.ofByte b = .accepted ↔ b = 0#8 := by
  unfold Condition.ofByte
  repeat' split
  all_goals simp_all

theorem GroupState.ofCode?_code {st : GroupState} (h : 1 ≤ st.code) : GroupState.ofCode? st.code = some st := by
  cases st with
  | unknown => exact absurd h (by decide)
  | _ => rfl

/-- The reply that the bytes of `InFlight.reply` make. -/
def GroupReply.given (condition status : Byte) (st : GroupState) (current : Nat) (capture : List Byte) : GroupReply :=
  { condition := .ofByte condition, status := status.toNat, state := st, current := current, capture := capture }

/-- The fields of a reply before its current, of one byte each (R184). -/
def InFlight.replyHead (o : InFlight) (condition status state : Byte) : List Byte :=
  [0x96#8, BitVec.ofNat 8 (o.group.num + 0x80), BitVec.ofNat 8 o.order.code, BitVec.ofNat 8 o.seq, condition, status,
    state]

/-- The fields of a reply one after another (R184). -/
theorem reply_eq (o : InFlight) (condition status state : Byte) (current : Nat) (capture : List Byte) :
    ∃ check : List Byte, check.length = 2 ∧ o.reply condition status state current capture
      = o.replyHead condition status state ++ (beBytes 4 current ++ (capture ++ check)) :=
  ⟨beBytes 2 (crc ((o.replyHead condition status state).tail ++ beBytes 4 current ++ capture)).toNat,
    beBytes_length 2 _, by simp [InFlight.reply, InFlight.replyHead]⟩

theorem crcGood_reply (o : InFlight) (condition status state : Byte) (current : Nat) (capture : List Byte) :
    crcGood ((o.reply condition status state current capture).drop 1) = true := crcGood_withCrc _

theorem Order.code_lt (o : Order) : o.code < 256 := by
  cases o with
  | command k => cases k <;> decide
  | sense | setShare _ | setStage _ => simp [Order.code]

theorem num_le_six (g : Group) : g.num ≤ 6 := by cases g <;> decide

/-- A reply that a firing controller can give is read as it was given (R184). -/
theorem readReply_reply {o : InFlight} {condition status state : Byte} {st : GroupState} {current : Nat}
    {capture : List Byte} (h : o.Answers condition state st current capture) :
    readReply o (o.reply condition status state current capture)
      = some (.given condition status st current capture) := by
  obtain ⟨hseq, hcond, hstate, hst, hcur, hcap⟩ := h
  have hgroup := num_le_six o.group
  have hcode := Order.code_lt o.order
  have hgood := crcGood_reply o condition status state current capture
  obtain ⟨check, hcheck, hframe⟩ := reply_eq o condition status state current capture
  rw [hframe] at hgood ⊢
  have hhead : (o.replyHead condition status state).length = 7 := rfl
  have hlen : (o.replyHead condition status state ++ (beBytes 4 current ++ (capture ++ check))).length
        = replyLength o.order (.ofByte condition) := by
    simp only [replyLength, Condition.ofByte_accepted, List.length_append, beBytes_length, hcap, hcheck, hhead]
    split <;> rfl
  have hcurrent : field (o.replyHead condition status state ++ (beBytes 4 current ++ (capture ++ check))) 7 4
      = current := by
    rw [field_append _ _ hhead (beBytes_length 4 current), beNat_beBytes]
    exact Nat.mod_eq_of_lt hcur
  have hpayload : ((o.replyHead condition status state ++ (beBytes 4 current ++ (capture ++ check))).drop 11).take
        capture.length = capture := by
    rw [← List.append_assoc, List.drop_left' (by simp [hhead]), List.take_left]
  have hsize : replyLength o.order (.ofByte condition) - 13 = capture.length := by
    simp only [replyLength, Condition.ofByte_accepted, hcap]
    split <;> rfl
  unfold readReply
  rw [hlen, hcurrent, hsize, hpayload]
  simp only [InFlight.replyHead, field, beNat, List.cons_append, List.drop_succ_cons, List.drop_zero,
    List.take_succ_cons, List.take_zero, List.foldl_cons, List.foldl_nil, Nat.mul_zero, Nat.zero_add, hstate,
    Condition.ofCode?_ofByte hcond, GroupState.ofCode?_code hst]
  rw [if_pos]
  · rfl
  · refine ⟨rfl, ?_, ?_, ?_, trivial, hgood⟩ <;> rw [BitVec.toNat_ofNat, Nat.mod_eq_of_lt (by omega)]

/-! ### The group record taken from a reply (R89, R108) -/

section
variable (s : State) (g : Group) (x : GroupReply)

/-- The record of the group replaced by the one that the reply carries. -/
def State.recorded (s : State) (g : Group) (x : GroupReply) : State := s.setRecord g ((s.unit g).record.take x)

theorem touches_takeRecord_recorded : Touches [.events] (s.recorded g x) (s.takeRecord g x) := by
  unfold State.takeRecord State.recorded
  simp

theorem takeRecord_unit_self :
    (s.takeRecord g x).unit g = { s.unit g with record := (s.unit g).record.take x } := by
  rw [unit_congr ((touches_takeRecord_recorded s g x).link (by decide))]
  exact unit_setUnit_self _ _ _

theorem takeRecord_unit_ne {h : Group} (e : h ≠ g) : (s.takeRecord g x).unit h = s.unit h := by
  rw [unit_congr ((touches_takeRecord_recorded s g x).link (by decide))]
  exact unit_setUnit_ne _ _ e

/-- Each change that a reply brings is posted (R89, R108). -/
theorem takeRecord_tells :
    (x.state ≠ (s.unit g).record.state → (s.takeRecord g x).Tells .groupState g.num
        [beBytes 1 x.state.code, beBytes 1 (s.unit g).record.state.code])
      ∧ (x.state = .tripped → (s.unit g).record.state ≠ .tripped → (s.takeRecord g x).Tells .groupTrip g.num
        [[2#8], flagByte (s.unit g).record.trip])
      ∧ (x.isLocal ≠ (s.unit g).record.isLocal → (s.takeRecord g x).Tells .groupLocal g.num [flagByte x.isLocal])
      ∧ ((s.unit g).record.reachable = false → (s.takeRecord g x).Tells .groupUnreachable g.num [[1#8]]) := by
  unfold State.takeRecord
  extract_lets r s1 s2 s3 s4
  have h3 : Posts [.groupTrip] s2 s3 := posts_when (.refl _ _) fun _ => posts_post (.refl _ _) (by decide)
  have h4 : Posts [.groupLocal] s3 s4 := posts_when (.refl _ _) fun _ => posts_post (.refl _ _) (by decide)
  have h5 : Posts [.groupUnreachable] s4 (s4.when (!r.reachable) fun s =>
      s.post .groupUnreachable g.num [flagByte true]) :=
    posts_when (.refl _ _) fun _ => posts_post (.refl _ _) (by decide)
  refine ⟨fun h => ?_, fun hx hr => ?_, fun h => ?_, fun h => ?_⟩
  · refine h5.tells (by decide) (h4.tells (by decide) (h3.tells (by decide) ?_))
    simp only [s2, State.when, bne_iff_ne.mpr h, if_true, r]
    exact tells_post_self
  · refine h5.tells (by decide) (h4.tells (by decide) ?_)
    have hc : (x.state == .tripped && r.state != .tripped) = true := by simp [hx, r, hr]
    simp only [s3, State.when, hc, if_true]
    exact tells_post_self
  · refine h5.tells (by decide) ?_
    simp only [s4, State.when, bne_iff_ne.mpr h, if_true, r]
    exact tells_post_self
  · have hc : (!r.reachable) = true := by simp [r, h]
    simp only [State.when, hc, if_true]
    exact tells_post_self

end

/-! ### The effect of the condition (R102 to R104) -/

/-- The record of a group once an ACCEPTED reply to `o` has been taken: the share or stage is acknowledged, and a
capture is recorded (R102). -/
def GroupRecord.acknowledged (r : GroupRecord) (o : InFlight) (x : GroupReply) (now : Time) : GroupRecord :=
  match o.order with
  | .setShare v => { r with ackShare := v }
  | .setStage v => { r with ackStage := v }
  | .command .capture => { r with capture := some (readCapture x.capture now o.seq) }
  | .command .start => { r with ackShare := 0 }
  | .command .stop | .command .resetTrip | .command .groupReset | .sense => r

section
variable {s : State} {o : InFlight} {x : GroupReply} {k : CmdKind}

/-- The record of the group of `o` acknowledged (R102). -/
def State.acknowledged (s : State) (o : InFlight) (x : GroupReply) : State :=
  s.setRecord o.group ((s.unit o.group).record.acknowledged o x s.energy.time)

theorem acknowledged_unit_self (s : State) (o : InFlight) (x : GroupReply) : (s.acknowledged o x).unit o.group
    = { s.unit o.group with record := (s.unit o.group).record.acknowledged o x s.energy.time } :=
  unit_setUnit_self _ _ _

theorem setRecord_self (s : State) (g : Group) : s.setRecord g (s.unit g).record = s := setUnit_unit s g

theorem accept_command (ho : o.order = .command k) : s.accept o x = (s.acknowledged o x).complete o.group .done 0 := by
  unfold State.accept State.acknowledged GroupRecord.acknowledged
  rw [ho]
  cases k <;> simp only [setRecord_self]

theorem reject_command (ho : o.order = .command k) : s.reject o x = s.complete o.group .rejected x.status := by
  unfold State.reject
  rw [ho]

/-- Whether a BUSY reply completes the command: it was first sent 2 s ago or more, or is a START in SAFE (R104,
R107). -/
abbrev State.BusyCompletes (s : State) (k : CmdKind) (c : Command) : Prop :=
  s.busyTooLong c = true ∨ k = .start ∧ s.sup.state = .safe

theorem defer_of_none (ho : o.order = .command k) (hc : (s.unit o.group).command = none) : s.defer o = s := by
  simp only [State.defer, ho, hc]

theorem defer_late {c : Command} (ho : o.order = .command k) (hc : (s.unit o.group).command = some c)
    (hl : s.busyTooLong c = true) : s.defer o = s.complete o.group .busyTimeout 0 := by
  simp only [State.defer, ho, hc, hl, if_true]

theorem defer_withdrawn {c : Command} (ho : o.order = .command k) (hc : (s.unit o.group).command = some c)
    (hl : ¬ s.busyTooLong c = true) (hs : k = .start ∧ s.sup.state = .safe) :
    s.defer o = s.complete o.group .withdrawn 0 := by
  simp only [State.defer, ho, hc, if_neg hl, if_pos hs]

theorem defer_backoff {c : Command} (ho : o.order = .command k) (hc : (s.unit o.group).command = some c)
    (h : ¬ s.BusyCompletes k c) : s.defer o
      = s.setUnit o.group { s.unit o.group with command := some { c with state := .backoff false } } := by
  obtain ⟨hl, hs⟩ := not_or.mp h
  simp only [State.defer, ho, hc, if_neg hl, if_neg hs]

/-- The unit of a group once a BUSY reply to its command has been taken (R104, R107). -/
def State.deferredUnit (s : State) (g : Group) (k : CmdKind) : GroupUnit :=
  match (s.unit g).command with
  | none => s.unit g
  | some c =>
    if s.BusyCompletes k c then (s.unit g).completed (s.coolOf g).cap.unloading
    else { s.unit g with command := some { c with state := .backoff false } }

theorem deferredUnit_some {g : Group} {c : Command} (hc : (s.unit g).command = some c) : s.deferredUnit g k
    = if s.BusyCompletes k c then (s.unit g).completed (s.coolOf g).cap.unloading
      else { s.unit g with command := some { c with state := .backoff false } } := by
  simp only [State.deferredUnit, hc]

theorem deferredUnit_none {g : Group} (hc : (s.unit g).command = none) : s.deferredUnit g k = s.unit g := by
  simp only [State.deferredUnit, hc]

theorem deferredUnit_record (s : State) (g : Group) (k : CmdKind) :
    (s.deferredUnit g k).record = (s.unit g).record := by
  cases hc : (s.unit g).command with
  | none => rw [deferredUnit_none hc]
  | some c =>
    rw [deferredUnit_some hc]
    split
    · exact completed_record _ _
    · rfl

theorem deferredUnit_sentKind (s : State) (g : Group) (k : CmdKind) : (s.deferredUnit g k).sentKind = none := by
  cases hc : (s.unit g).command with
  | none => rw [deferredUnit_none hc]; exact sentKind_of_none hc
  | some c =>
    rw [deferredUnit_some hc]
    split
    · exact sentKind_completed _ _
    · rfl

theorem defer_link (ho : o.order = .command k) :
    (s.defer o).link = (s.setUnit o.group (s.deferredUnit o.group k)).link := by
  cases hc : (s.unit o.group).command with
  | none => rw [defer_of_none ho hc, deferredUnit_none hc, setUnit_unit]
  | some c =>
    rw [deferredUnit_some hc]
    by_cases hbusy : s.BusyCompletes k c
    · rw [if_pos hbusy, ← complete_link s o.group .withdrawn 0]
      by_cases hl : s.busyTooLong c = true
      · rw [defer_late ho hc hl, complete_link, complete_link]
      · rw [defer_withdrawn ho hc hl (hbusy.resolve_left hl)]
    · rw [defer_backoff ho hc hbusy, if_neg hbusy]

/-- The unit of a group once the effect of a reply's condition has been taken (R102 to R104, R107). -/
def State.answeredUnit (s : State) (o : InFlight) (x : GroupReply) : GroupUnit :=
  let u := s.unit o.group
  let acknowledged := { u with record := u.record.acknowledged o x s.energy.time }
  let unloading := (s.coolOf o.group).cap.unloading
  match o.order, x.condition with
  | .sense, _ => u
  | .setShare _, .accepted => acknowledged
  | .setShare v, .rejected => { u with share := u.share.reject v }
  | .setShare _, .busy => { u with share := { u.share with deadline := .running } }
  | .setStage _, .accepted => acknowledged
  | .setStage v, .rejected => { u with stage := u.stage.reject v }
  | .setStage _, .busy => { u with stage := { u.stage with deadline := .running } }
  | .command _, .accepted => acknowledged.completed unloading
  | .command _, .rejected => u.completed unloading
  | .command k, .busy => s.deferredUnit o.group k

/-- Of the link the condition changes the unit of the group answered. -/
theorem applyCondition_link (s : State) (o : InFlight) (x : GroupReply) :
    (s.applyCondition o x).link = (s.setUnit o.group (s.answeredUnit o x)).link := by
  unfold State.applyCondition State.answeredUnit
  cases ho : o.order with
  | sense => cases x.condition <;> simp [State.accept, State.reject, State.defer, ho, setUnit_unit]
  | setShare v | setStage v => cases x.condition <;> simp [State.accept, State.reject, State.defer, ho,
      State.postRejected, State.setRecord, GroupRecord.acknowledged]
  | command k =>
    cases x.condition with
    | accepted =>
      simp only [accept_command ho, complete_link, acknowledged_unit_self]
      exact congrArg State.link (setUnit_setUnit _ _ _ _)
    | rejected => simp only [reject_command ho, complete_link]
    | busy => exact defer_link ho

theorem applyCondition_unit_self (s : State) (o : InFlight) (x : GroupReply) :
    (s.applyCondition o x).unit o.group = s.answeredUnit o x :=
  (unit_congr (applyCondition_link s o x) _).trans (unit_setUnit_self _ _ _)

theorem applyCondition_unit_ne (s : State) (o : InFlight) (x : GroupReply) {h : Group} (e : h ≠ o.group) :
    (s.applyCondition o x).unit h = s.unit h :=
  (unit_congr (applyCondition_link s o x) _).trans (unit_setUnit_ne _ _ e)

/-- What the condition makes of the group record (R102). -/
theorem answeredUnit_record (s : State) (o : InFlight) (x : GroupReply) : (s.answeredUnit o x).record
    = if x.condition = .accepted then (s.unit o.group).record.acknowledged o x s.energy.time
      else (s.unit o.group).record := by
  unfold State.answeredUnit
  cases ho : o.order with
  | sense => cases x.condition <;> simp [GroupRecord.acknowledged, ho]
  | setShare v | setStage v => cases x.condition <;> rfl
  | command k =>
    cases x.condition with
    | accepted => exact completed_record _ _
    | rejected => exact completed_record _ _
    | busy => exact deferredUnit_record _ _ _

/-- No command is SENT once its reply has been taken (R102 to R104). -/
theorem answeredUnit_sentKind (s : State) (x : GroupReply) (ho : o.order = .command k) :
    (s.answeredUnit o x).sentKind = none := by
  unfold State.answeredUnit
  rw [ho]
  cases x.condition with
  | accepted => exact sentKind_completed _ _
  | rejected => exact sentKind_completed _ _
  | busy => exact deferredUnit_sentKind _ _ _

/-- A reply to a SENSE, a share or a stage leaves the command slot (R102 to R104). -/
theorem answeredUnit_command (s : State) (x : GroupReply) (ho : ∀ k, o.order ≠ .command k) :
    (s.answeredUnit o x).command = (s.unit o.group).command := by
  unfold State.answeredUnit
  cases h : o.order with
  | command k => exact absurd h (ho k)
  | sense => rfl
  | setShare v | setStage v => cases x.condition <;> rfl

end

/-! ### The outcome taken (R100 to R102) -/

section
variable (s : State) (g : Group)

theorem dropShare_unit_self (st : GroupState) : (s.dropShare g st).unit g = { s.unit g with record :=
    { (s.unit g).record with ackShare := if st.holdsNoShare then 0 else (s.unit g).record.ackShare } } := by
  unfold State.dropShare
  split
  · exact unit_setUnit_self _ _ _
  · rfl

theorem dropShare_unit_ne (st : GroupState) {h : Group} (e : h ≠ g) : (s.dropShare g st).unit h = s.unit h := by
  unfold State.dropShare
  split
  · exact unit_setUnit_ne _ _ e
  · rfl

theorem outcomeTaken_unit_self : (s.outcomeTaken g).unit g
    = { s.unit g with record := { (s.unit g).record with senseDue := false }, senseTimer := true } :=
  unit_setUnit_self _ _ _

theorem outcomeTaken_unit_ne {h : Group} (e : h ≠ g) : (s.outcomeTaken g).unit h = s.unit h := unit_setUnit_ne _ _ e

theorem outcomeTaken_bus : (s.outcomeTaken g).link.bus = .idle := rfl

end

/-! ### A valid reply as a whole (R101) -/

section
variable (s : State) (o : InFlight) (x : GroupReply)

/-- A valid reply taken into the record and applied, the link being idle again (R89, R100 to R104). -/
def State.replyTaken : State :=
  (((s.takeRecord o.group x).applyCondition o x).dropShare o.group x.state).outcomeTaken o.group

/-- The reply takes the group out of RUNNING while it unloads (R85). -/
def State.replyCancels : Bool :=
  (s.unit o.group).record.state == .running && x.state != .running && (s.coolOf o.group).cap.unloading

/-- Then an unloading cancelled, before the notices (R85). -/
def State.replyTold : State :=
  (s.replyTaken o x).when (s.replyCancels o x) fun t => t.endUnload o.group .notRunning

theorem touches_replyTaken : Touches [.link, .events] s (s.replyTaken o x) := by
  unfold State.replyTaken
  simp

theorem takeReply_eq : s.takeReply o x = (s.replyTold o x).notice s.carriage (s.replyCancels o x) := by
  have hcool : (s.replyTaken o x).coolOf o.group = s.coolOf o.group :=
    coolOf_congr ((touches_replyTaken s o x).cool (by decide)) _
  unfold State.replyTold State.replyCancels
  rw [← hcool]
  rfl

theorem replyTaken_unit_ne {h : Group} (e : h ≠ o.group) : (s.replyTaken o x).unit h = s.unit h := by
  unfold State.replyTaken
  rw [outcomeTaken_unit_ne _ _ e, dropShare_unit_ne _ _ _ e, applyCondition_unit_ne _ _ _ e, takeRecord_unit_ne _ _ _ e]

/-- The unit that the condition leaves, the share dropped and the sense timer restarted. -/
theorem replyTaken_unit_self : (s.replyTaken o x).unit o.group =
    let u := (s.takeRecord o.group x).answeredUnit o x
    { u with record := { u.record with
              ackShare := if x.state.holdsNoShare then 0 else u.record.ackShare, senseDue := false },
             senseTimer := true } := by
  unfold State.replyTaken
  rw [outcomeTaken_unit_self, dropShare_unit_self, applyCondition_unit_self]

theorem replyTaken_bus : (s.replyTaken o x).link.bus = .idle := outcomeTaken_bus _ _

theorem groupReply_of_valid {s : State} {o : InFlight} {x : GroupReply} {bytes : List Byte}
    (hb : s.link.bus = .awaiting o) (hx : readReply o bytes = some x) : s.groupReply bytes = s.takeReply o x := by
  simp only [State.groupReply, hb, hx]

theorem groupReply_of_invalid {s : State} {o : InFlight} {bytes : List Byte} (hb : s.link.bus = .awaiting o)
    (hx : readReply o bytes = none) : s.groupReply bytes = s := by
  simp only [State.groupReply, hb, hx]

theorem groupReply_of_not_awaiting {s : State} {bytes : List Byte} (hb : ∀ o, s.link.bus ≠ .awaiting o) :
    s.groupReply bytes = s := by
  unfold State.groupReply
  split
  · rfl
  · rfl
  · exact absurd ‹_› (hb _)

end

/-! ### The end of a reply window (R105) -/

/-- The unit of a group that has become unreachable. -/
def GroupUnit.unreached (u : GroupUnit) : GroupUnit := { u with record := { u.record with reachable := false } }

section
variable (s : State) (o : InFlight)

/-- The group of an order without a reply made unreachable, and told (R105). -/
def State.unanswered : State :=
  (s.setRecord o.group { (s.unit o.group).record with reachable := false }).when (s.unit o.group).record.reachable
    fun t => t.post .groupUnreachable o.group.num [flagByte false]

/-- Then a command in flight completed LOST (R105). -/
def State.lostCompleted : State :=
  match o.order with
  | .command _ => (s.unanswered o).complete o.group .lost 0
  | .sense | .setShare _ | .setStage _ => s.unanswered o

theorem windowExpiry_of_idle {s : State} (hb : s.link.bus = .idle) : s.windowExpiry = s := by
  simp only [State.windowExpiry, hb]

theorem windowExpiry_of_draining {s : State} (hb : s.link.bus = .draining) :
    s.windowExpiry = s.setLink { s.link with bus := .idle } := by
  simp only [State.windowExpiry, hb]

theorem windowExpiry_of_awaiting {s : State} {o : InFlight} (hb : s.link.bus = .awaiting o) :
    s.windowExpiry = ((s.lostCompleted o).outcomeTaken o.group).notice s.carriage false := by
  unfold State.windowExpiry State.lostCompleted State.unanswered
  cases ho : o.order <;> simp only [hb, ho]

theorem touches_unanswered_recorded : Touches [.events]
    (s.setRecord o.group { (s.unit o.group).record with reachable := false }) (s.unanswered o) :=
  (touches_when fun _ => (touches_post (by decide)).mpr (Touches.refl _ _)).mpr (Touches.refl _ _)

theorem touches_lostCompleted : Touches [.link, .events] s (s.lostCompleted o) := by
  have hu : Touches [.link, .events] s (s.unanswered o) :=
    Touches.trans ((touches_setRecord (by decide)).mpr (Touches.refl _ s))
      ((touches_unanswered_recorded s o).mono (by decide))
  unfold State.lostCompleted
  split
  · exact (touches_complete (by decide)).mpr hu
  all_goals exact hu

theorem unanswered_unit_self : (s.unanswered o).unit o.group = (s.unit o.group).unreached := by
  rw [unit_congr ((touches_unanswered_recorded s o).link (by decide))]
  exact unit_setUnit_self _ _ _

theorem unanswered_unit_ne {h : Group} (e : h ≠ o.group) : (s.unanswered o).unit h = s.unit h := by
  rw [unit_congr ((touches_unanswered_recorded s o).link (by decide))]
  exact unit_setUnit_ne _ _ e

theorem lostCompleted_of_command {k : CmdKind} (ho : o.order = .command k) :
    s.lostCompleted o = (s.unanswered o).complete o.group .lost 0 := by
  unfold State.lostCompleted
  rw [ho]

theorem lostCompleted_of_other (ho : ∀ k, o.order ≠ .command k) : s.lostCompleted o = s.unanswered o := by
  unfold State.lostCompleted
  cases h : o.order with
  | command k => exact absurd h (ho k)
  | sense | setShare v | setStage v => rfl

theorem lostCompleted_unit_ne {h : Group} (e : h ≠ o.group) : (s.lostCompleted o).unit h = s.unit h := by
  rw [← unanswered_unit_ne s o e]
  unfold State.lostCompleted
  split
  · rw [unit_congr (complete_link _ _ _ _), unit_setUnit_ne _ _ e]
  all_goals rfl

theorem lostCompleted_unit_command {k : CmdKind} (ho : o.order = .command k) :
    (s.lostCompleted o).unit o.group = (s.unit o.group).unreached.completed (s.coolOf o.group).cap.unloading := by
  have hcool : (s.unanswered o).coolOf o.group = s.coolOf o.group :=
    coolOf_congr ((touches_unanswered_recorded s o).cool (by decide)) _
  rw [lostCompleted_of_command s o ho, unit_congr (complete_link _ _ _ _), unit_setUnit_self, unanswered_unit_self,
    hcool]

end

end Sys2Proof.Machine
end

section
/-! PROOFS. Every step keeps at most one command SENT, the one in flight (O59; R93, R99): the operations that send an
order, take its outcome, or discard it. -/

open Sys2Proof Sys2Proof.Machine

namespace Sys2Proof.Machine

/-! ### Sending (R99) -/

/-- A command that is offered stands in the slot (R99). -/
theorem command_of_offer {s : State} {g : Group} {k : CmdKind} (h : s.offer g = some (.command k)) :
    ∃ c, (s.unit g).command = some c ∧ c.kind = k := by
  have hrest : ∀ (a b c : Prop) [Decidable a] [Decidable b] [Decidable c] (v w : Nat),
      (if a then some (Order.setShare v) else if b then some (.setStage w) else if c then some .sense else none)
        ≠ some (.command k) := by
    intros
    repeat' split
    all_goals exact nofun
  unfold State.offer at h
  dsimp only at h
  split at h
  · split at h
    · rename_i c hc
      split at h
      · exact ⟨c, hc, by simpa using h⟩
      · exact absurd h (hrest _ _ _ _ _)
    · exact absurd h (hrest _ _ _ _ _)
  · exact absurd h nofun

/-- What the arbiter serves is offered (R99). -/
theorem offer_of_chosen {s : State} {g : Group} {o : Order} (h : s.chosen = some (g, o)) : s.offer g = some o := by
  unfold State.chosen at h
  extract_lets offers at h
  have hmem : (g, o) ∈ offers := by
    split at h
    · rename_i x hx
      exact Option.some.inj h ▸ List.mem_of_find?_eq_some hx
    · exact List.mem_of_head? h
  obtain ⟨g', _, hg'⟩ := List.mem_filterMap.mp hmem
  obtain ⟨p, hp, he⟩ := Option.map_eq_some_iff.mp hg'
  obtain ⟨rfl, rfl⟩ := Prod.mk.inj he
  exact hp

theorem sendOrder_unit_self (s : State) (g : Group) (o : Order) : (s.sendOrder g o).unit g
    = (s.unit g).sending o (((s.unit g).record.seq + 1) % 256) ⟨s.energy.time, s.ticks⟩ := unit_setUnit_self _ _ _

theorem sendOrder_unit_ne (s : State) {g h : Group} (o : Order) (e : h ≠ g) : (s.sendOrder g o).unit h = s.unit h :=
  unit_setUnit_ne _ _ e

namespace State.FlightKept

variable {s : State}

theorem of_touches {t : State} {l : List Block} (h : s.FlightKept) (ht : Touches l s t) (hl : .link ∉ l) :
    t.FlightKept := (FlightStands.of_touches ht hl).keeps h

theorem sentKind (h : s.FlightKept) (g : Group) : (s.unit g).sentKind = s.link.bus.sentTo g := flightKept_iff.mp h g

/-- An order sent on an idle link is the only one in flight, and its command the only one SENT (R99). -/
theorem sendOrder (h : s.FlightKept) (hb : s.link.bus = .idle) {g : Group} {o : Order} (ho : s.offer g = some o) :
    (s.sendOrder g o).FlightKept := by
  have hnone : ∀ g', (s.unit g').sentKind = none := fun g' => by rw [h.sentKind, hb]; rfl
  refine flightKept_iff.mpr fun g' => ?_
  show _ = Bus.sentTo (.awaiting _) g'
  by_cases e : g' = g
  · subst e
    rw [sendOrder_unit_self]
    cases o with
    | sense | setShare v | setStage v => exact (hnone g').trans (sentTo_of_other _ (by simp)).symm
    | command k =>
      obtain ⟨c, hc, rfl⟩ := command_of_offer ho
      rw [sentTo_iff.mpr ⟨_, rfl, rfl, rfl⟩]
      simp [GroupUnit.sending, GroupUnit.sentKind, hc, Command.sent]
  · rw [sendOrder_unit_ne _ _ e, hnone, sentTo_of_ne (Ne.symm e)]

theorem orderSend (h : s.FlightKept) : s.orderSend.FlightKept := by
  unfold State.orderSend
  split
  · rename_i hb
    split
    · rename_i g o hc
      exact h.sendOrder hb (offer_of_chosen hc)
    · exact h
  · exact h

/-! ### The outcome of an order (R100 to R105) -/

/-- No other group has a command SENT while an order is in flight. -/
theorem sentKind_other (h : s.FlightKept) {o : InFlight} (hb : s.link.bus = .awaiting o) {g : Group}
    (e : g ≠ o.group) : (s.unit g).sentKind = none := by
  rw [h.sentKind, hb, sentTo_of_ne (Ne.symm e)]

/-- Nor has any group while the order in flight is no command. -/
theorem sentKind_own (h : s.FlightKept) {o : InFlight} (hb : s.link.bus = .awaiting o)
    (ho : ∀ k, o.order ≠ .command k) : (s.unit o.group).sentKind = none := by
  rw [h.sentKind, hb, sentTo_of_other _ ho]

theorem takeReply (h : s.FlightKept) {o : InFlight} (hb : s.link.bus = .awaiting o) (x : GroupReply) :
    (s.takeReply o x).FlightKept := by
  have hself : ((s.takeRecord o.group x).answeredUnit o x).sentKind = none := by
    by_cases ho : ∃ k, o.order = .command k
    · obtain ⟨k, ho⟩ := ho
      exact answeredUnit_sentKind _ x ho
    · have ho : ∀ k, o.order ≠ .command k := fun k hk => ho ⟨k, hk⟩
      have hcommand : ((s.takeRecord o.group x).answeredUnit o x).command = (s.unit o.group).command := by
        rw [answeredUnit_command _ x ho, takeRecord_unit_self]
      rw [sentKind_congr hcommand, h.sentKind_own hb ho]
  have htaken : (s.replyTaken o x).FlightKept := by
    refine flightKept_of_idle (.inl (replyTaken_bus s o x)) fun g => ?_
    by_cases e : g = o.group
    · subst e
      rw [replyTaken_unit_self]
      exact hself
    · rw [replyTaken_unit_ne s o x e]
      exact h.sentKind_other hb e
  have htold : FlightStands (s.replyTaken o x) (s.replyTold o x) :=
    FlightStands.when (f := fun t => t.endUnload o.group .notRunning) (.endUnload _ _ _)
  rw [takeReply_eq]
  exact (htold.trans (.notice _ _ _)).keeps htaken

theorem groupReply (h : s.FlightKept) (bytes : List Byte) : (s.groupReply bytes).FlightKept := by
  cases hb : s.link.bus with
  | idle | draining => rw [groupReply_of_not_awaiting (by simp [hb])]; exact h
  | awaiting o =>
    cases hx : readReply o bytes with
    | none => rw [groupReply_of_invalid hb hx]; exact h
    | some x => rw [groupReply_of_valid hb hx]; exact h.takeReply hb x

theorem windowExpiry (h : s.FlightKept) : s.windowExpiry.FlightKept := by
  cases hb : s.link.bus with
  | idle => rw [windowExpiry_of_idle hb]; exact h
  | draining =>
    rw [windowExpiry_of_draining hb]
    refine flightKept_of_idle (.inl rfl) fun g => ?_
    exact (h.sentKind g).trans (by rw [hb]; rfl)
  | awaiting o =>
    have hself : ((s.lostCompleted o).unit o.group).sentKind = none := by
      by_cases ho : ∃ k, o.order = .command k
      · obtain ⟨k, ho⟩ := ho
        rw [lostCompleted_unit_command s o ho]
        exact sentKind_completed _ _
      · have ho : ∀ k, o.order ≠ .command k := fun k hk => ho ⟨k, hk⟩
        rw [lostCompleted_of_other s o ho, unanswered_unit_self]
        exact h.sentKind_own hb ho
    rw [windowExpiry_of_awaiting hb]
    refine (FlightStands.notice _ _ _).keeps (flightKept_of_idle (.inl (outcomeTaken_bus _ _)) fun g => ?_)
    by_cases e : g = o.group
    · subst e
      rw [outcomeTaken_unit_self]
      exact hself
    · rw [outcomeTaken_unit_ne _ _ e, lostCompleted_unit_ne s o e]
      exact h.sentKind_other hb e

/-! ### Resets and fitting (R109, R110, R181) -/

theorem deviceReset (s : State) (p : Pins) : (s.deviceReset p).FlightKept := by
  refine (FlightStands.safeIfAsserted _).keeps (flightKept_of_idle (.inl rfl) fun g => ?_)
  show ((Six.ofFn fun g => GroupUnit.initial (p.trip.get g)).get g).sentKind = none
  rw [Six.get_ofFn]
  rfl

/-- A line reset empties every slot, and an order in flight is discarded (R109). -/
theorem slotsReset (s : State) : s.slotsReset.FlightKept := by
  refine flightKept_of_idle ?_ fun g => ?_
  · show s.link.bus.discard = .idle ∨ s.link.bus.discard = .draining
    cases s.link.bus with
    | idle => exact .inl rfl
    | draining | awaiting o => exact .inr rfl
  · show ((Six.ofFn fun g => (s.unit g).lineReset).get g).sentKind = none
    rw [Six.get_ofFn]
    rfl

theorem rewriteStage (s : State) (g : Group) : FlightStands s (s.rewriteStage g) := by
  unfold State.rewriteStage
  split
  · exact .writeStage _
  · exact .refl s

theorem lineReset (s : State) : s.lineReset.2.FlightKept := by
  have hlink : s.resetLink.FlightKept := by
    rw [resetLink_eq]
    exact (FlightStands.eachGroup rewriteStage).keeps ((slotsReset _).of_touches touches_aligned (by decide))
  rw [lineReset_eq]
  dsimp only
  exact (FlightStands.safeIfAsserted _).keeps (hlink.of_touches touches_resetStack (by decide))

/-- A group that is unfitted has no command, and no order to it is in flight (R110). -/
theorem unfitted (h : s.FlightKept) (g : Group) :
    ((s.setUnit g (s.unit g).unfit).setLink { (s.setUnit g (s.unit g).unfit).link with
      bus := s.link.bus.discardTo g }).FlightKept := by
  refine flightKept_iff.mpr fun g' => ?_
  show ((s.setUnit g (s.unit g).unfit).unit g').sentKind = (s.link.bus.discardTo g).sentTo g'
  by_cases e : g' = g
  · subst e
    rw [unit_setUnit_self]
    unfold Bus.discardTo
    cases s.link.bus with
    | idle | draining => rfl
    | awaiting o =>
      dsimp only
      split
      · rfl
      · rename_i hne
        exact (sentTo_of_ne hne).symm
  · rw [unit_setUnit_ne _ _ e, h.sentKind]
    unfold Bus.discardTo
    cases s.link.bus with
    | idle | draining => rfl
    | awaiting o =>
      dsimp only
      split
      · rename_i hg
        subst hg
        exact sentTo_of_ne (Ne.symm e)
      · rfl

theorem fitChange (h : s.FlightKept) (g : Group) (on : Bool) (before : Carriage) :
    (s.fitChange g on before).FlightKept := by
  unfold State.fitChange
  dsimp only
  split
  · refine (FlightStands.notice _ _ _).keeps (FlightStands.keeps ?_ h)
    exact FlightStands.setUnit rfl
  · refine (FlightStands.notice _ _ _).keeps ((h.unfitted g).of_touches (l := [.cool]) ?_ (by decide))
    exact (touches_unfitCooling (by decide)).mpr (Touches.refl _ _)

theorem writeItem (h : s.FlightKept) (i : Item) (v : Int) : (s.writeItem i v).FlightKept := by
  have hset : (s.setSettings (s.settings.apply i v)).FlightKept := (FlightStands.of_link rfl).keeps h
  unfold State.writeItem
  by_cases hi : ∃ g, i = .group g .fitted
  · obtain ⟨g, rfl⟩ := hi
    unfold State.itemEffect State.when
    dsimp only
    split
    · exact hset.fitChange _ _ _
    · exact hset
  · exact hset.of_touches (State.TargetKept.touches_itemEffect_of_ne fun g hg => hi ⟨g, hg⟩) (by decide)

theorem foldl_step {eng : Bool} (pairs : List (Item × Int)) (a : Applied) (h : a.state.FlightKept) :
    (pairs.foldl (Applied.step eng) a).state.FlightKept := by
  induction pairs generalizing a with
  | nil => exact h
  | cons p rest ih =>
    refine ih _ ?_
    unfold Applied.step
    split
    · exact h.writeItem p.1 p.2
    · exact h

theorem setItems (h : s.FlightKept) (payload : List Byte) (eng : Bool) : (s.setItems payload eng).2.FlightKept := by
  unfold State.setItems
  extract_lets count code pairs a
  split
  · exact (FlightStands.of_link rfl).keeps h
  · split
    · exact h
    · exact foldl_step _ _ h

theorem serveGroupOrder (h : s.FlightKept) (kind : CmdKind) : (s.serveGroupOrder kind).FlightKept := by
  refine takeRequest_keeps (fun _ _ ht hu => hu.of_touches ht (by decide)) (fun f eng u hu => ?_) h
  unfold RequestKind.handle
  dsimp only
  split
  · exact hu
  · split
    · exact hu
    · split
      · exact (FlightStands.groupOrder _ _ _ _ _).keeps hu
      · exact hu

end State.FlightKept

/-! ### Every step (O59) -/

theorem exec_flightKept {c : Instr} {s t : State} (h : s.FlightKept) (he : exec c s = .next t) : t.FlightKept := by
  have hh : ∀ u v : State, Touches [.host] u v → u.FlightKept → v.FlightKept :=
    fun _ _ ht hu => hu.of_touches ht (by decide)
  cases c with
  | deviceReset p => cases he; exact State.FlightKept.deviceReset s p
  | lineReset => cases he; exact serve_keeps hh (fun _ _ u _ => State.FlightKept.lineReset u) h
  | setItems => cases he; exact serve_keeps hh (fun payload eng _ hu => hu.setItems payload eng) h
  | run => cases he; exact serve_keeps hh (fun _ _ u hu => (FlightStands.runRequest u).keeps hu) h
  | groupOrderStart | groupOrderStop | groupOrderResetTrip | groupOrderCapture | groupOrderGroupReset =>
    cases he; exact h.serveGroupOrder _
  | lineSample b | lineMeasRecovery b =>
    have e : s.boundary b = t := by injection he
    exact e ▸ (FlightStands.boundary s b).keeps h
  | coolingSensor g => cases he; exact (FlightStands.sensorChange s g).keeps h
  | coolingStop g => cases he; exact (FlightStands.coolingStop s g).keeps h
  | unloadTimeEnd g => cases he; exact (FlightStands.unloadTimeEnd s g).keeps h
  | safeInputEvent level =>
    cases he
    split
    · exact (FlightStands.registerSafe s level).keeps h
    · exact h
  | groupLossTimeout => cases he; exact (FlightStands.lossTimeout s).keeps h
  | tripInputEvent g level => cases he; exact (FlightStands.tripEvent s g level).keeps h
  | periodicCycle apart =>
    cases he
    split
    · exact (FlightStands.cycle s apart).keeps h
    · exact h
  | orderSend => cases he; exact h.orderSend
  | groupReply bytes => cases he; exact h.groupReply bytes
  | replyWindowExpiry => cases he; exact h.windowExpiry
  | backoffDeadline g slot => cases he; exact (FlightStands.backoffPass s g slot).keeps h
  | senseTimerExpiry g => cases he; exact (FlightStands.senseExpiry s g).keeps h
  | _ => exact h.of_touches (exec_touches he) (by simp [commandBlocks])

end Sys2Proof.Machine

/-- Settles O59: every operation but three leaves the command in flight; an order is sent on an idle link alone, and
its outcome or its discarding takes the command out of SENT. -/
theorem everyStepKeepsOneOrderInFlight : Obligations.EveryStepKeepsOneOrderInFlight := by
  unfold Obligations.EveryStepKeepsOneOrderInFlight
  intro s t h hstep
  unfold step at hstep
  split at hstep
  · cases hstep
    exact h
  · rename_i rest _
    exact exec_flightKept (s := { s with pending := rest }) h hstep
end

section
/-! PROOFS. The line computer's group orders, and the timers of the link (O30, O32, O37; R96, R100, R104). -/

open Sys2Proof Sys2Proof.Machine

namespace Sys2Proof.Machine

/-! ### The kind code of an order (R96) -/

theorem ofCode?_code (k : CmdKind) : CmdKind.ofCode? k.code = some k := by cases k <;> rfl

theorem ofCode?_eq_none {code : Nat} (h : code = 0 ∨ 5 < code) : CmdKind.ofCode? code = none := by
  unfold CmdKind.ofCode?
  refine List.find?_eq_none.mpr fun k _ => ?_
  cases k <;> simp [CmdKind.code] <;> omega

theorem exec_groupOrder {c : Instr} {kind : CmdKind} (hc : c.orderKind? = some kind) (s : State) :
    exec c s = .next (s.serveGroupOrder kind) := by
  cases c <;> cases hc <;> rfl

/-- A GROUP_ORDER whose kind code names no kind is refused by each of the five commands (R96, log 21). -/
theorem serveGroupOrder_badValue {s : State} {f : Frame} {rest : List Frame} (kind : CmdKind)
    (h : s.Admits .groupOrder f rest) (hk : CmdKind.ofCode? (field f.payload 1 1) = none) :
    s.serveGroupOrder kind = s.taken.answer f (s.engineer f) ⟨.badValue, []⟩ := by
  obtain ⟨ho, hc, _, hl⟩ := h
  have hmine : f.isGroupOrder kind = true := by simp [Frame.isGroupOrder, isKind_of_code hc, hk]
  have hhandle : ∀ rule, RequestKind.groupOrder.handle rule f (s.engineer f) s.taken
      = rule f.payload (s.engineer f) s.taken := fun rule => by
    simp [RequestKind.handle, hl, RequestKind.engineerOnly]
  unfold State.serveGroupOrder
  rw [takeRequest_of_offers ho hmine, hhandle, hk]
  rfl

/-! ### The tests of an order (R96) -/

theorem groupOfNum?_num (g : Group) : groupOfNum? g.num = some g := by cases g <;> rfl

theorem num_of_groupOfNum? {n : Nat} {g : Group} (h : groupOfNum? n = some g) : g.num = n := by
  simpa using List.find?_some h

section
variable {s : State} {g : Group} {kind : CmdKind} {tag : Byte} {eng : Bool}

theorem groupOrder_noSuch {n : Nat} (h : ∀ g : Group, g.num = n → s.fitted g = false) :
    s.groupOrder n kind tag eng = (⟨.noSuch, []⟩, s) := by
  unfold State.groupOrder
  split
  · rfl
  · rename_i g hg
    rw [if_pos (by simp [h g (num_of_groupOfNum? hg)])]
    rfl

theorem groupOrder_notPermitted (hf : s.fitted g = true) (hk : kind ≠ .capture) (he : eng = false) :
    s.groupOrder g.num kind tag eng = (⟨.notPermitted, []⟩, s) := by
  simp [State.groupOrder, groupOfNum?_num, hf, hk, he, Reply.bare]

theorem groupOrder_wrongState (hf : s.fitted g = true) (he : kind ≠ .capture → eng = true)
    (hk : kind = .start ∨ kind = .stop) (hs : s.sup.state = .safe) :
    s.groupOrder g.num kind tag eng = (⟨.wrongState, []⟩, s) := by
  have hpermit : ¬ (kind ≠ .capture ∧ (!eng) = true) := fun ⟨hc, hn⟩ => by simp [he hc] at hn
  unfold State.groupOrder
  rw [groupOfNum?_num]
  dsimp only
  rw [if_neg (by simp [hf]), if_neg hpermit, if_pos ⟨hs, hk⟩]
  rfl

theorem groupOrder_busy (hf : s.fitted g = true) (he : kind ≠ .capture → eng = true)
    (hs : kind = .start ∨ kind = .stop → s.sup.state ≠ .safe) (hk : kind ≠ .groupReset)
    (hc : (s.unit g).command.isSome = true) : s.groupOrder g.num kind tag eng = (⟨.busy, []⟩, s) := by
  have hpermit : ¬ (kind ≠ .capture ∧ (!eng) = true) := fun ⟨hc, hn⟩ => by simp [he hc] at hn
  unfold State.groupOrder
  rw [groupOfNum?_num]
  dsimp only
  rw [if_neg (by simp [hf]), if_neg hpermit, if_neg fun ⟨a, b⟩ => hs b a, if_pos ⟨hc, hk⟩]
  rfl

/-- An order that passes the tests of R96 is taken. -/
theorem groupOrder_queued (hf : s.fitted g = true) (he : kind ≠ .capture → eng = true)
    (hs : kind = .start ∨ kind = .stop → s.sup.state ≠ .safe)
    (hc : kind ≠ .groupReset → (s.unit g).command = none) : s.groupOrder g.num kind tag eng
      = (⟨.queued, beBytes 1 g.num ++ beBytes 1 kind.code⟩, s.takeOrder g kind (.linkRequest tag)) := by
  have hpermit : ¬ (kind ≠ .capture ∧ (!eng) = true) := fun ⟨hc, hn⟩ => by simp [he hc] at hn
  have hfree : ¬ ((s.unit g).command.isSome = true ∧ kind ≠ .groupReset) := fun ⟨hsome, hk⟩ => by
    simp [hc hk] at hsome
  unfold State.groupOrder
  rw [groupOfNum?_num]
  dsimp only
  rw [if_neg (by simp [hf]), if_neg hpermit, if_neg fun ⟨a, b⟩ => hs b a, if_neg hfree]

end

/-- A GROUP_ORDER that names the kind of the command answers as R96 rules. -/
theorem exec_groupOrder_answers {c : Instr} {kind : CmdKind} {s u : State} {f : Frame} {rest : List Frame} {r : Reply}
    (hc : c.orderKind? = some kind) (h : s.Admits .groupOrder f rest) (hk : field f.payload 1 1 = kind.code)
    (hr : s.taken.groupOrder (field f.payload 0 1) kind f.tag (s.engineer f) = (r, u)) :
    exec c s = .next (u.answer f (s.engineer f) r) := by
  rw [exec_groupOrder hc, serveGroupOrder_of_admits h (by rw [hk, ofCode?_code]), hr]

/-- An order that passes the tests of R96 is taken, and the reply is QUEUED. -/
theorem exec_groupOrder_queued {c : Instr} {kind : CmdKind} {s : State} {f : Frame} {rest : List Frame} {g : Group}
    {num code : Byte} (hc : c.orderKind? = some kind) (h : s.Admits .groupOrder f rest) (hnum : num.toNat = g.num)
    (hp : f.payload = [num, code]) (hcode : code.toNat = kind.code) (hf : s.fitted g = true)
    (he : kind ≠ .capture → s.engineer f = true) (hs : kind = .start ∨ kind = .stop → s.sup.state ≠ .safe)
    (hslot : kind ≠ .groupReset → (s.unit g).command = none) : exec c s
      = .next ((s.taken.takeOrder g kind (.linkRequest f.tag)).answer f (s.engineer f) ⟨.queued, [num, code]⟩) := by
  have hfield : field f.payload 0 1 = g.num := by simp [hp, field, beNat, hnum]
  have hkind : field f.payload 1 1 = kind.code := by simp [hp, field, beNat, hcode]
  have hbytes : beBytes 1 g.num ++ beBytes 1 kind.code = [num, code] := by
    rw [beBytes_one, beBytes_one, ← hnum, ← hcode, BitVec.ofNat_toNat, BitVec.ofNat_toNat, BitVec.setWidth_eq,
      BitVec.setWidth_eq]
    rfl
  refine exec_groupOrder_answers hc h hkind ?_
  rw [hfield, groupOrder_queued (s := s.taken) hf he hs hslot, hbytes]

/-! ### GROUP_RESET in the slots (R96, log 8) -/

section
variable {s : State} {g : Group} {o : Origin}

/-- A GROUP_RESET that stood in the reset flag completed SUPERSEDED (R96, log 8). -/
def State.flagDropped (s : State) (g : Group) (flag : Option Origin) : State :=
  match flag with
  | some o => s.postCompletion g (.fresh .groupReset o true) .superseded 0
  | none => s

theorem takeGroupReset_of_none (hc : (s.unit g).command = none) : s.takeGroupReset g o
    = s.setUnit g { s.unit g with command := some (.fresh .groupReset o true) } := by
  unfold State.takeGroupReset
  simp only [hc]

theorem takeGroupReset_of_sent {c : Command} (hc : (s.unit g).command = some c) (hs : c.state = .sent) :
    s.takeGroupReset g o
      = (s.flagDropped g (s.unit g).resetFlag).setUnit g { s.unit g with resetFlag := some o } := by
  unfold State.takeGroupReset
  simp only [hc]
  rw [if_pos hs]
  unfold State.flagDropped
  rfl

theorem takeGroupReset_of_not_sent {c : Command} (hc : (s.unit g).command = some c) (hs : c.state ≠ .sent) :
    s.takeGroupReset g o
      = ((s.postCompletion g c .superseded 0).flagDropped g (s.unit g).resetFlag).setUnit g
          { s.unit g with command := some (.fresh .groupReset o true), resetFlag := none } := by
  unfold State.takeGroupReset
  simp only [hc]
  rw [if_neg hs]
  unfold State.flagDropped
  rfl

end

end Sys2Proof.Machine

/-- Settles O30: an order that passes its tests is taken into the slot, and GROUP_RESET by the state of what stands
there. -/
theorem groupOrderEntersTheSlot : Obligations.GroupOrderEntersTheSlot := by
  unfold Obligations.GroupOrderEntersTheSlot
  refine ⟨?_, ?_⟩
  · intro f rest s g num h hnum hf hc fresh entered
    refine ⟨fun hp he hs => ?_, fun hp he => ?_, fun hp => ?_⟩
    · rw [← he]
      exact exec_groupOrder_queued (kind := .start) rfl h hnum hp rfl hf (fun _ => he) (fun _ => hs) fun _ => hc
    · rw [← he]
      exact exec_groupOrder_queued (kind := .resetTrip) rfl h hnum hp rfl hf (fun _ => he) (by simp) fun _ => hc
    · exact exec_groupOrder_queued (kind := .capture) rfl h hnum hp rfl hf (by simp) (by simp) fun _ => hc
  · intro f rest s g num h hnum hp he hf reset reply superseded dropped
    have htaken : exec .groupOrderGroupReset s
        = .next ((s.taken.takeGroupReset g (.linkRequest f.tag)).answer f true ⟨.queued, [num, 5#8]⟩) := by
      rw [← he]
      exact exec_groupOrder_queued (kind := .groupReset) rfl h hnum hp rfl hf (fun _ => he) (by simp) (by simp)
    have hdropped : ∀ u : State, u.flagDropped g (s.unit g).resetFlag = dropped u := fun u => by
      simp only [dropped]
      unfold State.flagDropped
      cases (s.unit g).resetFlag <;> rfl
    refine ⟨fun hc => ?_, fun x hx => ⟨fun hs => ?_, fun hs => ?_⟩⟩
    · rw [takeGroupReset_of_none (s := s.taken) hc] at htaken
      exact htaken
    · rw [takeGroupReset_of_sent (s := s.taken) hx hs] at htaken
      simp only [reply, ← hdropped]
      exact htaken
    · rw [takeGroupReset_of_not_sent (s := s.taken) hx hs] at htaken
      simp only [reply, ← hdropped]
      exact htaken

/-- Settles O32: the tests of R96 are taken one by one. -/
theorem groupOrdersAreRefusedInOrder : Obligations.GroupOrdersAreRefusedInOrder := by
  unfold Obligations.GroupOrdersAreRefusedInOrder
  intro c kind f rest s hc h num code refused
  refine ⟨fun hbad => ?_, fun hcode => ⟨fun hno => ?_, ?_⟩⟩
  · simp only [refused]
    rw [exec_groupOrder hc, serveGroupOrder_badValue kind h (ofCode?_eq_none hbad)]
  · exact exec_groupOrder_answers hc h hcode (groupOrder_noSuch (s := s.taken) hno)
  · intro g hg hf
    have answers : ∀ r, s.taken.groupOrder g.num kind f.tag (s.engineer f) = (⟨r, []⟩, s.taken) → refused r :=
      fun r hr => exec_groupOrder_answers hc h hcode (by rw [hg] at hr; exact hr)
    refine ⟨fun hk he => ?_, fun he => ⟨fun hk hs => ?_, fun hs hk hslot => ?_⟩⟩
    · exact answers _ (groupOrder_notPermitted (s := s.taken) hf hk he)
    · exact answers _ (groupOrder_wrongState (s := s.taken) hf he hk hs)
    · exact answers _ (groupOrder_busy (s := s.taken) hf he hs hk hslot)

/-- Settles O37: each deadline and timer is passed in the slot or record to which it belongs. -/
theorem linkTimersMakeOffersDue : Obligations.LinkTimersMakeOffersDue := by
  unfold Obligations.LinkTimersMakeOffersDue
  intro g s u
  have backoff : ∀ slot, exec (.backoffDeadline g slot) s = .next (s.backoffPass g slot) := fun _ => rfl
  have sense : exec (.senseTimerExpiry g) s = .next (s.senseExpiry g) := rfl
  refine ⟨fun x passed hx hs => ?_, fun h => ?_, fun h => ?_, fun hf ht => ?_, fun h => ?_⟩
  · have hx : (s.unit g).command = some x := hx
    rw [backoff]
    simp [State.backoffPass, Command.passDeadline, hx, hs, u]
  · have h : (s.unit g).share.deadline = .running := h
    rw [backoff]
    simp [State.backoffPass, Deadline.pass, h, u]
  · have h : (s.unit g).stage.deadline = .running := h
    rw [backoff]
    simp [State.backoffPass, Deadline.pass, h, u]
  · have ht : (s.unit g).senseTimer = true := ht
    rw [sense]
    simp [State.senseExpiry, hf, ht, u]
  · rw [sense]
    unfold State.senseExpiry
    rw [if_neg]
    rw [Bool.and_eq_true]
    rintro ⟨hf, ht⟩
    rcases h with h | h
    · exact Bool.false_ne_true (h.symm.trans hf)
    · exact Bool.false_ne_true (h.symm.trans ht)
end

section
/-! PROOFS. The arbiter (O33; R93 to R95, R99, R184): what a group offers, whose turn it is, and the order sent. -/

open Sys2Proof Sys2Proof.Machine

namespace Sys2Proof.Machine

/-! ### What a group offers (R93 to R95) -/

section
variable {s : State} {g : Group}

theorem cmdSendable_iff {c : Command} : s.cmdSendable c = true ↔ (c.state = .waiting ∨ c.state = .backoff true)
    ∧ (c.kind = .stop → c.sendable = true) ∧ (c.kind = .start → s.sup.state ≠ .safe) := by
  unfold State.cmdSendable
  rw [Bool.and_eq_true, Bool.and_eq_true, and_assoc]
  refine and_congr ?_ (and_congr ?_ ?_)
  · cases c.state <;> simp
  · by_cases hk : c.kind = .stop <;> simp [hk]
  · by_cases hk : c.kind = .start <;> simp [hk]

theorem ValueSlot.open_iff {x : ValueSlot} : x.open = true ↔ x.rejected = false ∧ x.deadline ≠ .running := by
  simp [ValueSlot.open]

theorem shareSendable_iff : s.shareSendable g = true ↔ (s.unit g).share.desired ≠ (s.unit g).record.ackShare
    ∧ (s.sup.state = .run ∨ s.sup.state = .hold) ∧ s.allocatable g = true ∧ (s.unit g).share.rejected = false
    ∧ (s.unit g).share.deadline ≠ .running := by
  unfold State.shareSendable
  simp only [Bool.and_eq_true, bne_iff_ne, regulating_iff, ValueSlot.open_iff, and_assoc]

theorem stageSendable_iff : s.stageSendable g = true ↔ (s.unit g).stage.desired ≠ (s.unit g).record.ackStage
    ∧ (s.unit g).record.reachable = true ∧ (s.unit g).stage.rejected = false
    ∧ (s.unit g).stage.deadline ≠ .running := by
  unfold State.stageSendable
  simp only [Bool.and_eq_true, bne_iff_ne, ValueSlot.open_iff, and_assoc]

theorem offer_of_unfitted (hf : s.fitted g = false) : s.offer g = none := by
  simp [State.offer, hf]

theorem offer_command (hf : s.fitted g = true) {c : Command} (hc : (s.unit g).command = some c)
    (hs : s.cmdSendable c = true) : s.offer g = some (.command c.kind) := by
  simp [State.offer, hf, hc, hs]

/-- Without a command to send a group offers its share, its stage or a SENSE (R99). -/
theorem offer_of_no_command (hf : s.fitted g = true)
    (hc : ∀ c, (s.unit g).command = some c → ¬ s.cmdSendable c = true) : s.offer g =
      if s.shareSendable g then some (.setShare (s.unit g).share.desired)
      else if s.stageSendable g then some (.setStage (s.unit g).stage.desired)
      else if (s.unit g).record.senseDue && !((s.unit g).command.any fun c => c.state == .sent) then some .sense
      else none := by
  unfold State.offer
  extract_lets u rest
  rw [if_pos hf]
  split
  · exact if_neg (hc _ ‹_›)
  · rfl

theorem sent_any_iff {u : GroupUnit} :
    (u.command.any fun c => c.state == .sent) = true ↔ ∃ c, u.command = some c ∧ c.state = .sent := by
  simp [Option.any_eq_true]

end

/-! ### Whose turn it is (R99) -/

/-- How many groups are counted before `g` from the one after `last` (R99). -/
def turnAfter (last g : Group) : Nat := (g.num + 5 - last.num) % 6

theorem groupsAfter_rising (last : Group) :
    (groupsAfter last).Pairwise fun a b => turnAfter last a < turnAfter last b := by
  cases last <;> decide

theorem mem_groupsAfter (last g : Group) : g ∈ groupsAfter last := by
  cases last <;> cases g <;> decide

/-- The offers in the order of the groups' turns. -/
def State.offers (s : State) : List (Group × Order) :=
  (groupsAfter s.link.lastServed).filterMap fun g => (s.offer g).map fun o => (g, o)

theorem mem_offers {s : State} {g : Group} {o : Order} : (g, o) ∈ s.offers ↔ s.offer g = some o := by
  unfold State.offers
  simp [mem_groupsAfter, Option.map_eq_some_iff]

/-- The first offer of a sort is the one whose turn comes before that of all others of the sort. -/
theorem find?_offers {s : State} {g : Group} {o : Order} {p : Order → Bool} (ho : s.offer g = some o)
    (hp : p o = true)
    (hfirst : ∀ x q, turnAfter s.link.lastServed x < turnAfter s.link.lastServed g → s.offer x = some q →
      p q = false) : s.offers.find? (fun x => p x.2) = some (g, o) := by
  obtain ⟨before, after, hsplit⟩ := List.append_of_mem (mem_groupsAfter s.link.lastServed g)
  have hturn : ∀ x ∈ before, turnAfter s.link.lastServed x < turnAfter s.link.lastServed g := by
    have hrising := groupsAfter_rising s.link.lastServed
    rw [hsplit, List.pairwise_append] at hrising
    obtain ⟨_, _, hbefore⟩ := hrising
    exact fun x hx => hbefore x hx g List.mem_cons_self
  unfold State.offers
  rw [List.find?_eq_some_iff_append, hsplit, List.filterMap_append, List.filterMap_cons, ho]
  refine ⟨hp, _, _, rfl, fun y hy => ?_⟩
  obtain ⟨x, hx, hxy⟩ := List.mem_filterMap.mp hy
  obtain ⟨q, hq, rfl⟩ := Option.map_eq_some_iff.mp hxy
  simpa using hfirst x q (hturn x hx) hq

theorem urgent_iff {p : Order} : p.urgent = true ↔ p = .command .groupReset ∨ p = .command .stop := by
  cases p with
  | command k => cases k <;> simp [Order.urgent]
  | sense | setShare v | setStage v => simp [Order.urgent]

theorem chosen_of_no_offer {s : State} (h : ∀ g, s.offer g = none) : s.chosen = none := by
  have hnil : s.offers = [] := by
    unfold State.offers
    simp [h]
  unfold State.offers at hnil
  unfold State.chosen
  dsimp only
  rw [hnil]
  rfl

/-- An urgent offer is chosen before any other (R99). -/
theorem chosen_urgent {s : State} {g : Group} {o : Order} (ho : s.offer g = some o) (hu : o.urgent = true)
    (hfirst : ∀ x q, turnAfter s.link.lastServed x < turnAfter s.link.lastServed g → s.offer x = some q →
      q.urgent = false) : s.chosen = some (g, o) := by
  have hfind := find?_offers ho hu hfirst
  unfold State.offers at hfind
  unfold State.chosen
  dsimp only
  rw [hfind]

/-- When none is urgent the first offer is chosen (R99). -/
theorem chosen_first {s : State} {g : Group} {o : Order} (ho : s.offer g = some o)
    (hfirst : ∀ x, turnAfter s.link.lastServed x < turnAfter s.link.lastServed g → s.offer x = none)
    (hu : ∀ x q, s.offer x = some q → q.urgent = false) : s.chosen = some (g, o) := by
  have hnone : s.offers.find? (fun x => x.2.urgent) = none :=
    List.find?_eq_none.mpr fun x hx => by simp [hu x.1 x.2 (mem_offers.mp hx)]
  have hhead : s.offers.head? = s.offers.find? fun _ => true := by cases s.offers <;> rfl
  have hfind : s.offers.head? = some (g, o) :=
    hhead.trans (find?_offers (p := fun _ => true) ho rfl fun x q hx hq => by simp [hfirst x hx] at hq)
  unfold State.offers at hnone hfind
  unfold State.chosen
  dsimp only
  rw [hnone, hfind]

/-! ### The order sent (R99, R184) -/

theorem orderSend_of_chosen {s : State} {g : Group} {o : Order} (hb : s.link.bus = .idle)
    (hc : s.chosen = some (g, o)) : s.orderSend = s.sendOrder g o := by
  unfold State.orderSend
  rw [if_pos hb, hc]

end Sys2Proof.Machine

/-- Settles O33: the order of preference is that of the branches of an offer, and the arbiter's choice is the first in
turn of its sort. -/
theorem arbiterServesTheNextOffer : Obligations.ArbiterServesTheNextOffer := by
  unfold Obligations.ArbiterServesTheNextOffer
  refine ⟨?_, fun s => ⟨?_, ?_⟩⟩
  · intro g s u r mayCommand mayShare mayStage noCommand
    have hcommand : ∀ c, s.cmdSendable c = true ↔ mayCommand c := fun c => cmdSendable_iff
    have hshare : s.shareSendable g = true ↔ mayShare := shareSendable_iff
    have hstage : s.stageSendable g = true ↔ mayStage := stageSendable_iff
    have hrest : s.fitted g = true → noCommand → _ := fun hf hn =>
      offer_of_no_command hf fun c hc hs => hn c hc ((hcommand c).mp hs)
    simp only [hshare, hstage] at hrest
    refine ⟨offer_of_unfitted, fun hf => ⟨fun c hc hm => ?_, fun hn hs => ?_, fun hn hs ht => ?_,
      fun hn hs ht hd hx => ?_, fun hn hs ht hd => ?_⟩⟩
    · exact offer_command hf hc ((hcommand c).mpr hm)
    · rw [hrest hf hn, if_pos hs]
    · rw [hrest hf hn, if_neg hs, if_pos ht]
    · rw [hrest hf hn, if_neg hs, if_neg ht, if_pos]
      rw [Bool.and_eq_true, Bool.not_eq_true', Bool.eq_false_iff, Ne, sent_any_iff]
      exact ⟨hd, fun ⟨c, hc, hsent⟩ => hx c hc hsent⟩
    · rw [hrest hf hn, if_neg hs, if_neg ht, if_neg]
      rw [Bool.and_eq_true, Bool.not_eq_true', Bool.eq_false_iff, Ne, sent_any_iff]
      rintro ⟨hdue, hnone⟩
      rcases hd with hd | hd
      · exact Bool.false_ne_true (hd.symm.trans hdue)
      · exact hnone hd
  · intro h
    show Host.Outcome.next s.orderSend = _
    unfold State.orderSend
    rcases h with hb | hno
    · rw [if_neg hb]
    · rw [chosen_of_no_offer hno]
      exact congrArg _ (ite_self _)
  · intro hb g o ho urgent turn earlier hturn seq checked isCommand sent
    have hurgent : ∀ p : Order, p.urgent = false ↔ ¬ urgent p := fun p => by
      rw [← Bool.not_eq_true, urgent_iff]
    have hchosen : s.chosen = some (g, o) := by
      rcases hturn with ⟨hu, hfirst⟩ | ⟨hfirst, hnone⟩
      · exact chosen_urgent ho (urgent_iff.mpr hu) fun x q hx hq => (hurgent q).mpr (hfirst x q hx hq)
      · exact chosen_first ho hfirst fun x q hq => (hurgent q).mpr (hnone x q hq)
    refine ⟨s.sendOrder g o, congrArg Host.Outcome.next (orderSend_of_chosen hb hchosen), ?_, ?_, rfl, ?_, ?_,
      fun g' e => sendOrder_unit_ne s o e⟩
    · exact (touches_sendOrder (by decide)).mpr (Touches.refl _ s)
    · cases o <;> rfl
    · rfl
    · rw [sendOrder_unit_self]
      cases o <;> rfl
end

section
/-! PROOFS. GET_ENERGY and GET_GROUP (O53; R111, R163, R182): each record's bytes are the fields named, in their
order. -/

open Sys2Proof Sys2Proof.Machine

namespace Sys2Proof.Machine

/-! ### Optional fields and slots (R111, R182) -/

theorem optBytes_eq (n : Nat) (v : Option Nat) : optBytes n v = flagByte v.isSome ++ beBytes n (v.getD 0) := by
  cases v <;> rfl

/-- A backoff deadline as an optional value (log 15). -/
theorem Deadline.bytes_eq (d : Deadline) : d.bytes = match d with
    | .absent => flagByte false ++ beBytes 4 0
    | .running => flagByte true ++ beBytes 4 1
    | .passed => flagByte true ++ beBytes 4 0 := by
  cases d <;> rfl

theorem frozenBytes_of_frozen {s : State} {g : Group} (h : s.frozen g = true) :
    s.frozenBytes g = (beBytes 4 (s.frozenCurrent g), s) := if_pos h

theorem frozenBytes_of_not_frozen {s : State} {g : Group} (h : ¬ s.frozen g = true) :
    s.frozenBytes g = s.openBytes 4 := if_neg h

/-- The frozen current is four bytes, and of the state only open values are used (log 13). -/
theorem frozenBytes_spec (s : State) (g : Group) : (s.frozenBytes g).1.length = 4
    ∧ (s.frozenBytes g).2 = s.setFree (s.frozenBytes g).2.free
    ∧ (s.frozen g = true → (s.frozenBytes g).2.free = s.free
        ∧ (s.frozenBytes g).1 = beBytes 4 (s.frozenCurrent g)) := by
  by_cases h : s.frozen g = true
  · rw [frozenBytes_of_frozen h]
    exact ⟨beBytes_length _ _, rfl, fun _ => ⟨rfl, rfl⟩⟩
  · rw [frozenBytes_of_not_frozen h]
    exact ⟨by simp [State.openBytes], rfl, fun hf => absurd hf h⟩

theorem getGroup_noSuch {s : State} {payload : List Byte} (h : ∀ g : Group, g.num ≠ field payload 0 1) :
    s.getGroup payload = (⟨.noSuch, []⟩, s) := by
  have hnone : groupOfNum? (field payload 0 1) = none :=
    Option.eq_none_iff_forall_ne_some.mpr fun g hg => h g (num_of_groupOfNum? hg)
  simp only [State.getGroup, hnone, Reply.bare]

theorem getGroup_ok {s : State} {payload : List Byte} {g : Group} (h : g.num = field payload 0 1) :
    s.getGroup payload = (⟨.ok, s.groupBody g (s.frozenBytes g).1⟩, (s.frozenBytes g).2) := by
  simp only [State.getGroup, ← h, groupOfNum?_num]

/-! ### Records as their fields -/

theorem Tariff.bytes_eq (t : Tariff) : t.bytes =
    (let points := fun table : List TariffPoint =>
        beBytes 1 table.length ++ table.flatMap fun p => beBytes 2 p.minute ++ beBytes 1 p.bucket
      let dates := fun days : List Date =>
        beBytes 1 days.length ++ days.flatMap fun d => beBytes 2 d.year ++ beBytes 1 d.month ++ beBytes 1 d.day
      points t.weekday ++ points t.weekend ++ points t.holiday ++ dates t.holidays) :=
  List.append_assoc _ _ _

/-- An optional value that is present under a condition. -/
theorem optBytes_if (n : Nat) (p : Prop) [Decidable p] (v : Nat) :
    optBytes n (if p then some v else none)
      = if p then flagByte true ++ beBytes n v else flagByte false ++ beBytes n 0 := by
  split <;> rfl

theorem commandBytes_some (c : Command) : commandBytes (some c) =
    [1#8] ++ beBytes 1 c.kind.code ++ beBytes 1 c.origin.code ++ beBytes 1 c.origin.tag ++ beBytes 1 c.state.code
      ++ (if c.kind = .stop then flagByte true ++ beBytes 1 c.sendable.toNat else flagByte false ++ beBytes 1 0)
      ++ (if c.state = .sent then flagByte true ++ beBytes 1 c.seq else flagByte false ++ beBytes 1 0)
      ++ optTimeBytes (c.firstSent.map (·.time)) := by
  show _ ++ optBytes 1 _ ++ optBytes 1 _ ++ _ = _
  rw [optBytes_if, optBytes_if]

end Sys2Proof.Machine

/-- Settles O53: each part of the two replies is the bytes of one record, laid out field by field. -/
theorem energyAndGroupAreReported : Obligations.EnergyAndGroupAreReported := by
  unfold Obligations.EnergyAndGroupAreReported
  intro f rest s reply yes opt points dates
  refine ⟨fun h => ?_, fun h => ⟨fun hno => ?_, fun g hg => ?_⟩⟩
  · intro e i l account p10 flags iFlags pFlags
    refine exec_answers (k := .getEnergy) rfl h ?_
    have htariff : s.energy.tariff.bytes = points e.tariff.weekday ++ points e.tariff.weekend ++ points e.tariff.holiday
        ++ dates e.tariff.holidays := Tariff.bytes_eq _
    have htrim : optBytes 4 s.energy.limiter.trim = opt 4 l.trim := optBytes_eq 4 _
    have haccount : Account.bytes = account := rfl
    have hiFlags : s.energy.interval.flags.bytes = iFlags := rfl
    have hpFlags : s.energy.period.flags.bytes = pFlags := rfl
    show s.taken.getEnergy = _
    simp only [State.getEnergy, State.taken_energy, State.taken_ae, htariff, htrim, hiFlags, hpFlags, haccount,
      ← List.append_assoc]
    rfl
  · exact exec_answers (k := .getGroup) rfl h (getGroup_noSuch hno)
  · intro u r c l k command reset slot capture channel
    obtain ⟨hlen, hfree, hfrozen⟩ := frozenBytes_spec s.taken g
    refine ⟨(s.taken.frozenBytes g).1, (s.taken.frozenBytes g).2.free, hfrozen, hlen, ?_⟩
    rw [← hfree]
    have hcommand : commandBytes u.command = command := by
      cases hc : u.command with
      | none => simp only [command, hc]; rfl
      | some x => simp only [command, hc]; exact commandBytes_some x
    have hreset : resetFlagBytes u.resetFlag = reset := by
      cases hc : u.resetFlag with
      | none => simp only [reset, hc]; rfl
      | some x => simp only [reset, hc]; rfl
    have hslot : ∀ n x, ValueSlot.bytes n x = slot n x := fun n x =>
      congrArg (beBytes n x.desired ++ flagByte x.rejected ++ ·) (Deadline.bytes_eq x.deadline)
    have hcapture : captureBytes u.record.capture = capture := by
      cases hc : u.record.capture with
      | none => simp only [capture, r, hc]; rfl
      | some x => simp only [capture, r, hc]; rfl
    have hdwell : optBytes 4 c.loop.dwell = opt 4 l.dwell := optBytes_eq 4 _
    have hchannels : s.groupChannels g
        = [gcChan g, tiChan g, toChan g, flChan g].flatMap fun n => channel (s.chan n) := by
      simp only [List.flatMap_cons, List.flatMap_nil, List.append_nil, ← List.append_assoc]
      rfl
    have hbody : ∀ current, s.taken.groupBody g current = s.groupBody g current := fun _ => rfl
    have hunit : s.unit g = u := rfl
    have hcool : s.coolOf g = c := rfl
    refine exec_answers (k := .getGroup) rfl h ((getGroup_ok hg).trans ?_)
    rw [hbody]
    simp only [State.groupBody, hunit, hcool, hcommand, hreset,
      hslot, hcapture, hchannels, GroupRecord.bytes, LoopRecord.bytes, hdwell, CapRecord.bytes, ← List.append_assoc]
    rfl
end

section
/-! PROOFS. A valid reply and the group record (O34; R13, R80, R85, R89, R91, R100 to R102, R108, R130): the notices of
a reply, and what of a unit stands through them. -/

open Sys2Proof Sys2Proof.Machine

namespace Sys2Proof.Machine

/-! ### What the effect of a condition posts (R102 to R104) -/

section
variable (s : State) (o : InFlight) (x : GroupReply)

theorem posts_accept : Posts [.orderDone, .orderFailed] s (s.accept o x) := by
  cases ho : o.order with
  | command k =>
    rw [accept_command ho]
    exact posts_complete (posts_setUnit (.refl _ _)) (by decide)
  | sense | setShare v | setStage v =>
    simp only [State.accept, ho]
    exact .of_touches (l := [.link]) (by simp [State.setRecord]) (by decide)

theorem posts_reject : Posts [.orderDone, .orderFailed] s (s.reject o x) := by
  cases ho : o.order with
  | command k =>
    rw [reject_command ho]
    exact posts_complete (.refl _ _) (by decide)
  | sense =>
    simp only [State.reject, ho]
    exact .refl _ _
  | setShare v | setStage v =>
    simp only [State.reject, ho]
    exact posts_post (posts_setUnit (.refl _ _)) (by decide)

theorem posts_defer : Posts [.orderDone, .orderFailed] s (s.defer o) := by
  unfold State.defer
  dsimp only
  repeat' split
  all_goals simp

theorem posts_applyCondition : Posts [.orderDone, .orderFailed] s (s.applyCondition o x) := by
  unfold State.applyCondition
  cases x.condition with
  | accepted => exact posts_accept s o x
  | rejected => exact posts_reject s o x
  | busy => exact posts_defer s o

/-! ### The reply told of, before the notices (R85) -/

/-- Once the condition has its effect nothing more is posted before the notices. -/
theorem touches_replyTold_applied :
    Touches [.link, .cool] ((s.takeRecord o.group x).applyCondition o x) (s.replyTold o x) := by
  unfold State.replyTold
  refine (touches_when fun _ => (touches_endUnload (by decide)).mpr (Touches.refl _ _)).mpr ?_
  unfold State.replyTaken
  simp

theorem touches_replyTold : Touches [.link, .pins, .events, .cool] s (s.replyTold o x) := by
  refine Touches.trans ?_ ((touches_replyTold_applied s o x).mono (by decide))
  refine Touches.mono (k := [.link, .events]) ?_ (by decide)
  rw [touches_applyCondition (by decide)]
  exact Touches.trans (t := s.recorded o.group x) ((touches_setRecord (by decide)).mpr (Touches.refl _ _))
    ((touches_takeRecord_recorded s o.group x).mono (by decide))

/-- The notices post a capacity limit at most (R139). -/
theorem posts_takeReply_applied :
    Posts [.capacityLimit] ((s.takeRecord o.group x).applyCondition o x) (s.takeReply o x) := by
  rw [takeReply_eq]
  exact posts_notice (.of_touches (touches_replyTold_applied s o x) (by decide)) (by decide)

/-- After the record has been taken, the order's outcome and a cycle are all that is posted (R106, R139). -/
theorem posts_takeReply : Posts [.orderDone, .orderFailed, .capacityLimit] (s.takeRecord o.group x) (s.takeReply o x) :=
  ((posts_applyCondition _ o x).mono (by decide)).trans ((posts_takeReply_applied s o x).mono (by decide))

theorem replyCancels_iff : s.replyCancels o x = true
    ↔ (s.unit o.group).record.state = .running ∧ x.state ≠ .running
      ∧ (s.coolOf o.group).cap.unloading = true := by
  simp [State.replyCancels, and_assoc]

/-- A cancelled unloading releases the STOP that waits on it (R97). -/
theorem replyTold_unit_self : (s.replyTold o x).unit o.group = { (s.replyTaken o x).unit o.group with
    command := ((s.replyTaken o x).unit o.group).command.map fun c => c.released (s.replyCancels o x = true) } := by
  have hcool : (s.replyTaken o x).coolOf o.group = s.coolOf o.group :=
    coolOf_congr ((touches_replyTaken s o x).cool (by decide)) _
  unfold State.replyTold State.when
  split
  · rename_i h
    obtain ⟨-, -, hu⟩ := (replyCancels_iff s o x).mp h
    rw [endUnload_unit_self, hcool]
    simp only [hu, h]
  · rename_i h
    simp [Command.released, h]

theorem replyTold_unit_ne {h : Group} (e : h ≠ o.group) : (s.replyTold o x).unit h = s.unit h := by
  rw [← replyTaken_unit_ne s o x e]
  unfold State.replyTold State.when
  split
  · exact endUnload_unit_ne _ _ e
  · rfl

theorem replyTold_cap : ((s.replyTold o x).coolOf o.group).cap
    = if s.replyCancels o x then (s.coolOf o.group).cap.ended .notRunning else (s.coolOf o.group).cap := by
  have hcool : (s.replyTaken o x).coolOf o.group = s.coolOf o.group :=
    coolOf_congr ((touches_replyTaken s o x).cool (by decide)) _
  unfold State.replyTold State.when
  split
  · rw [endUnload_coolOf_self, hcool]
  · rw [hcool]

/-- A reply changes no capacity and no join credit of itself (R85). -/
theorem replyTold_capacity (h : Group) : ((s.replyTold o x).coolOf h).cap.capacity = (s.coolOf h).cap.capacity
    ∧ ((s.replyTold o x).coolOf h).cap.credit = (s.coolOf h).cap.credit := by
  by_cases e : h = o.group
  · subst e
    rw [replyTold_cap]
    split <;> simp
  · have hcool : (s.replyTaken o x).coolOf h = s.coolOf h :=
      coolOf_congr ((touches_replyTaken s o x).cool (by decide)) _
    unfold State.replyTold State.when
    split
    · rw [endUnload_coolOf_ne _ _ e, hcool]
      exact ⟨rfl, rfl⟩
    · rw [hcool]
      exact ⟨rfl, rfl⟩

/-! ### After the notices -/

theorem takeReply_told : s.CarriageTold (s.takeReply o x) (s.replyCancels o x) := by
  rw [takeReply_eq]
  exact notice_told (touches_replyTold s o x) (replyTold_capacity s o x)

/-- The notices write share slots only (R139). -/
theorem takeReply_unit_self : ∃ share, (s.takeReply o x).unit o.group = { (s.replyTaken o x).unit o.group with
    command := ((s.replyTaken o x).unit o.group).command.map fun c => c.released (s.replyCancels o x = true),
    share := share } := by
  obtain ⟨share, h⟩ := notice_unit (s.replyTold o x) s.carriage (s.replyCancels o x) o.group
  refine ⟨share, ?_⟩
  rw [takeReply_eq, h, replyTold_unit_self]

theorem takeReply_unit_ne {h : Group} (e : h ≠ o.group) : ∃ share, (s.takeReply o x).unit h
    = { s.unit h with share := share } := by
  obtain ⟨share, hshare⟩ := notice_unit (s.replyTold o x) s.carriage (s.replyCancels o x) h
  refine ⟨share, ?_⟩
  rw [takeReply_eq, hshare, replyTold_unit_ne s o x e]

/-- Whether the group unloads after the reply, and the last end (R85). -/
theorem takeReply_cap : ((s.takeReply o x).coolOf o.group).cap.unloading
        = ((s.coolOf o.group).cap.unloading && !s.replyCancels o x)
      ∧ (s.replyCancels o x = true → ((s.takeReply o x).coolOf o.group).cap.lastEnd = .notRunning) := by
  have h := notice_cap_rest (s.replyTold o x) s.carriage (s.replyCancels o x) o.group
  rw [← takeReply_eq, replyTold_cap, Prod.mk.injEq] at h
  obtain ⟨hunloading, hend⟩ := h
  rw [hunloading, hend]
  cases hc : s.replyCancels o x with
  | false => simp
  | true =>
    obtain ⟨-, -, hu⟩ := (replyCancels_iff s o x).mp hc
    simp [CapRecord.ended, hu]

theorem takeReply_bus : (s.takeReply o x).link.bus = .idle := by
  have hnotice : (s.takeReply o x).link.bus = (s.replyTold o x).link.bus := by
    rw [takeReply_eq]
    exact (FlightStands.notice _ _ _).bus
  have hended : (s.replyTold o x).link.bus = (s.replyTaken o x).link.bus :=
    (FlightStands.when (FlightStands.endUnload _ _ _)).bus
  rw [hnotice, hended, replyTaken_bus]

/-- The record that a valid reply leaves (R89, R100 to R102). -/
theorem takeReply_record : ((s.takeReply o x).unit o.group).record =
    let r := (s.unit o.group).record.take x
    let taken := if x.condition = .accepted then r.acknowledged o x s.energy.time else r
    { taken with ackShare := if x.state.holdsNoShare then 0 else taken.ackShare, senseDue := false } := by
  obtain ⟨share, h⟩ := takeReply_unit_self s o x
  have htime : (s.takeRecord o.group x).energy = s.energy :=
    (touches_takeRecord_recorded s o.group x).energy (by decide)
  rw [h, replyTaken_unit_self]
  dsimp only
  rw [answeredUnit_record, takeRecord_unit_self, htime]

end

theorem holdsNoShare_iff {st : GroupState} :
    st.holdsNoShare = true ↔ st = .stopped ∨ st = .stopping ∨ st = .tripped := by
  cases st <;> simp [GroupState.holdsNoShare]

theorem exec_groupReply_of_answers {s : State} {o : InFlight} {condition status state : Byte} {st : GroupState}
    {current : Nat} {capture : List Byte} (hb : s.link.bus = .awaiting o)
    (h : o.Answers condition state st current capture) :
    exec (.groupReply (o.reply condition status state current capture)) s
      = .next (s.takeReply o (.given condition status st current capture)) :=
  congrArg Host.Outcome.next (groupReply_of_valid hb (readReply_reply h))

/-- The record that a reply's bytes leave, field by field (R89, R100 to R102). -/
theorem recordTaken_eq (r : GroupRecord) (o : InFlight) (condition status : Byte) (st : GroupState) (current : Nat)
    (capture : List Byte) (now : Time) :
    (let x := GroupReply.given condition status st current capture
     let taken := if x.condition = .accepted then (r.take x).acknowledged o x now else r.take x
     { taken with ackShare := if x.state.holdsNoShare then 0 else taken.ackShare, senseDue := false }) =
    { state := st, reachable := true, isLocal := status.getLsbD 3, current := current, trip := r.trip,
      ackShare :=
        if st = .stopped ∨ st = .stopping ∨ st = .tripped then 0
        else match o.order with
          | .setShare v => if condition = 0#8 then v else r.ackShare
          | .command .start => if condition = 0#8 then 0 else r.ackShare
          | .command _ | .sense | .setStage _ => r.ackShare,
      ackStage := match o.order with
        | .setStage v => if condition = 0#8 then v else r.ackStage
        | .command _ | .sense | .setShare _ => r.ackStage,
      senseDue := false, seq := r.seq,
      capture :=
        if o.order = .command .capture ∧ condition = 0#8 then
          some { angle := field capture 0 2, tap := field capture 2 1, voltage := field capture 3 4,
                 alarms := field capture 7 2, time := now, seq := o.seq }
        else r.capture } := by
  obtain ⟨g, order, seq⟩ := o
  have haccepted : (GroupReply.given condition status st current capture).condition = .accepted ↔ condition = 0#8 :=
    Condition.ofByte_accepted
  have hstate : (GroupReply.given condition status st current capture).state = st := rfl
  dsimp only
  simp only [haccepted, hstate, holdsNoShare_iff]
  by_cases hc : condition = 0#8
  · simp only [hc, if_true, and_true]
    cases order with
    | sense | setShare v | setStage v => rfl
    | command k => cases k <;> rfl
  · simp only [hc, if_false, and_false]
    cases order with
    | sense | setShare v | setStage v => rfl
    | command k => cases k <;> rfl

end Sys2Proof.Machine

/-- Settles O34: a valid reply is its record, the effect of its condition and the notices, and each part is said by the
lemma about it. -/
theorem validReplyUpdatesTheGroupRecord : Obligations.ValidReplyUpdatesTheGroupRecord := by
  unfold Obligations.ValidReplyUpdatesTheGroupRecord
  intro s o condition status state st current capture hb h g r accepted isLocal
  have hposts := posts_takeReply s o (.given condition status st current capture)
  obtain ⟨hstate, htrip, hlocal, hreach⟩ := takeRecord_tells s g (.given condition status st current capture)
  obtain ⟨share, hunit⟩ := takeReply_unit_self s o (.given condition status st current capture)
  obtain ⟨hunloading, hend⟩ := takeReply_cap s o (.given condition status st current capture)
  have hcancels := replyCancels_iff s o (.given condition status st current capture)
  refine ⟨_, exec_groupReply_of_answers hb h, (touches_takeReply (by decide)).mpr (Touches.refl _ _),
    takeReply_bus _ _ _, ?_, ?_, fun hx => hposts.tells (by decide) (hstate hx),
    fun hx hr => hposts.tells (by decide) (htrip hx hr), fun hx => hposts.tells (by decide) (hlocal hx),
    fun hr => hposts.tells (by decide) (hreach hr), fun hr hx hu => ?_, ?_, fun g' hg => ?_⟩
  · rw [hunit, replyTaken_unit_self]
  · rw [takeReply_record]
    exact recordTaken_eq r o condition status st current capture s.energy.time
  · have hc := hcancels.mpr ⟨hr, hx, hu⟩
    rw [hunloading, hend hc, hc]
    simp
  · have hcause : decide (r.state = .running ∧ st ≠ .running ∧ (s.coolOf g).cap.unloading = true)
        = s.replyCancels o (.given condition status st current capture) := by
      rw [Bool.eq_iff_iff, decide_eq_true_iff, hcancels]
      rfl
    rw [hcause]
    exact takeReply_told s o _
  · obtain ⟨share, hother⟩ := takeReply_unit_ne s o (.given condition status st current capture) hg
    rw [hother]
    exact ⟨rfl, rfl⟩
end

section
/-! PROOFS. A valid reply and the item it answers (O35; R98, R102 to R104, R106, R107): completions, the backoff of a
command, and the two value slots. -/

open Sys2Proof Sys2Proof.Machine

namespace Sys2Proof.Machine

/-- The status bits of a reply as a field of one byte (R184, R186). -/
theorem given_status_byte (condition status : Byte) (st : GroupState) (current : Nat) (capture : List Byte) :
    beBytes 1 (GroupReply.given condition status st current capture).status = [status] := by
  simp [beBytes_one, GroupReply.given]

/-! ### A completion resolves what waits, and an unloading cancelled releases it (R97, R98, R106) -/

/-- A cooling STOP that enters while the group unloads and is released at once is one that enters while it does not. -/
theorem resolved_released (u : GroupUnit) (unloading cancels : Bool) (h : cancels = true → unloading = true) :
    (u.resolved unloading).command.map (fun c => c.released (cancels = true))
        = (u.resolved (unloading && !cancels)).command
      ∧ (u.resolved unloading).resetFlag = (u.resolved (unloading && !cancels)).resetFlag
      ∧ (u.resolved unloading).coolPending = (u.resolved (unloading && !cancels)).coolPending := by
  unfold GroupUnit.resolved
  dsimp only
  cases hf : u.resetFlag with
  | some o => exact ⟨by simp [Command.released], rfl, rfl⟩
  | none =>
    refine ⟨?_, rfl, rfl⟩
    cases cancels with
    | false => simp [Command.released]
    | true =>
      rw [h rfl]
      dsimp only
      split <;> rfl

/-- The release of a STOP makes it sendable and nothing else (R97). -/
theorem released_stands (c : Command) (ended : Prop) [Decidable ended] : (c.released ended).state = c.state
    ∧ (c.released ended).kind = c.kind ∧ (c.released ended).origin = c.origin ∧ (c.released ended).seq = c.seq
    ∧ (c.released ended).firstSent = c.firstSent := by
  unfold Command.released
  split <;> exact ⟨rfl, rfl, rfl, rfl, rfl⟩

section
variable {s : State} {o : InFlight} {x : GroupReply}

/-- The slots after a reply: those the condition leaves, a STOP released by the cancelling (R97). -/
theorem takeReply_slots (s : State) (o : InFlight) (x : GroupReply) :
    let v := ((s.takeRecord o.group x).applyCondition o x).unit o.group
    ((s.takeReply o x).unit o.group).command = v.command.map (fun c => c.released (s.replyCancels o x = true))
      ∧ ((s.takeReply o x).unit o.group).resetFlag = v.resetFlag
      ∧ ((s.takeReply o x).unit o.group).coolPending = v.coolPending := by
  obtain ⟨share, h⟩ := takeReply_unit_self s o x
  rw [h, replyTaken_unit_self, applyCondition_unit_self]
  exact ⟨rfl, rfl, rfl⟩

/-- A condition that completes the command settles the slots with the state carried, and is told (R98, R106). -/
theorem takeReply_of_completion {v : State} {c : Command} {outcome : Completion} {n : Nat}
    (happlied : (s.takeRecord o.group x).applyCondition o x = v.complete o.group outcome n)
    (hcool : v.coolOf o.group = s.coolOf o.group)
    (hstate : (v.unit o.group).record.state = x.state)
    (hslots : v.unit o.group = { s.unit o.group with record := (v.unit o.group).record })
    (hc : (s.unit o.group).command = some c) :
    (s.unit o.group).Settled ((s.takeReply o x).unit o.group) x.state
        ((s.takeReply o x).coolOf o.group).cap.unloading
      ∧ (¬ (outcome = .done ∧ c.origin = .cooling) →
        (s.takeReply o x).Tells (if outcome = .done then .orderDone else .orderFailed) o.group.num
          [beBytes 1 c.origin.code, beBytes 1 c.origin.tag, beBytes 1 c.kind.orderCode, beBytes 1 c.seq,
           beBytes 1 outcome.code, beBytes 1 n]) := by
  have hvc : (v.unit o.group).command = some c := by rw [hslots]; exact hc
  have hunit : ((s.takeRecord o.group x).applyCondition o x).unit o.group
      = (v.unit o.group).resolved (s.coolOf o.group).cap.unloading := by
    rw [happlied, unit_congr (complete_link v o.group outcome n), unit_setUnit_self, completed_of_some hvc, hcool]
  have hcancels : s.replyCancels o x = true → (s.coolOf o.group).cap.unloading = true := fun h =>
    ((replyCancels_iff s o x).mp h).2.2
  obtain ⟨hcommand, hflag, hmark⟩ := takeReply_slots s o x
  obtain ⟨hreleased, hflag', hmark'⟩ := resolved_released (v.unit o.group) (s.coolOf o.group).cap.unloading
    (s.replyCancels o x) hcancels
  obtain ⟨hcong, hfcong, hmcong⟩ := resolved_slots_congr
    (u := { s.unit o.group with record := { (s.unit o.group).record with state := x.state } })
    (v := v.unit o.group) hstate (by rw [hslots]) (by rw [hslots])
    ((s.coolOf o.group).cap.unloading && !s.replyCancels o x)
  refine ⟨?_, fun hne => ?_⟩
  · rw [(takeReply_cap s o x).1]
    exact ⟨by rw [hcommand, hunit, hreleased, hcong], by rw [hflag, hunit, hflag', hfcong],
      by rw [hmark, hunit, hmark', hmcong]⟩
  · refine (posts_takeReply_applied s o x).tells (by split <;> decide) ?_
    rw [happlied]
    exact complete_tells hvc hne

/-! ### The record taken, as the conditions find it -/

theorem takeRecord_coolOf (s : State) (g : Group) (x : GroupReply) : (s.takeRecord g x).coolOf g = s.coolOf g :=
  coolOf_congr ((touches_takeRecord_recorded s g x).cool (by decide)) g

theorem takeRecord_ticks (s : State) (g : Group) (x : GroupReply) : (s.takeRecord g x).ticks = s.ticks :=
  (touches_takeRecord_recorded s g x).ticks (by decide)

theorem takeRecord_sup (s : State) (g : Group) (x : GroupReply) : (s.takeRecord g x).sup = s.sup :=
  (touches_takeRecord_recorded s g x).sup (by decide)

theorem takeRecord_command (s : State) (g : Group) (x : GroupReply) :
    ((s.takeRecord g x).unit g).command = (s.unit g).command := by rw [takeRecord_unit_self]

theorem takeRecord_slots (s : State) (g : Group) (x : GroupReply) :
    (s.takeRecord g x).unit g = { s.unit g with record := ((s.takeRecord g x).unit g).record } := by
  rw [takeRecord_unit_self]

theorem takeRecord_state (s : State) (g : Group) (x : GroupReply) :
    ((s.takeRecord g x).unit g).record.state = x.state := by
  rw [takeRecord_unit_self]
  rfl

theorem acknowledged_stands (r : GroupRecord) (o : InFlight) (x : GroupReply) (now : Time) :
    (r.acknowledged o x now).state = r.state ∧ (r.acknowledged o x now).reachable = r.reachable
      ∧ (r.acknowledged o x now).isLocal = r.isLocal ∧ (r.acknowledged o x now).trip = r.trip := by
  obtain ⟨g, order, seq⟩ := o
  cases order with
  | sense | setShare v | setStage v => exact ⟨rfl, rfl, rfl, rfl⟩
  | command k => cases k <;> exact ⟨rfl, rfl, rfl, rfl⟩

/-! ### ACCEPTED, REJECTED and BUSY for a command (R102 to R104, R107) -/

section
variable {c : Command} {k : CmdKind}

theorem takeReply_accepted (ho : o.order = .command k) (hx : x.condition = .accepted)
    (hc : (s.unit o.group).command = some c) :
    (s.unit o.group).Settled ((s.takeReply o x).unit o.group) x.state ((s.takeReply o x).coolOf o.group).cap.unloading
      ∧ (c.origin ≠ .cooling → (s.takeReply o x).Tells .orderDone o.group.num
          [beBytes 1 c.origin.code, beBytes 1 c.origin.tag, beBytes 1 c.kind.orderCode, beBytes 1 c.seq, [0#8],
           [0#8]]) := by
  have happlied : (s.takeRecord o.group x).applyCondition o x
      = ((s.takeRecord o.group x).acknowledged o x).complete o.group .done 0 := by
    rw [← accept_command ho]
    unfold State.applyCondition
    rw [hx]
  have hunit := acknowledged_unit_self (s.takeRecord o.group x) o x
  obtain ⟨hsettled, htells⟩ := takeReply_of_completion happlied (takeRecord_coolOf s o.group x)
    (by rw [hunit, (acknowledged_stands _ _ _ _).1]; exact takeRecord_state s o.group x)
    (by rw [hunit, takeRecord_unit_self]) hc
  exact ⟨hsettled, fun hne => htells fun h => hne h.2⟩

theorem takeReply_rejected (ho : o.order = .command k) (hx : x.condition = .rejected)
    (hc : (s.unit o.group).command = some c) :
    (s.unit o.group).Settled ((s.takeReply o x).unit o.group) x.state ((s.takeReply o x).coolOf o.group).cap.unloading
      ∧ (s.takeReply o x).Tells .orderFailed o.group.num
          [beBytes 1 c.origin.code, beBytes 1 c.origin.tag, beBytes 1 c.kind.orderCode, beBytes 1 c.seq, [1#8],
           beBytes 1 x.status] := by
  have happlied : (s.takeRecord o.group x).applyCondition o x
      = (s.takeRecord o.group x).complete o.group .rejected x.status := by
    rw [← reject_command ho]
    unfold State.applyCondition
    rw [hx]
  obtain ⟨hsettled, htells⟩ := takeReply_of_completion happlied (takeRecord_coolOf s o.group x)
    (takeRecord_state s o.group x) (takeRecord_slots s o.group x) hc
  exact ⟨hsettled, htells nofun⟩

/-- A BUSY reply is deferred as the state before the reply says (R104, R107). -/
theorem applyCondition_busy (hx : x.condition = .busy) :
    (s.takeRecord o.group x).applyCondition o x = (s.takeRecord o.group x).defer o := by
  unfold State.applyCondition
  rw [hx]

theorem busyTooLong_iff {s : State} {c : Command} :
    s.busyTooLong c = true ↔ ∃ first, c.firstSent = some first ∧ first.tick + 20 ≤ s.ticks := by
  unfold State.busyTooLong
  cases hf : c.firstSent <;> simp

theorem takeRecord_busyTooLong (s : State) (g : Group) (x : GroupReply) (c : Command) :
    (s.takeRecord g x).busyTooLong c = s.busyTooLong c := by
  unfold State.busyTooLong
  rw [takeRecord_ticks]

theorem takeReply_late (ho : o.order = .command k) (hx : x.condition = .busy)
    (hc : (s.unit o.group).command = some c) (hl : s.busyTooLong c = true) :
    (s.unit o.group).Settled ((s.takeReply o x).unit o.group) x.state ((s.takeReply o x).coolOf o.group).cap.unloading
      ∧ (s.takeReply o x).Tells .orderFailed o.group.num
          [beBytes 1 c.origin.code, beBytes 1 c.origin.tag, beBytes 1 c.kind.orderCode, beBytes 1 c.seq, [2#8],
           [0#8]] := by
  have happlied := (applyCondition_busy (s := s) (o := o) hx).trans
    (defer_late ho ((takeRecord_command s o.group x).trans hc) ((takeRecord_busyTooLong s o.group x c).trans hl))
  obtain ⟨hsettled, htells⟩ := takeReply_of_completion happlied (takeRecord_coolOf s o.group x)
    (takeRecord_state s o.group x) (takeRecord_slots s o.group x) hc
  exact ⟨hsettled, htells nofun⟩

theorem takeReply_withdrawn (ho : o.order = .command k) (hx : x.condition = .busy)
    (hc : (s.unit o.group).command = some c) (hl : ¬ s.busyTooLong c = true)
    (hs : k = .start ∧ s.sup.state = .safe) :
    (s.unit o.group).Settled ((s.takeReply o x).unit o.group) x.state ((s.takeReply o x).coolOf o.group).cap.unloading
      ∧ (s.takeReply o x).Tells .orderFailed o.group.num
          [beBytes 1 c.origin.code, beBytes 1 c.origin.tag, beBytes 1 c.kind.orderCode, beBytes 1 c.seq, [5#8],
           [0#8]] := by
  have happlied := (applyCondition_busy (s := s) (o := o) hx).trans
    (defer_withdrawn ho ((takeRecord_command s o.group x).trans hc)
      (by rwa [takeRecord_busyTooLong]) (by rwa [takeRecord_sup]))
  obtain ⟨hsettled, htells⟩ := takeReply_of_completion happlied (takeRecord_coolOf s o.group x)
    (takeRecord_state s o.group x) (takeRecord_slots s o.group x) hc
  exact ⟨hsettled, htells nofun⟩

/-- Otherwise the command goes into backoff, and nothing behind it is resolved (R104). -/
theorem takeReply_backoff (ho : o.order = .command k) (hx : x.condition = .busy)
    (hc : (s.unit o.group).command = some c) (hl : ¬ s.busyTooLong c = true)
    (hs : ¬ (k = .start ∧ s.sup.state = .safe)) :
    ∃ y, ((s.takeReply o x).unit o.group).command = some y ∧ y.state = .backoff false ∧ y.kind = c.kind
      ∧ y.origin = c.origin ∧ y.seq = c.seq ∧ y.firstSent = c.firstSent
      ∧ ((s.takeReply o x).unit o.group).resetFlag = (s.unit o.group).resetFlag
      ∧ ((s.takeReply o x).unit o.group).coolPending = (s.unit o.group).coolPending := by
  have happlied := (applyCondition_busy (s := s) (o := o) hx).trans
    (defer_backoff ho ((takeRecord_command s o.group x).trans hc)
      (by rw [State.BusyCompletes, takeRecord_busyTooLong, takeRecord_sup]; exact not_or.mpr ⟨hl, hs⟩))
  obtain ⟨hcommand, hflag, hmark⟩ := takeReply_slots s o x
  rw [happlied, unit_setUnit_self, takeRecord_unit_self] at hcommand hflag hmark
  obtain ⟨hstate, hkind, horigin, hseq, hfirst⟩ :=
    released_stands { c with state := .backoff false } (s.replyCancels o x = true)
  exact ⟨_, hcommand, hstate, hkind, horigin, hseq, hfirst, hflag, hmark⟩

end

/-! ### A reply that leaves the group as it was (R103, R104) -/

theorem carriage_congr {t : State} (hset : t.settings = s.settings)
    (h : ∀ g, (t.unit g).record.state = (s.unit g).record.state
      ∧ (t.unit g).record.reachable = (s.unit g).record.reachable
      ∧ (t.unit g).record.isLocal = (s.unit g).record.isLocal ∧ (t.unit g).record.trip = (s.unit g).record.trip) :
    t.carriage = s.carriage := by
  have ha : t.allocatable = s.allocatable := funext fun g => by
    obtain ⟨hs, hr, hl, ht⟩ := h g
    simp only [State.allocatable, fitted_congr hset, hs, hr, hl, ht]
  have hf : t.frozen = s.frozen := funext fun g => by
    obtain ⟨hs, hr, hl, ht⟩ := h g
    simp only [State.frozen, fitted_congr hset, hs, hr, hl, ht]
  unfold State.carriage
  rw [ha, hf]

/-- A reply with the state, the LOCAL bit and the reachability that the record already has brings no notice (R91). -/
theorem takeReply_of_unmoved (hstate : (s.unit o.group).record.state = x.state)
    (hlocal : (s.unit o.group).record.isLocal = x.isLocal) (hreach : (s.unit o.group).record.reachable = true) :
    s.takeReply o x = s.replyTaken o x := by
  have hcancels : s.replyCancels o x = false := by
    rw [Bool.eq_false_iff, Ne, replyCancels_iff]
    rintro ⟨hr, hx, -⟩
    exact hx (hstate ▸ hr)
  have hsame : (s.replyTaken o x).carriage = s.carriage := by
    refine carriage_congr ((touches_replyTaken s o x).settings (by decide)) fun g => ?_
    by_cases e : g = o.group
    · subst e
      rw [replyTaken_unit_self]
      dsimp only
      rw [answeredUnit_record, takeRecord_unit_self]
      obtain ⟨hs, hr, hl, ht⟩ := acknowledged_stands ((s.unit o.group).record.take x) o x
        (s.takeRecord o.group x).energy.time
      split
      · rw [hs, hr, hl, ht]
        exact ⟨hstate.symm, hreach.symm, hlocal.symm, rfl⟩
      · exact ⟨hstate.symm, hreach.symm, hlocal.symm, rfl⟩
    · rw [replyTaken_unit_ne s o x e]
      exact ⟨rfl, rfl, rfl, rfl⟩
  have htold : s.replyTold o x = s.replyTaken o x := by
    unfold State.replyTold State.when
    rw [hcancels]
    rfl
  rw [takeReply_eq, htold, hcancels, notice_of_same hsame]

/-- Then the value slots and the command are as the condition leaves them. -/
theorem takeReply_unit_of_unmoved {share stage : ValueSlot} (hstate : (s.unit o.group).record.state = x.state)
    (hlocal : (s.unit o.group).record.isLocal = x.isLocal) (hreach : (s.unit o.group).record.reachable = true)
    (hv : (s.takeRecord o.group x).answeredUnit o x
      = { (s.takeRecord o.group x).unit o.group with share := share, stage := stage }) :
    ((s.takeReply o x).unit o.group).share = share ∧ ((s.takeReply o x).unit o.group).stage = stage
      ∧ ((s.takeReply o x).unit o.group).command = (s.unit o.group).command := by
  rw [takeReply_of_unmoved hstate hlocal hreach, replyTaken_unit_self, hv]
  exact ⟨rfl, rfl, takeRecord_command s o.group x⟩

/-- A share or stage rejected or deferred changes its own slot (R103, R104). -/
theorem answeredUnit_of_share {v : Nat} (ho : o.order = .setShare v) :
    let r := s.takeRecord o.group x
    let u := s.unit o.group
    (x.condition = .rejected →
        r.answeredUnit o x = { r.unit o.group with share := u.share.reject v, stage := u.stage })
      ∧ (x.condition = .busy →
        r.answeredUnit o x = { r.unit o.group with share := { u.share with deadline := .running }, stage := u.stage }) :=
  ⟨fun hx => by simp only [State.answeredUnit, ho, hx, takeRecord_unit_self],
    fun hx => by simp only [State.answeredUnit, ho, hx, takeRecord_unit_self]⟩

theorem answeredUnit_of_stage {v : Nat} (ho : o.order = .setStage v) :
    let r := s.takeRecord o.group x
    let u := s.unit o.group
    (x.condition = .rejected →
        r.answeredUnit o x = { r.unit o.group with share := u.share, stage := u.stage.reject v })
      ∧ (x.condition = .busy →
        r.answeredUnit o x = { r.unit o.group with share := u.share, stage := { u.stage with deadline := .running } }) :=
  ⟨fun hx => by simp only [State.answeredUnit, ho, hx, takeRecord_unit_self],
    fun hx => by simp only [State.answeredUnit, ho, hx, takeRecord_unit_self]⟩

/-- The mark of a slot whose value has been rejected (R103). -/
theorem reject_eq_mark (slot : ValueSlot) (v : Nat) :
    slot.reject v = { slot with rejected := slot.rejected || decide (slot.desired = v) } := by
  unfold ValueSlot.reject
  split
  · simp [*]
  · simp [*]

/-- A share or stage rejected is told, whether or not its mark is set (R103). -/
theorem takeReply_tells_rejected (hx : x.condition = .rejected) {v : Nat} :
    (o.order = .setShare v → (s.takeReply o x).Tells .orderFailed o.group.num
        [beBytes 1 2, beBytes 1 o.seq, beBytes 1 x.status, beBytes 4 v])
      ∧ (o.order = .setStage v → (s.takeReply o x).Tells .orderFailed o.group.num
        [beBytes 1 3, beBytes 1 o.seq, beBytes 1 x.status, beBytes 4 v]) := by
  refine ⟨fun ho => ?_, fun ho => ?_⟩
  all_goals
    refine (posts_takeReply_applied s o x).tells (by decide) ?_
    simp only [State.applyCondition, hx, State.reject, ho]
    exact tells_post_self

end

end Sys2Proof.Machine

/-- Settles O35: each condition is a completion, a backoff or the change of one value slot. -/
theorem replySettlesTheItemSent : Obligations.ReplySettlesTheItemSent := by
  unfold Obligations.ReplySettlesTheItemSent
  refine ⟨fun s o status state st current capture x hb ho hc _ => ?_,
    fun s o status state st current v hb hstate hlocal hreach => ?_⟩
  · intro g completed value reply
    refine ⟨fun h => ⟨_, exec_groupReply_of_answers hb h, takeReply_accepted ho rfl hc⟩, fun h => ?_,
      fun h => ?_⟩
    · obtain ⟨hsettled, htells⟩ := takeReply_rejected (x := .given 1#8 status st current capture) ho rfl hc
      rw [given_status_byte] at htells
      exact ⟨_, exec_groupReply_of_answers hb h, hsettled, htells⟩
    · intro late withdrawn
      have hbusy : (GroupReply.given 2#8 status st current capture).condition = .busy := rfl
      exact ⟨_, exec_groupReply_of_answers hb h,
        fun hl => takeReply_late ho hbusy hc (busyTooLong_iff.mpr hl),
        fun hl hw => takeReply_withdrawn ho hbusy hc (hl ∘ busyTooLong_iff.mp) hw,
        fun hl hw => takeReply_backoff ho hbusy hc (hl ∘ busyTooLong_iff.mp) hw⟩
  · intro g u reply mark
    have hrejected : (GroupReply.given 1#8 status st current []).condition = .rejected := rfl
    have hbusy : (GroupReply.given 2#8 status st current []).condition = .busy := rfl
    have htells := takeReply_tells_rejected (s := s) (o := o) (v := v) hrejected
    rw [given_status_byte] at htells
    refine ⟨fun ho => ⟨fun h => ?_, fun h => ?_⟩, fun ho => ⟨fun h => ?_, fun h => ?_⟩⟩
    · obtain ⟨hshare, hstage, hcommand⟩ := takeReply_unit_of_unmoved (x := .given 1#8 status st current [])
        hstate hlocal hreach ((answeredUnit_of_share ho).1 hrejected)
      exact ⟨_, exec_groupReply_of_answers hb h, hshare.trans (reject_eq_mark _ _), hstage, hcommand, htells.1 ho⟩
    · obtain ⟨hshare, hstage, hcommand⟩ := takeReply_unit_of_unmoved (x := .given 2#8 status st current [])
        hstate hlocal hreach ((answeredUnit_of_share ho).2 hbusy)
      exact ⟨_, exec_groupReply_of_answers hb h, hshare, hstage, hcommand⟩
    · obtain ⟨hshare, hstage, hcommand⟩ := takeReply_unit_of_unmoved (x := .given 1#8 status st current [])
        hstate hlocal hreach ((answeredUnit_of_stage ho).1 hrejected)
      exact ⟨_, exec_groupReply_of_answers hb h, hstage.trans (reject_eq_mark _ _), hshare, hcommand, htells.2 ho⟩
    · obtain ⟨hshare, hstage, hcommand⟩ := takeReply_unit_of_unmoved (x := .given 2#8 status st current [])
        hstate hlocal hreach ((answeredUnit_of_stage ho).2 hbusy)
      exact ⟨_, exec_groupReply_of_answers hb h, hstage, hshare, hcommand⟩
end

section
/-! PROOFS. The end of a reply window and frames that are no valid reply (O36; R13, R80, R91, R98, R100, R101, R105,
R106, R130, R184). -/

open Sys2Proof Sys2Proof.Machine

namespace Sys2Proof.Machine

/-! ### What a valid reply is (R101, R184) -/

theorem Condition.ofCode?_some {n : Nat} {c : Condition} (h : Condition.ofCode? n = some c) :
    n ≤ 2 ∧ (c = .accepted ↔ n = 0) := by
  unfold Condition.ofCode? at h
  split at h
  all_goals cases h
  all_goals decide

theorem GroupState.ofCode?_some {n : Nat} {st : GroupState} (h : GroupState.ofCode? n = some st) :
    n ≠ 0 ∧ n ≤ 5 := by
  unfold GroupState.ofCode? at h
  split at h
  all_goals cases h
  all_goals decide

/-- Each field of a frame that is read as a valid reply (R101, R184). -/
theorem readReply_some {o : InFlight} {bytes : List Byte} {x : GroupReply} (h : readReply o bytes = some x) :
    bytes.getD 0 0#8 = 0x96#8 ∧ field bytes 1 1 = o.group.num + 0x80 ∧ field bytes 2 1 = o.order.code
      ∧ field bytes 3 1 = o.seq ∧ field bytes 4 1 ≤ 2 ∧ field bytes 6 1 ≠ 0 ∧ field bytes 6 1 ≤ 5
      ∧ bytes.length = (if o.order = .command .capture ∧ field bytes 4 1 = 0 then 22 else 13)
      ∧ crcGood (bytes.drop 1) = true := by
  unfold readReply at h
  split at h
  · rename_i c st hc hst
    split at h
    · rename_i hall
      obtain ⟨hsync, haddress, hkind, hseq, hlength, hgood⟩ := hall
      obtain ⟨hcondition, haccepted⟩ := Condition.ofCode?_some hc
      obtain ⟨hzero, hfive⟩ := GroupState.ofCode?_some hst
      unfold replyLength at hlength
      simp only [haccepted] at hlength
      exact ⟨hsync, haddress, hkind, hseq, hcondition, hzero, hfive, hlength, hgood⟩
    · cases h
  · cases h

/-! ### A group made unreachable, and what waits behind its command (R98, R105) -/

section
variable {s : State} {o : InFlight}

theorem lostCompleted_record (s : State) (o : InFlight) :
    ((s.lostCompleted o).unit o.group).record = { (s.unit o.group).record with reachable := false } := by
  by_cases ho : ∃ k, o.order = .command k
  · obtain ⟨k, ho⟩ := ho
    rw [lostCompleted_unit_command s o ho, completed_record]
    rfl
  · rw [lostCompleted_of_other s o fun k hk => ho ⟨k, hk⟩, unanswered_unit_self]
    rfl

/-- The loss is told of, unless the group was unreachable already (R105). -/
theorem unanswered_tells (h : (s.unit o.group).record.reachable = true) :
    (s.unanswered o).Tells .groupUnreachable o.group.num [[0#8]] := by
  unfold State.unanswered
  rw [h]
  exact tells_post_self

theorem posts_lostCompleted (s : State) (o : InFlight) :
    Posts [.orderDone, .orderFailed] (s.unanswered o) (s.lostCompleted o) := by
  unfold State.lostCompleted
  split
  · exact posts_complete (.refl _ _) (by decide)
  all_goals exact .refl _ _

/-- After the loss is told a capacity limit is all that may be posted (R139). -/
theorem posts_windowExpiry (hb : s.link.bus = .awaiting o) :
    Posts [.capacityLimit] (s.lostCompleted o) s.windowExpiry := by
  rw [windowExpiry_of_awaiting hb]
  have houtcome : Touches [.link] (s.lostCompleted o) ((s.lostCompleted o).outcomeTaken o.group) :=
    (touches_outcomeTaken (by decide)).mpr (Touches.refl _ _)
  exact posts_notice (.of_touches houtcome (by decide)) (by decide)

/-- The order's outcome taken, before the notices (R100, R105). -/
def State.windowTold (s : State) (o : InFlight) : State := (s.lostCompleted o).outcomeTaken o.group

theorem touches_windowTold (s : State) (o : InFlight) : Touches [.link, .events] s (s.windowTold o) :=
  (touches_outcomeTaken (by decide)).mpr (touches_lostCompleted s o)

theorem windowTold_coolOf (s : State) (o : InFlight) (g : Group) : (s.windowTold o).coolOf g = s.coolOf g :=
  coolOf_congr ((touches_windowTold s o).cool (by decide)) g

theorem windowExpiry_unit_self (hb : s.link.bus = .awaiting o) : ∃ share, s.windowExpiry.unit o.group
    = { (s.lostCompleted o).unit o.group with
        record := { ((s.lostCompleted o).unit o.group).record with senseDue := false }, senseTimer := true,
        share := share } := by
  obtain ⟨share, h⟩ := notice_unit (s.windowTold o) s.carriage false o.group
  refine ⟨share, ?_⟩
  rw [windowExpiry_of_awaiting hb]
  refine h.trans ?_
  rw [State.windowTold, outcomeTaken_unit_self]

theorem windowExpiry_unit_ne (hb : s.link.bus = .awaiting o) {h : Group} (e : h ≠ o.group) :
    ∃ share, s.windowExpiry.unit h = { s.unit h with share := share } := by
  obtain ⟨share, hshare⟩ := notice_unit (s.windowTold o) s.carriage false h
  refine ⟨share, ?_⟩
  rw [windowExpiry_of_awaiting hb]
  refine hshare.trans ?_
  rw [State.windowTold, outcomeTaken_unit_ne _ _ e, lostCompleted_unit_ne s o e]

theorem windowExpiry_told (hb : s.link.bus = .awaiting o) : s.CarriageTold s.windowExpiry false := by
  rw [windowExpiry_of_awaiting hb]
  exact notice_told ((touches_windowTold s o).mono (by decide)) fun g => by
    have hcool := windowTold_coolOf s o g
    rw [State.windowTold] at hcool
    rw [hcool]
    exact ⟨rfl, rfl⟩

theorem windowExpiry_unloading (hb : s.link.bus = .awaiting o) (g : Group) :
    (s.windowExpiry.coolOf g).cap.unloading = (s.coolOf g).cap.unloading := by
  obtain ⟨h, -⟩ := Prod.mk.inj (notice_cap_rest (s.windowTold o) s.carriage false g)
  rw [windowExpiry_of_awaiting hb]
  exact h.trans (by rw [windowTold_coolOf])

theorem windowExpiry_bus (hb : s.link.bus = .awaiting o) : s.windowExpiry.link.bus = .idle := by
  rw [windowExpiry_of_awaiting hb]
  exact (FlightStands.notice _ _ _).bus.trans (outcomeTaken_bus _ _)

/-- A command lost resolves what waits behind it, with the state last reported (R98, R105, R106). -/
theorem windowExpiry_settled (hb : s.link.bus = .awaiting o) {k : CmdKind} (ho : o.order = .command k) {c : Command}
    (hc : (s.unit o.group).command = some c) :
    (s.unit o.group).Settled (s.windowExpiry.unit o.group) (s.unit o.group).record.state
      (s.windowExpiry.coolOf o.group).cap.unloading := by
  obtain ⟨share, hunit⟩ := windowExpiry_unit_self hb
  have hc' : (s.unit o.group).unreached.command = some c := hc
  rw [windowExpiry_unloading hb, hunit, lostCompleted_unit_command s o ho, completed_of_some hc']
  exact resolved_slots_congr (u := s.unit o.group) (v := (s.unit o.group).unreached) rfl rfl rfl _

theorem windowExpiry_tells_lost (hb : s.link.bus = .awaiting o) {k : CmdKind} (ho : o.order = .command k) {c : Command}
    (hc : (s.unit o.group).command = some c) : s.windowExpiry.Tells .orderFailed o.group.num
      [beBytes 1 c.origin.code, beBytes 1 c.origin.tag, beBytes 1 c.kind.orderCode, beBytes 1 c.seq, [3#8], [0#8]] := by
  have hc' : ((s.unanswered o).unit o.group).command = some c := by rw [unanswered_unit_self]; exact hc
  refine (posts_windowExpiry hb).tells (by decide) ?_
  rw [lostCompleted_of_command s o ho]
  exact complete_tells hc' nofun

/-- An allocatable group that becomes unreachable is frozen, its join credit cleared (R80, R91). -/
theorem windowExpiry_frozen (hb : s.link.bus = .awaiting o) (h : s.allocatable o.group = true) :
    s.windowExpiry.frozen o.group = true ∧ (s.windowExpiry.coolOf o.group).cap.credit = 0 := by
  obtain ⟨share, hunit⟩ := windowExpiry_unit_self hb
  have hset : s.windowExpiry.settings = s.settings :=
    ((touches_windowExpiry (l := [.cool, .sup, .energy, .events, .reg, .link]) (by decide)).mpr
      (Touches.refl _ s)).settings (by decide)
  have hfit := fitted_congr (g := o.group) hset
  have hrec : (s.windowExpiry.unit o.group).record
      = { (s.unit o.group).record with reachable := false, senseDue := false } := by
    rw [hunit, lostCompleted_record]
  have halloc : s.windowExpiry.allocatable o.group = false := by simp [State.allocatable, hrec]
  obtain ⟨hcredit, -⟩ := windowExpiry_told hb
  refine ⟨?_, ?_⟩
  · simp only [State.allocatable, Bool.and_eq_true] at h
    obtain ⟨⟨⟨⟨hf, hr⟩, -⟩, -⟩, ht⟩ := h
    simp [State.frozen, hrec, hfit, hf, hr, ht]
  · rw [hcredit, halloc, h]
    rfl

end

end Sys2Proof.Machine

/-- Settles O36: a frame that is no valid reply is not read, and a window that ends is a loss followed by
the notices. -/
theorem windowWithoutAValidReplyMakesTheGroupUnreachable :
    Obligations.WindowWithoutAValidReplyMakesTheGroupUnreachable := by
  unfold Obligations.WindowWithoutAValidReplyMakesTheGroupUnreachable
  refine ⟨fun s bytes => ⟨fun hb => congrArg Host.Outcome.next (groupReply_of_not_awaiting hb),
      fun o hb hbad => ?_⟩,
    fun s => ⟨fun hb => congrArg Host.Outcome.next (windowExpiry_of_idle hb),
      fun hb => congrArg Host.Outcome.next (windowExpiry_of_draining hb), fun o hb => ?_⟩⟩
  · refine congrArg Host.Outcome.next (groupReply_of_invalid hb (Option.eq_none_iff_forall_ne_some.mpr fun x hx => ?_))
    obtain ⟨hsync, haddress, hkind, hseq, hcondition, hzero, hfive, hlength, hgood⟩ := readReply_some hx
    rcases hbad with h | h | h | h | h | h | h | h | h
    · exact h hsync
    · exact h haddress
    · exact h hkind
    · exact h hseq
    · omega
    · exact hzero h
    · omega
    · exact h hlength
    · rw [hgood] at h
      cases h
  · intro g u
    obtain ⟨share, hunit⟩ := windowExpiry_unit_self hb
    refine ⟨s.windowExpiry, rfl, (touches_windowExpiry (by decide)).mpr (Touches.refl _ s), windowExpiry_bus hb,
      ?_, ?_, fun hr => ?_, fun x ho hc => ⟨windowExpiry_settled hb ho hc, windowExpiry_tells_lost hb ho hc⟩,
      fun ho => ?_, windowExpiry_frozen hb, windowExpiry_told hb, fun g' hg => ?_⟩
    · rw [hunit]
    · rw [hunit, lostCompleted_record]
    · exact (posts_windowExpiry hb).tells (by decide)
        ((posts_lostCompleted s o).tells (by decide) (unanswered_tells hr))
    · rw [hunit, lostCompleted_of_other s o ho, unanswered_unit_self]
      exact ⟨rfl, rfl, rfl⟩
    · obtain ⟨share, hother⟩ := windowExpiry_unit_ne hb hg
      rw [hother]
      exact ⟨rfl, rfl⟩
end

section
/-! PROOFS. The law of the ceiling stack (R112): what a push, a removal, the passing of time and a rewritten ceiling do
to the ids of the entries and to the numbers of UTILITY and SWITCHING entries, and each operation of the stack as such a
change with its event. -/

open Sys2Proof Sys2Proof.Machine

namespace Sys2Proof.Machine

/-! ### The law in its two parts -/

/-- The part of the stack's law that speaks of the entries one by one: no more than 8, with ids of their own, and no
lifetime on a binding one (R112). -/
structure CeilingStack.Numbered (k : CeilingStack) : Prop where
  few : k.entries.length ≤ 8
  distinct : (k.entries.map (·.id)).Nodup
  ids : ∀ e ∈ k.entries, 1 ≤ e.id ∧ e.id ≤ 255
  next : 1 ≤ k.nextId ∧ k.nextId ≤ 255
  lifeless : ∀ e ∈ k.entries, e.source.binding = true → e.life = none

/-- The law of the stack (R112, R119 to R121). -/
structure CeilingStack.Lawful (k : CeilingStack) : Prop where
  numbered : k.Numbered
  utility : k.count .utility = k.utility.toNat
  switching : k.count .switching = k.switching.inProgress.toNat

theorem stackKept_iff {s : State} : s.StackKept ↔ s.stack.Lawful := by
  constructor
  · rintro ⟨hfew, hdistinct, hids, hnext, hutil, hsw, hlife⟩
    exact ⟨⟨hfew, hdistinct, hids, hnext, hlife⟩, hutil, hsw⟩
  · rintro ⟨⟨hfew, hdistinct, hids, hnext, hlife⟩, hutil, hsw⟩
    exact ⟨hfew, hdistinct, hids, hnext, hutil, hsw, hlife⟩

section
variable {k k' : CeilingStack} {e : StackEntry}

/-! ### The number of entries of a source -/

theorem source_ne_of_binding {x src : Source} (hx : x.binding = false) (hsrc : src.binding = true) : x ≠ src :=
  fun h => Bool.false_ne_true (hx.symm.trans (h ▸ hsrc))

theorem count_eq_countP (k : CeilingStack) (src : Source) :
    k.count src = k.entries.countP fun e => e.source == src := List.countP_eq_length_filter.symm

theorem count_of_entries (h : k'.entries = k.entries) (src : Source) : k'.count src = k.count src := by
  simp only [count_eq_countP, h]

theorem count_push (h : k'.entries = e :: k.entries) (src : Source) :
    k'.count src = k.count src + if e.source = src then 1 else 0 := by
  simp only [count_eq_countP, h, List.countP_cons, beq_iff_eq]

theorem count_map {f : StackEntry → StackEntry} (h : k'.entries = k.entries.map f)
    (hsrc : ∀ e, (f e).source = e.source) (src : Source) : k'.count src = k.count src := by
  simp only [count_eq_countP, h, List.countP_map, Function.comp_def, hsrc]

/-- Without a UTILITY entry, and with one SWITCHING entry at most, a full stack holds an entry that is not binding. -/
theorem exists_nonbinding (hfull : k.entries.length = 8) (hu : k.count .utility = 0) (hs : k.count .switching ≤ 1) :
    ∃ e ∈ k.entries, e.source.binding = false := by
  by_contra hall
  have hswitching : ∀ e ∈ k.entries, (e.source == .switching) = true := by
    intro e he
    rw [count_eq_countP, List.countP_eq_zero] at hu
    have hutil := hu e he
    have hbind : e.source.binding = true := by simpa using fun hb => hall ⟨e, he, hb⟩
    rw [binding_eq] at hbind
    simpa [hutil] using hbind
  rw [count_eq_countP, List.countP_eq_length.mpr hswitching, hfull] at hs
  exact absurd hs (by decide)

/-! ### An entry taken out of the stack -/

/-- From `k` to `k'` the entry `e` has been taken out of the stack. -/
def CeilingStack.Drops (k : CeilingStack) (e : StackEntry) (k' : CeilingStack) : Prop :=
  k'.nextId = k.nextId
    ∧ ∃ above below, k.entries = above ++ e :: below ∧ k'.entries = above ++ below

theorem CeilingStack.Drops.count (h : k.Drops e k') (src : Source) :
    k.count src = k'.count src + if e.source = src then 1 else 0 := by
  obtain ⟨-, above, below, hk, hk'⟩ := h
  simp only [count_eq_countP, hk, hk', List.countP_append, List.countP_cons, beq_iff_eq]
  omega

theorem CeilingStack.Drops.count_binding (h : k.Drops e k') (hb : e.source.binding = false) {src : Source}
    (hsrc : src.binding = true) : k'.count src = k.count src := by
  rw [h.count src, if_neg (source_ne_of_binding hb hsrc)]
  rfl

theorem CeilingStack.Drops.length (h : k.Drops e k') : k.entries.length = k'.entries.length + 1 := by
  obtain ⟨-, above, below, hk, hk'⟩ := h
  simp only [hk, hk', List.length_append, List.length_cons]
  omega

/-! ### What keeps the entries numbered -/

namespace CeilingStack.Numbered

theorem fewer (h : k.Numbered) (hs : k'.entries.Sublist k.entries) (hn : k'.nextId = k.nextId) : k'.Numbered where
  few := hs.length_le.trans h.few
  distinct := h.distinct.sublist (hs.map _)
  ids e he := h.ids e (hs.subset he)
  next := hn ▸ h.next
  lifeless e he := h.lifeless e (hs.subset he)

theorem drops (h : k.Numbered) (hd : k.Drops e k') : k'.Numbered := by
  obtain ⟨hn, above, below, hk, hk'⟩ := hd
  refine h.fewer ?_ hn
  rw [hk, hk']
  exact (List.sublist_cons_self e below).append_left above

/-- Entries of which ids and sources stand, and that get no lifetime, stay numbered. -/
theorem map {f : StackEntry → StackEntry} (h : k.Numbered) (hf : k'.entries = k.entries.map f)
    (hn : k'.nextId = k.nextId) (hid : ∀ e, (f e).id = e.id) (hsrc : ∀ e, (f e).source = e.source)
    (hlife : ∀ e, e.life = none → (f e).life = none) : k'.Numbered where
  few := by rw [hf, List.length_map]; exact h.few
  distinct := by simpa only [hf, List.map_map, Function.comp_def, hid] using h.distinct
  ids := by simpa only [hf, List.forall_mem_map, hid] using h.ids
  next := hn ▸ h.next
  lifeless := by
    simp only [hf, List.forall_mem_map, hsrc]
    exact fun e he hb => hlife e (h.lifeless e he hb)

theorem issues (h : k.Numbered) : k.Issues k.newId :=
  newId_issues k h.next.1 h.next.2 (h.few.trans_lt (by decide))

/-- The next-id counter after a push (R112). -/
theorem idAfter_newId (h : k.Numbered) : idAfter k.newId = k.newId % 255 + 1 := by
  obtain ⟨h1, h2⟩ := issues_range h.issues
  exact idAfter_eq _ h1 h2

/-- An entry pushed on a stack with room under the id issued (R112). -/
theorem push (h : k.Numbered) (hroom : k.entries.length < 8) (hk : k'.entries = e :: k.entries)
    (hid : e.id = k.newId) (hn : k'.nextId = idAfter k.newId) (hlife : e.source.binding = true → e.life = none) :
    k'.Numbered := by
  have hissued := h.issues
  have hrange := issues_range hissued
  obtain ⟨_, _, hfresh, _⟩ := hissued
  refine ⟨by rw [hk]; exact hroom, ?_, ?_, ?_, ?_⟩
  · rw [hk, List.map_cons, List.nodup_cons, hid]
    exact ⟨hfresh, h.distinct⟩
  · rw [hk, List.forall_mem_cons, hid]
    exact ⟨hrange, h.ids⟩
  · rw [hn, h.idAfter_newId]
    omega
  · rw [hk, List.forall_mem_cons]
    exact ⟨hlife, h.lifeless⟩

/-- Ids are the entries' own: no entry above one with an id has that id (R112). -/
theorem id_above (h : k.Numbered) {above below : List StackEntry} (hk : k.entries = above ++ e :: below) :
    ∀ x ∈ above, x.id ≠ e.id := by
  have hd := h.distinct
  rw [hk, List.map_append, List.nodup_append] at hd
  obtain ⟨-, -, hne⟩ := hd
  exact fun x hx => hne x.id (List.mem_map_of_mem hx) e.id (by simp)

end CeilingStack.Numbered

/-! ### What keeps the law -/

namespace CeilingStack.Lawful

/-- The law speaks of the entries, the next-id counter, the contact's level and whether a procedure is in progress. -/
theorem congr (h : k.Lawful) (he : k'.entries = k.entries) (hn : k'.nextId = k.nextId) (hu : k'.utility = k.utility)
    (hw : k'.switching.inProgress = k.switching.inProgress) : k'.Lawful :=
  ⟨h.numbered.fewer (he ▸ List.Sublist.refl _) hn, by rw [count_of_entries he, h.utility, hu],
    by rw [count_of_entries he, h.switching, hw]⟩

theorem map {f : StackEntry → StackEntry} (h : k.Lawful) (hk : k' = { k with entries := k.entries.map f })
    (hid : ∀ e, (f e).id = e.id) (hsrc : ∀ e, (f e).source = e.source)
    (hlife : ∀ e, e.life = none → (f e).life = none) : k'.Lawful := by
  subst hk
  exact ⟨h.numbered.map rfl rfl hid hsrc hlife, (count_map rfl hsrc _).trans h.utility,
    (count_map rfl hsrc _).trans h.switching⟩

/-- An entry that is not binding may be taken out (R112). -/
theorem drops (h : k.Lawful) (hd : k.Drops e k') (hb : e.source.binding = false) (hu : k'.utility = k.utility)
    (hw : k'.switching = k.switching) : k'.Lawful := by
  exact ⟨h.numbered.drops hd, by rw [hd.count_binding hb rfl, h.utility, hu],
    by rw [hd.count_binding hb rfl, h.switching, hw]⟩

theorem switching_le (h : k.Lawful) : k.count .switching ≤ 1 := h.switching ▸ Bool.toNat_le _

end CeilingStack.Lawful

end

/-! ### A push (R112, R118) -/

section
variable {s : State}

/-- The entry that a push puts on top (R112). -/
def State.entryOf (s : State) (src : Source) (ceiling : Nat) (rate life : Option Nat) : StackEntry :=
  { id := s.stack.newId, source := src, ceiling := ceiling, rate := rate, life := life, pushed := s.energy.time }

theorem pushEntry_stack (s : State) (src : Source) (ceiling : Nat) (rate life : Option Nat) :
    (s.pushEntry src ceiling rate life).stack = { s.stack with
      entries := s.entryOf src ceiling rate life :: s.stack.entries, nextId := idAfter s.stack.newId } := rfl

theorem pushEntry_numbered (h : s.stack.Numbered) (hroom : s.stack.entries.length < 8) {src : Source} {ceiling : Nat}
    {rate life : Option Nat} (hlife : src.binding = true → life = none) :
    (s.pushEntry src ceiling rate life).stack.Numbered := h.push hroom rfl rfl rfl hlife

theorem pushEntry_count (s : State) (src : Source) (ceiling : Nat) (rate life : Option Nat) (x : Source) :
    (s.pushEntry src ceiling rate life).stack.count x = s.stack.count x + if src = x then 1 else 0 :=
  count_push (e := s.entryOf src ceiling rate life) rfl x

/-- A push of an entry that is not binding keeps the law. -/
theorem pushEntry_lawful (h : s.stack.Lawful) (hroom : s.stack.entries.length < 8) {src : Source}
    (hb : src.binding = false) (ceiling : Nat) (rate life : Option Nat) :
    (s.pushEntry src ceiling rate life).stack.Lawful := by
  have hcount : ∀ x : Source, x.binding = true →
      (s.pushEntry src ceiling rate life).stack.count x = s.stack.count x := fun x hx => by
    rw [pushEntry_count, if_neg (source_ne_of_binding hb hx)]
    rfl
  exact ⟨pushEntry_numbered h.numbered hroom fun hbind => absurd (hb.symm.trans hbind) Bool.false_ne_true,
    (hcount .utility rfl).trans h.utility, (hcount .switching rfl).trans h.switching⟩

/-! ### The removal of one entry (R112, R118) -/

theorem removeEntry_none {p : StackEntry → Bool} (h : ∀ e ∈ s.stack.entries, p e = false) (x : StackChange) :
    s.removeEntry p x = s := by
  unfold State.removeEntry
  rw [List.find?_eq_none.mpr fun e he => by rw [h e he]; exact Bool.false_ne_true]

theorem removeEntry_at {p : StackEntry → Bool} {above below : List StackEntry} {e : StackEntry}
    (h : s.stack.entries = above ++ e :: below) (ha : ∀ y ∈ above, p y = false) (he : p e = true) (x : StackChange) :
    s.removeEntry p x = (s.setStack { s.stack with entries := above ++ below }).postStack x e := by
  obtain ⟨hfind, herase⟩ := find_append (b := below) ha he
  unfold State.removeEntry
  rw [h, hfind, herase]

/-- A removal takes out the first entry that it picks, or finds none and changes nothing. -/
theorem removeEntry_cases (s : State) (p : StackEntry → Bool) (x : StackChange) :
    (s.removeEntry p x = s ∧ ∀ e ∈ s.stack.entries, p e = false)
    ∨ ∃ above e below, s.stack.entries = above ++ e :: below ∧ p e = true
      ∧ s.removeEntry p x = (s.setStack { s.stack with entries := above ++ below }).postStack x e := by
  cases hf : s.stack.entries.find? p with
  | none =>
    have hnone : ∀ e ∈ s.stack.entries, p e = false := by simpa using hf
    exact .inl ⟨removeEntry_none hnone x, hnone⟩
  | some e =>
    obtain ⟨hp, above, below, hs, ha⟩ := List.find?_eq_some_iff_append.mp hf
    exact .inr ⟨above, e, below, hs, hp, removeEntry_at hs (fun y hy => by simpa using ha y hy) hp x⟩

/-- Where entries of a source stand, a removal by source takes out the first (R120, R123). -/
theorem removeEntry_of_source {src : Source} (h : s.stack.count src ≠ 0) (x : StackChange) :
    ∃ above e below, s.stack.entries = above ++ e :: below ∧ e.source = src
      ∧ s.removeEntry (fun e => e.source == src) x
        = (s.setStack { s.stack with entries := above ++ below }).postStack x e := by
  rcases removeEntry_cases s (fun e => e.source == src) x with ⟨-, hnone⟩ | ⟨above, e, below, hs, he, heq⟩
  · rw [count_eq_countP] at h
    exact absurd (List.countP_eq_zero.mpr fun e he => by rw [hnone e he]; exact Bool.false_ne_true) h
  · exact ⟨above, e, below, hs, beq_iff_eq.mp he, heq⟩

/-- The removal of the one entry of a source leaves none of it, and as many of another. -/
theorem removeEntry_of_source_counts (h : s.stack.Numbered) {src : Source} (hone : s.stack.count src = 1)
    (x : StackChange) : (s.removeEntry (fun e => e.source == src) x).stack.Numbered
      ∧ (s.removeEntry (fun e => e.source == src) x).stack.count src = 0
      ∧ ∀ other, src ≠ other →
        (s.removeEntry (fun e => e.source == src) x).stack.count other = s.stack.count other := by
  obtain ⟨above, e, below, hs, hsrc, heq⟩ := removeEntry_of_source (s := s) (src := src) (by omega) x
  have hd : s.stack.Drops e (s.removeEntry (fun e => e.source == src) x).stack := by
    rw [heq]
    exact ⟨rfl, above, below, hs, rfl⟩
  have hcount := hd.count
  refine ⟨h.drops hd, ?_, fun other hne => ?_⟩
  · have := hcount src
    rw [if_pos hsrc] at this
    omega
  · rw [hcount other, if_neg (hsrc ▸ hne)]
    rfl

/-- A removal that picks only entries that are not binding keeps the law. -/
theorem removeEntry_lawful (h : s.stack.Lawful) {p : StackEntry → Bool}
    (hp : ∀ e ∈ s.stack.entries, p e = true → e.source.binding = false) (x : StackChange) :
    (s.removeEntry p x).stack.Lawful := by
  rcases removeEntry_cases s p x with ⟨he, -⟩ | ⟨above, e, below, hs, hpe, he⟩
  · rw [he]; exact h
  · rw [he]
    exact h.drops ⟨rfl, above, below, hs, rfl⟩ (hp e (hs ▸ List.mem_append_right _ List.mem_cons_self) hpe) rfl rfl

/-! ### Lifetimes (R117) -/

theorem spent_iff {e : StackEntry} : e.spent = true ↔ e.life = some 0 := beq_iff_eq

theorem tickLives_lawful (h : s.stack.Lawful) : s.tickLives.stack.Lawful :=
  h.map rfl (fun _ => rfl) (fun _ => rfl) fun e he => by
    show e.life.map _ = none
    rw [he]
    rfl

/-- A binding entry has no lifetime to run out (R112). -/
theorem nonbinding_of_spent (h : s.stack.Numbered) {e : StackEntry} (he : e ∈ s.stack.entries)
    (hs : e.spent = true) : e.source.binding = false := by
  by_contra hb
  have hlife := h.lifeless e he (by simpa using hb)
  rw [spent_iff.mp hs] at hlife
  cases hlife

theorem expireEntries_lawful (h : s.stack.Lawful) : s.expireEntries.stack.Lawful := by
  rw [expireEntries_stack]
  have hcount : ∀ src : Source, src.binding = true →
      ({ s.stack with entries := s.stack.entries.filter fun e => !e.spent } : CeilingStack).count src
        = s.stack.count src := by
    intro src hsrc
    simp only [count_eq_countP, List.countP_filter]
    refine List.countP_congr fun e he => ?_
    simp only [Bool.and_eq_true, beq_iff_eq, Bool.not_eq_true', and_iff_left_iff_imp]
    intro hes
    by_contra hspent
    exact source_ne_of_binding (nonbinding_of_spent h.numbered he (by simpa using hspent)) hsrc hes
  exact ⟨h.numbered.fewer List.filter_sublist rfl, (hcount .utility rfl).trans h.utility,
    (hcount .switching rfl).trans h.switching⟩

/-! ### The utility contact (R119, R120) -/

theorem evictOldest_of_room (h : s.stack.entries.length < 8) : s.evictOldest = s := by
  unfold State.evictOldest
  exact if_pos h

theorem pushUtility_of_none (h : s.stack.count .utility = 0) : s.pushUtility
    = s.evictOldest.pushEntry .utility (s.clampCeiling (s.cfgN .utilityCeiling)) none none := by
  unfold State.pushUtility
  rw [count_eq_countP, List.countP_eq_zero] at h
  exact if_neg fun hany => by
    obtain ⟨e, he, hp⟩ := List.any_eq_true.mp hany
    exact h e he hp

/-- An eviction makes room for the UTILITY entry and leaves the binding entries (R120). -/
theorem evictOldest_makes_room (h : s.stack.Numbered) (hu : s.stack.count .utility = 0)
    (hw : s.stack.count .switching ≤ 1) :
    s.evictOldest.stack.Numbered ∧ s.evictOldest.stack.entries.length < 8
      ∧ ∀ src : Source, src.binding = true → s.evictOldest.stack.count src = s.stack.count src := by
  by_cases hroom : s.stack.entries.length < 8
  · rw [evictOldest_of_room hroom]
    exact ⟨h, hroom, fun _ _ => rfl⟩
  have hfull : s.stack.entries.length = 8 := Nat.le_antisymm h.few (Nat.not_lt.mp hroom)
  obtain ⟨above, e, below, hs, hb, -, he⟩ := evict_spec s hfull (exists_nonbinding hfull hu hw)
  have hd : s.stack.Drops e s.evictOldest.stack := by
    rw [he]
    exact ⟨rfl, above, below, hs, rfl⟩
  refine ⟨h.drops hd, ?_, fun src hsrc => hd.count_binding hb hsrc⟩
  have hlen := hd.length
  omega

/-- The UTILITY entry pushed where none stands (R120). -/
theorem pushUtility_adds_one (h : s.stack.Numbered) (hu : s.stack.count .utility = 0)
    (hw : s.stack.count .switching ≤ 1) :
    s.pushUtility.stack.Numbered ∧ s.pushUtility.stack.count .utility = 1
      ∧ s.pushUtility.stack.count .switching = s.stack.count .switching := by
  obtain ⟨hnum, hroom, hcount⟩ := evictOldest_makes_room h hu hw
  rw [pushUtility_of_none hu]
  refine ⟨pushEntry_numbered hnum hroom fun _ => rfl, ?_, ?_⟩
  · rw [pushEntry_count, hcount .utility rfl, hu]
    rfl
  · rw [pushEntry_count, hcount .switching rfl]
    rfl

/-- The state in which a level of the contact has been registered and told, before the UTILITY entry follows it
(R119). -/
def State.contactRegistered (s : State) (level : Bool) : State :=
  (s.setStack { s.stack with utility := level, assertCount := 0, releaseCount := 0 }).post .utility 0
    [flagByte level]

theorem registerUtility_asserted (s : State) : s.registerUtility true = (s.contactRegistered true).pushUtility := rfl

theorem registerUtility_deasserted (s : State) : s.registerUtility false
    = (s.contactRegistered false).removeEntry (fun e => e.source == .utility) .removed := rfl

theorem contactRegistered_count (s : State) (level : Bool) (src : Source) :
    (s.contactRegistered level).stack.count src = s.stack.count src := count_of_entries rfl src

/-- What a registration that is due makes of the entries: UTILITY stands exactly when the contact is ASSERTED (R120). -/
theorem registerUtility_entries (h : s.stack.Lawful) {level : Bool} (hne : level ≠ s.stack.utility) :
    (s.registerUtility level).stack.Numbered ∧ (s.registerUtility level).stack.count .utility = level.toNat
      ∧ (s.registerUtility level).stack.count .switching = s.stack.count .switching := by
  have hnum : (s.contactRegistered level).stack.Numbered := h.numbered.fewer (List.Sublist.refl _) rfl
  have hutil := contactRegistered_count s level .utility
  rw [h.utility, show s.stack.utility = !level by cases level <;> simpa using hne.symm] at hutil
  have hs := contactRegistered_count s level .switching
  cases level with
  | true =>
    rw [registerUtility_asserted]
    obtain ⟨hn, hu, hw⟩ := pushUtility_adds_one hnum hutil (hs.trans_le h.switching_le)
    exact ⟨hn, hu, hw.trans hs⟩
  | false =>
    rw [registerUtility_deasserted]
    obtain ⟨hn, hu, hw⟩ := removeEntry_of_source_counts hnum hutil .removed
    exact ⟨hn, hu, (hw .switching (by decide)).trans hs⟩

/-- The registration of a level that is not the registered one keeps the law (R119, R120). -/
theorem registerUtility_lawful (h : s.stack.Lawful) {level : Bool} (hne : level ≠ s.stack.utility) :
    (s.registerUtility level).stack.Lawful := by
  obtain ⟨hnum, hu, hw⟩ := registerUtility_entries h hne
  exact ⟨hnum, by rw [hu, registerUtility_utility], by rw [hw, registerUtility_switching, h.switching]⟩

theorem readUtility_lawful (h : s.stack.Lawful) (pin apart : Bool) : (s.readUtility pin apart).stack.Lawful := by
  unfold State.readUtility
  extract_lets k n m
  split
  · rename_i hu
    split
    · exact registerUtility_lawful h (by rw [show s.stack.utility = true from hu]; decide)
    · exact h.congr rfl rfl rfl rfl
  · rename_i hu
    split
    · exact registerUtility_lawful h (by rw [show s.stack.utility = false by simpa using hu]; decide)
    · exact h.congr rfl rfl rfl rfl

end

end Sys2Proof.Machine
end

section
/-! PROOFS. Every step keeps the law of the ceiling stack (O56; R112, R119 to R121, R125): each operation that reaches
the stack keeps it. -/

open Sys2Proof Sys2Proof.Machine

namespace Sys2Proof.Machine

namespace State.StackKept

variable {s t : State}

theorem lawful (h : s.StackKept) : s.stack.Lawful := stackKept_iff.mp h

theorem of_stack (h : s.StackKept) (he : t.stack = s.stack) : t.StackKept :=
  stackKept_iff.mpr (he ▸ h.lawful)

theorem of_touches {l : List Block} (h : s.StackKept) (ht : Touches l s t) (hb : .stack ∉ l) : t.StackKept :=
  h.of_stack (ht.stack hb)

/-! ### The requests of the line computer (R114 to R116) -/

theorem pushCeiling (h : s.StackKept) (payload : List Byte) (eng : Bool) : (s.pushCeiling payload eng).2.StackKept := by
  unfold State.pushCeiling
  extract_lets asked rate life ceiling stored s1
  split
  · exact h
  · split
    · exact h
    · rename_i hroom
      have hsrc : (if eng then Source.engineer else .operator).binding = false := by cases eng <;> rfl
      exact stackKept_iff.mpr (pushEntry_lawful h.lawful (Nat.not_le.mp hroom) hsrc _ _ _)

theorem popCeiling (h : s.StackKept) (eng : Bool) : (s.popCeiling eng).2.StackKept := by
  unfold State.popCeiling
  split
  · exact h
  · rename_i top rest hs
    split
    · exact h
    · rename_i hb
      split
      · exact h
      · exact stackKept_iff.mpr (h.lawful.drops ⟨rfl, [], rest, hs, rfl⟩ (Bool.eq_false_iff.mpr hb) rfl rfl)

theorem removeCeiling (h : s.StackKept) (payload : List Byte) : (s.removeCeiling payload).2.StackKept := by
  unfold State.removeCeiling
  extract_lets id s1
  split
  · exact h
  · rename_i e he
    split
    · exact h
    · rename_i hb
      obtain ⟨hid, above, below, hs, ha⟩ := List.find?_eq_some_iff_append.mp he
      have hremoved := removeEntry_at (p := fun e => e.id == id) hs (fun y hy => by simpa using ha y hy) hid
        .removed
      refine stackKept_iff.mpr ?_
      show s1.stack.Lawful
      rw [show s1 = _ from hremoved]
      exact h.lawful.drops ⟨rfl, above, below, hs, rfl⟩ (Bool.eq_false_iff.mpr hb) rfl rfl

/-! ### The pot switching procedure (R121 to R124) -/

theorem beginSwitch (h : s.StackKept) (p : Nat) (kind : SwitchKind) : (s.beginSwitch p kind).2.StackKept := by
  unfold State.beginSwitch
  extract_lets x id s1 w s2
  split
  · exact h
  · split
    · exact h
    · split
      · exact h
      · rename_i hidle
        split
        · exact h
        · rename_i hroom
          have hcount := pushEntry_count s .switching (s.clampCeiling (s.cfgN .switchCeiling)) none none
          have hnum := pushEntry_numbered (src := .switching) (rate := none)
            (ceiling := s.clampCeiling (s.cfgN .switchCeiling)) h.lawful.numbered (Nat.not_le.mp hroom) fun _ => rfl
          refine stackKept_iff.mpr ⟨hnum.fewer (List.Sublist.refl _) rfl, ?_, ?_⟩
          · exact (hcount .utility).trans h.lawful.utility
          · have hw := h.lawful.switching
            rw [show s.stack.switching.inProgress = false by simpa using hidle] at hw
            exact (hcount .switching).trans (congrArg (· + 1) hw)

theorem potSwitch (h : s.StackKept) (payload : List Byte) : (s.potSwitch payload).2.StackKept := by
  unfold State.potSwitch
  split
  · exact h.beginSwitch _ _
  · exact h.beginSwitch _ _
  · exact h

/-- The end of a procedure takes its one entry out with it (R123, R124). -/
theorem endSwitch (h : s.StackKept) (hp : s.stack.switching.phase ≠ .none) (cause : SwitchEnd) :
    (s.endSwitch cause).StackKept := by
  have hone := h.lawful.switching
  rw [Switching.inProgress_iff.mpr hp] at hone
  obtain ⟨hnum, hnone, hcount⟩ := removeEntry_of_source_counts h.lawful.numbered hone .ended
  refine stackKept_iff.mpr ⟨hnum.fewer (List.Sublist.refl _) rfl, ?_, hnone⟩
  have hlevel := congrArg Prod.fst (removeEntry_contact s (fun e => e.source == .switching) .ended)
  exact (hcount .utility (by decide)).trans (h.lawful.utility.trans (congrArg Bool.toNat hlevel.symm))

theorem potSwitchDone (h : s.StackKept) : s.potSwitchDone.2.StackKept := by
  by_cases hp : s.stack.switching.phase = .ready
  · rw [potSwitchDone_ready hp]
    have hpots : (s.changePot s.stack.switching.pot (s.stack.switching.kind == .cutOut)).stack = s.stack :=
      Touches.stack (l := [.pots, .ae, .events]) ((touches_changePot (by decide)).mpr (Touches.refl _ s)) (by decide)
    exact (h.of_stack hpots).endSwitch (by rw [hpots, hp]; decide) .done
  · rw [potSwitchDone_not_ready hp]
    exact h

theorem potSwitchAbort (h : s.StackKept) : s.potSwitchAbort.2.StackKept := by
  by_cases hp : s.stack.switching.phase = .none
  · rw [potSwitchAbort_idle hp]
    exact h
  · rw [potSwitchAbort_running hp]
    exact h.endSwitch hp .aborted

theorem switchTimeout (h : s.StackKept) : s.switchTimeout.StackKept := by
  by_cases hl : s.SwitchLate
  · rw [switchTimeout_due hl]
    exact h.endSwitch hl.1 .timeout
  · rw [switchTimeout_not_due hl]
    exact h

/-! ### Lifetimes and the boundary (R117, R119, R122) -/

theorem expireEntry (h : s.StackKept) (id : Nat) : (s.expireEntry id).StackKept :=
  stackKept_iff.mpr (removeEntry_lawful h.lawful (fun _ he hp =>
    nonbinding_of_spent h.lawful.numbered he (Bool.and_eq_true_iff.mp hp).2) .expired)

theorem livesCounted (h : s.StackKept) (apart : Bool) : (s.livesCounted apart).StackKept := by
  refine stackKept_iff.mpr ?_
  cases apart
  · exact expireEntries_lawful (tickLives_lawful h.lawful)
  · exact tickLives_lawful h.lawful

theorem stackTimed (h : s.StackKept) (apart : Bool) : (s.stackTimed apart).StackKept := by
  have hl := (h.livesCounted apart).lawful
  refine stackKept_iff.mpr ?_
  by_cases hp : s.stack.switching.phase = .none
  · rw [stackTimed_idle hp]
    exact hl
  · rw [stackTimed_stack hp]
    refine hl.congr rfl rfl rfl ?_
    rw [livesCounted_switching, Switching.inProgress_iff.mpr hp]
    exact Switching.inProgress_iff.mpr (switchPhase_ne_none _)

theorem stackSample (h : s.StackKept) (apart : Bool) : (s.stackSample apart).StackKept := by
  rw [stackSample_eq]
  cases apart
  · exact (h.stackTimed false).switchTimeout
  · exact h.stackTimed true

theorem boundary (h : s.StackKept) (b : Boundary) : (s.boundary b).StackKept := by
  have hsampled : (s.boundarySampled b).StackKept :=
    (h.of_touches touches_boundaryMetered (by decide) : (s.boundaryMetered b).StackKept).stackSample b.apart
  refine stackKept_iff.mpr ?_
  rw [boundary_stack]
  exact readUtility_lawful hsampled.lawful b.utility b.apart

theorem registerUtility (h : s.StackKept) {level : Bool} (hdue : s.stack.utilityDue level = true) :
    (s.registerUtility level).StackKept :=
  stackKept_iff.mpr (registerUtility_lawful h.lawful (utilityDue_iff.mp hdue).1)

/-! ### Resets (R125, R181) -/

/-- The stack of an idle procedure that holds the UTILITY entry alone, or nothing, as the contact asks. -/
theorem of_reset {e : StackEntry} (hid : 1 ≤ e.id ∧ e.id ≤ 255) (hsrc : e.source = .utility)
    (hlife : e.life = none) (he : t.stack.entries = if t.stack.utility then [e] else [])
    (hn : 1 ≤ t.stack.nextId ∧ t.stack.nextId ≤ 255) (hw : t.stack.switching.phase = .none) : t.StackKept := by
  have hidle := Switching.inProgress_eq_false_iff.mpr hw
  refine stackKept_iff.mpr ⟨?_, ?_, ?_⟩
  · cases hu : t.stack.utility <;> rw [hu] at he
    all_goals constructor <;> simp [he, hid, hlife, hn]
  · rw [count_eq_countP, he]
    cases t.stack.utility <;> simp [hsrc]
  · rw [count_eq_countP, he, hidle]
    cases t.stack.utility <;> simp [hsrc]

theorem idAfter_range {n : Nat} (h : 1 ≤ n ∧ n ≤ 255) : 1 ≤ idAfter n ∧ idAfter n ≤ 255 := by
  rw [idAfter_eq n h.1 h.2]
  omega

theorem lineReset (h : s.StackKept) : s.lineReset.2.StackKept := by
  have hnext := h.lawful.numbered.next
  rw [lineReset_done]
  refine of_reset (e := s.utilityEntry) hnext rfl rfl ?_ ?_ ?_
  all_goals rw [lineResetDone_stack]
  · dsimp only
    split
    · exact idAfter_range hnext
    · exact hnext
  · dsimp only
    split
    · assumption
    · rfl

theorem deviceReset (s : State) (p : Pins) : (s.deviceReset p).StackKept := by
  have hstack : (s.deviceReset p).stack = (State.afterReset p).stack := by
    unfold State.deviceReset
    rw [Touches.stack (l := [.sup, .events, .link, .reg])
      ((touches_safeIfAsserted (by decide)).mpr (Touches.refl _ _)) (by decide)]
  have hone : 1 ≤ 1 ∧ 1 ≤ 255 := by decide
  refine of_reset (e := (State.afterReset p).utilityEntry) hone rfl rfl ?_ ?_ ?_
  all_goals rw [hstack]
  · rfl
  · exact hone
  · rfl

/-! ### The settings store (R120, R121, R172) -/

theorem rewriteCeiling (h : s.StackKept) (src : Source) (v : Nat) : (s.rewriteCeiling src v).StackKept := by
  refine stackKept_iff.mpr (h.lawful.map rfl (fun e => ?_) (fun e => ?_) fun e he => ?_)
  · split <;> rfl
  · split <;> rfl
  · split <;> exact he

theorem writeItem (h : s.StackKept) (i : Item) (v : Int) : (s.writeItem i v).StackKept := by
  have hstored : (s.setSettings (s.settings.apply i v)).StackKept := h
  unfold State.writeItem
  generalize s.setSettings (s.settings.apply i v) = u at hstored
  unfold State.itemEffect
  split
  case h_6 | h_7 => exact hstored.rewriteCeiling _ _
  all_goals
    exact hstored.of_touches (l := [.scan, .ae, .events, .cool, .sup, .energy, .reg, .link])
      (by simp (maxDischargeDepth := 9)) (by decide)

theorem setItems (h : s.StackKept) (payload : List Byte) (eng : Bool) : (s.setItems payload eng).2.StackKept := by
  unfold State.setItems
  extract_lets count code pairs a
  split
  · exact h
  · split
    · exact h
    · refine List.foldlRecOn (motive := fun b : Applied => b.state.StackKept) _ _ h fun b hb p _ => ?_
      unfold Applied.step
      split
      · exact hb.writeItem p.1 p.2
      · exact hb

end State.StackKept

/-! ### Every step (O56) -/

theorem exec_stackKept {c : Instr} {s t : State} (h : s.StackKept) (he : exec c s = .next t) : t.StackKept := by
  have hh : ∀ u v : State, Touches [.host] u v → u.StackKept → v.StackKept :=
    fun _ _ ht hu => hu.of_touches ht (by decide)
  cases c with
  | deviceReset p => cases he; exact State.StackKept.deviceReset s p
  | lineReset => cases he; exact serve_keeps hh (fun _ _ _ hu => hu.lineReset) h
  | setItems => cases he; exact serve_keeps hh (fun payload eng _ hu => hu.setItems payload eng) h
  | pushCeiling => cases he; exact serve_keeps hh (fun payload eng _ hu => hu.pushCeiling payload eng) h
  | popCeiling => cases he; exact serve_keeps hh (fun _ eng _ hu => hu.popCeiling eng) h
  | removeCeiling => cases he; exact serve_keeps hh (fun payload _ _ hu => hu.removeCeiling payload) h
  | potSwitch => cases he; exact serve_keeps hh (fun payload _ _ hu => hu.potSwitch payload) h
  | potSwitchDone => cases he; exact serve_keeps hh (fun _ _ _ hu => hu.potSwitchDone) h
  | potSwitchAbort => cases he; exact serve_keeps hh (fun _ _ _ hu => hu.potSwitchAbort) h
  | lineSample b | lineMeasRecovery b =>
    have e : s.boundary b = t := by injection he
    exact e ▸ h.boundary b
  | utilityInputChange level =>
    cases he
    split
    · rename_i hdue
      exact h.registerUtility hdue
    · exact h
  | stackEntryExpired id => cases he; exact h.expireEntry id
  | switchTimeout => cases he; exact h.switchTimeout
  | _ => exact h.of_touches (exec_touches he) (by simp [commandBlocks])

end Sys2Proof.Machine

/-- Settles O56: every push has room and an id of its own, the UTILITY and SWITCHING entries come and go with the contact
and the procedure, and what else leaves the stack is not binding. -/
theorem everyStepKeepsTheCeilingStack : Obligations.EveryStepKeepsTheCeilingStack := by
  unfold Obligations.EveryStepKeepsTheCeilingStack
  intro s t h hstep
  unfold step at hstep
  split at hstep
  · cases hstep
    exact h
  · rename_i rest _
    exact exec_stackKept (s := { s with pending := rest }) h hstep
end

section
/-! PROOFS. The entries of the line computer on the ceiling stack (O45; R112 to R118): the requests, and the lifetimes at
a boundary. -/

open Sys2Proof Sys2Proof.Machine

namespace Sys2Proof.Machine

section
variable {s : State}

/-! ### A push with its event (R113, R118) -/

/-- The least of a ceiling and the ceilings of the binding entries (R113). -/
def CeilingStack.boundBy (k : CeilingStack) (ceiling : Nat) : Nat :=
  ((k.entries.filter fun x => x.source == .utility || x.source == .switching).map (·.ceiling)).foldl min ceiling

theorem term_congr {k k' : CeilingStack} (h : k'.entries = k.entries) : k'.term = k.term := by
  unfold CeilingStack.term
  rw [h]

theorem pushEntry_term (s : State) (src : Source) (ceiling : Nat) (rate life : Option Nat) :
    (s.pushEntry src ceiling rate life).stack.term = some (s.stack.boundBy ceiling) :=
  term_cons _ (s.entryOf src ceiling rate life) s.stack.entries rfl

theorem pushEntry_eq (h : s.stack.Numbered) (src : Source) (ceiling : Nat) (rate life : Option Nat) :
    s.pushEntry src ceiling rate life = (s.setStack { s.stack with
      entries := s.entryOf src ceiling rate life :: s.stack.entries, nextId := s.stack.newId % 255 + 1 }).post
        .stackChange s.stack.newId
        [[1#8], beBytes 1 src.code, beBytes 3 ceiling, beBytes 3 (s.stack.boundBy ceiling)] := by
  have hpush : s.pushEntry src ceiling rate life = (s.setStack { s.stack with
      entries := s.entryOf src ceiling rate life :: s.stack.entries, nextId := idAfter s.stack.newId }).postStack
        .pushed (s.entryOf src ceiling rate life) := rfl
  rw [hpush]
  unfold State.postStack
  rw [State.setStack_stack, ← pushEntry_stack, pushEntry_term, pushEntry_stack, h.idAfter_newId]
  rfl

/-! ### PUSH_CEILING (R114) -/

section
variable {payload : List Byte} {eng : Bool}

theorem pushCeiling_badValue (h : 86400 < field payload 8 4) :
    s.pushCeiling payload eng = (⟨.badValue, []⟩, s) := if_pos h

theorem pushCeiling_full (hlife : field payload 8 4 ≤ 86400) (hfull : s.stack.entries.length = 8) :
    s.pushCeiling payload eng = (⟨.stackFull, []⟩, s) := by
  unfold State.pushCeiling
  dsimp only
  rw [if_neg (Nat.not_lt.mpr hlife), if_pos hfull.ge]
  rfl

theorem pushCeiling_pushed (hlife : field payload 8 4 ≤ 86400)
    (hroom : s.stack.entries.length < 8) :
    let asked := field payload 0 4
    let rate := field payload 4 4
    let life := field payload 8 4
    let ceiling := min asked s.lineMax
    let stored := if rate = 0 then 0 else max 10 (min 50000 rate)
    s.pushCeiling payload eng
      = (⟨if ceiling = asked ∧ stored = rate then .ok else .adjusted,
          beBytes 1 s.stack.newId ++ beBytes 4 ceiling ++ beBytes 4 stored ++ [1#8]
            ++ beBytes 4 (s.stack.boundBy ceiling)⟩,
        s.pushEntry (if eng then .engineer else .operator) ceiling (if rate = 0 then none else some stored)
          (if life = 0 then none else some (life * 10))) := by
  intro asked rate life ceiling stored
  have hstored : (if rate = 0 then none else some (max 10 (min 50000 rate))).getD 0 = stored := by
    unfold stored
    split <;> rfl
  have hrate : (if rate = 0 then none else some stored)
      = if rate = 0 then none else some (max 10 (min 50000 rate)) := by
    unfold stored
    split <;> rfl
  rw [hrate]
  unfold State.pushCeiling State.termBytes
  dsimp only
  rw [if_neg (Nat.not_lt.mpr hlife), if_neg (Nat.not_le.mpr hroom), pushEntry_term, hstored]
  simp only [optBytes, List.append_assoc, List.singleton_append]
  rfl

end

/-! ### POP_CEILING (R115) -/

theorem popCeiling_empty {eng : Bool} (h : s.stack.entries = []) : s.popCeiling eng = (⟨.stackEmpty, []⟩, s) := by
  unfold State.popCeiling
  rw [h]
  rfl

section
variable {eng : Bool} {top : StackEntry} {below : List StackEntry} (hs : s.stack.entries = top :: below)
include hs

theorem popCeiling_kept (h : top.source.binding = true ∨ top.source = .engineer ∧ eng = false) :
    s.popCeiling eng = (⟨.notPermitted, []⟩, s) := by
  unfold State.popCeiling
  rw [hs]
  rcases h with hb | ⟨hsrc, rfl⟩
  · exact if_pos hb
  · dsimp only
    rw [hsrc]
    rfl

theorem popCeiling_popped (h : ¬ (top.source.binding = true ∨ top.source = .engineer ∧ eng = false)) :
    s.popCeiling eng = (⟨.ok, beBytes 1 top.id ++ beBytes 4 top.ceiling
        ++ optBytes 4 { s.stack with entries := below : CeilingStack }.term⟩,
      (s.setStack { s.stack with entries := below }).postStack .popped top) := by
  obtain ⟨hb, hsrc⟩ := not_or.mp h
  unfold State.popCeiling
  rw [hs]
  dsimp only
  rw [if_neg hb, if_neg (by simpa using hsrc)]
  rfl

end

/-! ### REMOVE_CEILING (R116) -/

section
variable {payload : List Byte}

theorem removeCeiling_noSuch (h : ∀ e ∈ s.stack.entries, e.id ≠ field payload 0 1) :
    s.removeCeiling payload = (⟨.noSuch, []⟩, s) := by
  unfold State.removeCeiling
  dsimp only
  rw [List.find?_eq_none.mpr (by simpa using h)]
  rfl

variable {above below : List StackEntry} {e : StackEntry} (hs : s.stack.entries = above ++ e :: below)
  (ha : ∀ x ∈ above, x.id ≠ e.id) (hid : e.id = field payload 0 1)
include hs ha hid

theorem removeCeiling_binding (hb : e.source.binding = true) :
    s.removeCeiling payload = (⟨.notPermitted, []⟩, s) := by
  obtain ⟨hfind, -⟩ := find_append (p := fun e : StackEntry => e.id == field payload 0 1) (b := below)
    (fun x hx => by simpa [hid] using ha x hx) (beq_iff_eq.mpr hid)
  unfold State.removeCeiling
  dsimp only
  rw [hs, hfind]
  exact if_pos hb

theorem removeCeiling_removed (hb : e.source.binding = false) :
    s.removeCeiling payload = (⟨.ok, optBytes 4 { s.stack with entries := above ++ below : CeilingStack }.term⟩,
      (s.setStack { s.stack with entries := above ++ below }).postStack .removed e) := by
  have hpick : ∀ x ∈ above, (x.id == field payload 0 1) = false := fun x hx => by simpa [hid] using ha x hx
  obtain ⟨hfind, -⟩ := find_append (p := fun e : StackEntry => e.id == field payload 0 1) (b := below) hpick
    (beq_iff_eq.mpr hid)
  unfold State.removeCeiling
  dsimp only
  rw [removeEntry_at hs hpick (beq_iff_eq.mpr hid), hs, hfind]
  exact if_neg (by rw [hb]; exact Bool.false_ne_true)

end

/-! ### STACK_ENTRY_EXPIRED (R117) -/

theorem expireEntry_none {id : Nat} (h : ∀ e ∈ s.stack.entries, e.id = id → e.life ≠ some 0) :
    s.expireEntry id = s :=
  removeEntry_none (fun e he => by simpa [StackEntry.spent] using h e he) .expired

theorem expireEntry_at {above below : List StackEntry} {e : StackEntry} (hs : s.stack.entries = above ++ e :: below)
    (ha : ∀ x ∈ above, x.id ≠ e.id) (hspent : e.life = some 0) :
    s.expireEntry e.id = (s.setStack { s.stack with entries := above ++ below }).postStack .expired e :=
  removeEntry_at hs (fun x hx => by simpa using fun h => absurd h (ha x hx)) (by simp [StackEntry.spent, hspent])
    .expired

/-! ### Lifetimes that run out together (R117, log 37) -/

/-- EXPIRED for an entry, with the term of the stack `k` (R118). -/
def expiredFields (k : CeilingStack) (e : StackEntry) : List (List Byte) :=
  [[4#8], beBytes 1 e.source.code, beBytes 3 e.ceiling, beBytes 3 (k.term.getD 0)]

/-- Of entries with ids of their own, each one's expiry stays told. -/
theorem expiryPosts_tell {xs : List StackEntry} (hd : (xs.map (·.id)).Nodup) (u : State) :
    ∀ e ∈ xs, (xs.foldl (fun s e => s.postStack .expired e) u).Tells .stackChange e.id
      (expiredFields u.stack e) := by
  have stands : ∀ (ys : List StackEntry) (u : State) (n : Nat) (fields : List (List Byte)),
      (∀ y ∈ ys, y.id ≠ n) → u.Tells .stackChange n fields →
      (ys.foldl (fun s e => s.postStack .expired e) u).Tells .stackChange n fields := by
    intro ys
    induction ys with
    | nil => exact fun _ _ _ _ h => h
    | cons y ys ih =>
      intro u n fields hne h
      obtain ⟨hy, hys⟩ := List.forall_mem_cons.mp hne
      exact ih _ _ _ hys (tells_post h (.inr hy))
  induction xs generalizing u with
  | nil => exact fun e he => absurd he List.not_mem_nil
  | cons x xs ih =>
    rw [List.map_cons, List.nodup_cons] at hd
    obtain ⟨hx, hxs⟩ := hd
    refine List.forall_mem_cons.mpr ⟨?_, fun e he => ih hxs (u.postStack .expired x) e he⟩
    exact stands xs _ _ _ (fun y hy hid => hx (hid ▸ List.mem_map_of_mem hy)) tells_post_self

theorem expireEntries_tells (h : s.stack.Numbered) {e : StackEntry} (he : e ∈ s.stack.entries)
    (hspent : e.life = some 0) :
    s.expireEntries.Tells .stackChange e.id (expiredFields s.expireEntries.stack e) := by
  rw [expireEntries_stack]
  refine expiryPosts_tell ?_ _ e (List.mem_filter.mpr ⟨he, spent_iff.mpr hspent⟩)
  exact h.distinct.sublist (List.filter_sublist.map _)

/-! ### The stack at a boundary (R117, log 2) -/

theorem stackTimed_entries (s : State) (apart : Bool) :
    (s.stackTimed apart).stack.entries = (s.livesCounted apart).stack.entries := by
  by_cases h : s.stack.switching.phase = .none
  · rw [stackTimed_idle h]
  · rw [stackTimed_stack h]

/-- Without a procedure in progress the stack's part of a boundary is that of the lifetimes. -/
theorem stackSample_idle (h : s.stack.switching.phase = .none) (apart : Bool) :
    s.stackSample apart = s.livesCounted apart := by
  have hend : (s.livesCounted apart).switchTimeout = s.livesCounted apart :=
    switchTimeout_not_due fun hd => hd.1 (by rw [livesCounted_switching, h])
  rw [stackSample_eq, stackTimed_idle h]
  cases apart
  · exact hend
  · rfl

/-- A reading of the UTILITY pin that registers no ASSERTED level counts it (R119). -/
theorem readUtility_counts_asserts {pin apart : Bool} (hu : s.stack.utility = false)
    (h : apart = true ∨ (if pin then satInc 10 s.stack.assertCount else 0) < 10) : s.readUtility pin apart
      = s.setStack { s.stack with assertCount := if pin then satInc 10 s.stack.assertCount else 0 } := by
  unfold State.readUtility
  extract_lets k n m
  rw [if_neg (by rw [show k.utility = false from hu]; exact Bool.false_ne_true), if_neg]
  rw [Bool.and_eq_true, decide_eq_true_eq, Bool.not_eq_true']
  rintro ⟨hm, hapart⟩
  exact Nat.not_le.mpr (h.resolve_left (Bool.eq_false_iff.mp hapart)) hm

/-- A reading of the UTILITY pin that registers no DEASSERTED level counts it (R119). -/
theorem readUtility_counts_releases {pin apart : Bool} (hu : s.stack.utility = true)
    (h : apart = true ∨ (if pin then 0 else satInc 2 s.stack.releaseCount) < 2) : s.readUtility pin apart
      = s.setStack { s.stack with releaseCount := if pin then 0 else satInc 2 s.stack.releaseCount } := by
  unfold State.readUtility
  extract_lets k n m
  rw [if_pos (show k.utility = true from hu), if_neg]
  rw [Bool.and_eq_true, decide_eq_true_eq, Bool.not_eq_true']
  rintro ⟨hn, hapart⟩
  exact Nat.not_le.mpr (h.resolve_left (Bool.eq_false_iff.mp hapart)) hn

/-- A reading of the UTILITY pin that registers no level changes the counts of readings alone (R119). -/
theorem readUtility_quiet {pin apart : Bool} (h : apart = true ∨ pin = s.stack.utility) :
    ∃ asserts releases, s.readUtility pin apart
      = s.setStack { s.stack with assertCount := asserts, releaseCount := releases } := by
  rcases Bool.eq_false_or_eq_true s.stack.utility with hu | hu
  · refine ⟨s.stack.assertCount, _, readUtility_counts_releases hu (h.imp_right fun hp => ?_)⟩
    rw [hp, hu]
    exact Nat.zero_lt_succ _
  · refine ⟨_, s.stack.releaseCount, readUtility_counts_asserts hu (h.imp_right fun hp => ?_)⟩
    rw [hp, hu]
    exact Nat.zero_lt_succ _

/-- The kinds that a boundary can post after the stack has had its part, when no level of the contact is registered. -/
def quietKinds : List EventKind :=
  [.supState, .safe, .quenchRequest, .aeLong] ++ loopKinds

theorem boundarySampled_contact (s : State) (b : Boundary) : (s.boundarySampled b).contact = s.contact :=
  (stackSample_contact _ _).trans (contact_congr (touches_boundaryMetered.stack (by decide)))

/-- A boundary that registers no level of the contact leaves the entries and what is told of them as the stack's part
leaves them. -/
theorem boundary_of_quiet {b : Boundary} (h : b.apart = true ∨ b.utility = s.stack.utility) :
    (s.boundary b).stack.entries = ((s.boundaryMetered b).stackSample b.apart).stack.entries
      ∧ Posts quietKinds ((s.boundaryMetered b).stackSample b.apart) (s.boundary b) := by
  obtain ⟨asserts, releases, hread⟩ := readUtility_quiet (s := s.boundarySampled b) (pin := b.utility)
    (apart := b.apart) (h.imp_right fun hu => hu.trans (congrArg Prod.fst (boundarySampled_contact s b)).symm)
  refine ⟨by rw [boundary_stack, hread]; rfl, ?_⟩
  have hinputs : Posts quietKinds (s.boundarySampled b) (s.boundaryRead b) := by
    rw [boundaryRead_eq, State.boundaryUtility, hread]
    exact Posts.trans (posts_readSafe (posts_setStack (.refl _ _)) (by decide)) (posts_readKey _ _ _ _)
  have htimed : Posts quietKinds (s.boundaryRead b) (s.boundaryTimed b) := (posts_aeSample _ _).mono (by decide)
  exact hinputs.trans (htimed.trans ((posts_boundaryTimed s b).mono (by decide)))

theorem boundary_entries_apart {b : Boundary} (ha : b.apart = true) :
    (s.boundary b).stack.entries = s.stack.entries.map StackEntry.tick := by
  obtain ⟨hentries, -⟩ := boundary_of_quiet (s := s) (.inl ha)
  rw [hentries, stackSample_eq, ha]
  refine (stackTimed_entries (s.boundaryMetered b) true).trans ?_
  show (s.boundaryMetered b).stack.entries.map _ = _
  rw [touches_boundaryMetered.stack (by decide)]

/-- A boundary with its parts removes what has run out, and tells it, when neither the contact nor a procedure reaches
the stack. -/
theorem boundary_expires (h : s.stack.Lawful) {b : Boundary} (ha : b.apart = false)
    (hu : b.utility = s.stack.utility) (hw : s.stack.switching.phase = .none) :
    (s.boundary b).stack.entries = (s.stack.entries.map StackEntry.tick).filter (fun e => !e.spent)
      ∧ ∀ e ∈ s.stack.entries.map StackEntry.tick, e.life = some 0 →
        (s.boundary b).Tells .stackChange e.id (expiredFields (s.boundary b).stack e) := by
  have hstack : (s.boundaryMetered b).stack = s.stack := touches_boundaryMetered.stack (by decide)
  have hsample : (s.boundaryMetered b).stackSample b.apart = (s.boundaryMetered b).tickLives.expireEntries := by
    rw [stackSample_idle (by rw [hstack]; exact hw), ha]
    rfl
  have hticked : (s.boundaryMetered b).tickLives.stack.entries = s.stack.entries.map StackEntry.tick := by
    show (s.boundaryMetered b).stack.entries.map _ = _
    rw [hstack]
  have hlawful : (s.boundaryMetered b).tickLives.stack.Lawful := tickLives_lawful (by rw [hstack]; exact h)
  obtain ⟨hentries, hposts⟩ := boundary_of_quiet (s := s) (b := b) (.inr hu)
  rw [hsample] at hentries hposts
  refine ⟨by rw [hentries, expireEntries_stack, hticked], fun e he hspent => ?_⟩
  have htells := expireEntries_tells hlawful.numbered (by rw [hticked]; exact he) hspent
  unfold expiredFields at htells ⊢
  rw [term_congr hentries]
  exact hposts.tells (by decide) htells

end

end Sys2Proof.Machine

/-- Settles O45: each request is answered as its tests decide, by a push or a removal with its event, and a boundary
comes to the lifetimes with the stack that it starts from. -/
theorem ceilingsArePushedPoppedRemovedAndExpired : Obligations.CeilingsArePushedPoppedRemovedAndExpired := by
  unfold Obligations.CeilingsArePushedPoppedRemovedAndExpired
  intro f rest s hkept k reply without termOf
  have hlaw : s.stack.Lawful := hkept.lawful
  have hnum := hlaw.numbered
  refine ⟨fun h => ?_, fun h => ⟨fun hs => ?_, fun top below hs => ?_⟩,
    fun h => ⟨fun hne => ?_, fun above e below hs hid => ⟨fun hb => ?_, fun hb => ?_⟩⟩,
    fun id => ⟨fun hne => ?_, fun above e below hs hid hspent => ?_⟩,
    fun b => ⟨s.boundary b, rfl, fun ha => boundary_entries_apart ha, fun ha hu hw => ?_⟩⟩
  · intro asked rate life ceiling stored source term
    refine ⟨fun hl => exec_answers (k := .pushCeiling) rfl h (pushCeiling_badValue (s := s.taken) hl),
      fun hl hfull => exec_answers (k := .pushCeiling) rfl h (pushCeiling_full (s := s.taken) hl hfull),
      fun hl hroom => ⟨k.newId, hnum.issues, ?_⟩⟩
    refine exec_answers (k := .pushCeiling) rfl h ((pushCeiling_pushed (s := s.taken) hl hroom).trans ?_)
    rw [pushEntry_eq (s := s.taken) hnum]
    rfl
  · exact exec_answers (k := .popCeiling) rfl h (popCeiling_empty (s := s.taken) hs)
  · exact ⟨fun hk => exec_answers (k := .popCeiling) rfl h (popCeiling_kept (s := s.taken) hs hk),
      fun hk => exec_answers (k := .popCeiling) rfl h (popCeiling_popped (s := s.taken) hs hk)⟩
  · exact exec_answers (k := .removeCeiling) rfl h (removeCeiling_noSuch (s := s.taken) hne)
  · exact exec_answers (k := .removeCeiling) rfl h
      (removeCeiling_binding (s := s.taken) hs (hnum.id_above hs) hid hb)
  · exact exec_answers (k := .removeCeiling) rfl h
      (removeCeiling_removed (s := s.taken) hs (hnum.id_above hs) hid hb)
  · exact congrArg Host.Outcome.next (expireEntry_none hne)
  · subst hid
    exact congrArg Host.Outcome.next (expireEntry_at hs (hnum.id_above hs) hspent)
  · obtain ⟨hentries, htells⟩ := boundary_expires hlaw ha hu hw
    refine ⟨hentries.trans (List.filter_congr fun e _ => Bool.eq_iff_iff.mpr ?_), htells⟩
    simp [StackEntry.spent]
end

section
/-! PROOFS. The key switch and the utility contact (O46; R119, R120, R170): readings counted at a boundary, and the
registration of a level. -/

open Sys2Proof Sys2Proof.Machine

namespace Sys2Proof.Machine

section
variable {s : State}

/-! ### The key switch (R170) -/

/-- A reading of the ENG_KEY pin that registers no level counts it (R170). -/
theorem readKey_counts {pin apart : Bool}
    (h : apart = true ∨ (if pin = s.host.keyLevel then 0 else satInc 2 s.host.keyRun) < 2) : s.readKey pin apart
      = s.setHost { s.host with keyRun := if pin = s.host.keyLevel then 0 else satInc 2 s.host.keyRun } := by
  unfold State.readKey
  extract_lets n
  refine if_neg ?_
  rw [Bool.and_eq_true, decide_eq_true_eq, Bool.not_eq_true']
  rintro ⟨hn, hapart⟩
  exact Nat.not_le.mpr (h.resolve_left (Bool.eq_false_iff.mp hapart)) hn

/-- The host link of a boundary is as its reading of the ENG_KEY pin leaves it (R170). -/
theorem boundary_host (s : State) (b : Boundary) :
    ∃ u : State, u.host = s.host ∧ (s.boundary b).host = (u.readKey b.engKey b.apart).host := by
  have hsafe : Touches [.sup, .events, .link, .reg] (s.boundaryUtility b)
      ((s.boundaryUtility b).readSafe b.safe b.apart) := (touches_readSafe (by decide)).mpr (Touches.refl _ _)
  have hline : Touches [.ticks, .pins, .energy, .front, .events, .sup] s (s.lineSample b) :=
    (touches_lineSample (by decide)).mpr (Touches.refl _ s)
  refine ⟨(s.boundaryUtility b).readSafe b.safe b.apart, ?_, ?_⟩
  · rw [hsafe.host (by decide), touches_boundaryUtility.host (by decide), hline.host (by decide)]
  · rw [touches_boundaryLoops.host (by decide), boundaryRead_eq]

theorem boundary_keyRun {b : Boundary}
    (h : b.apart = true ∨ (if b.engKey = s.host.keyLevel then 0 else satInc 2 s.host.keyRun) < 2) :
    (s.boundary b).host
      = { s.host with keyRun := if b.engKey = s.host.keyLevel then 0 else satInc 2 s.host.keyRun } := by
  obtain ⟨u, hu, hhost⟩ := boundary_host s b
  rw [← hu] at h ⊢
  rw [hhost, readKey_counts h]
  rfl

/-! ### The contact's readings (R119) -/

theorem contact_eq_iff {level : Bool} {asserts releases : Nat} : s.contact = (level, asserts, releases)
    ↔ s.stack.utility = level ∧ s.stack.assertCount = asserts ∧ s.stack.releaseCount = releases := by
  simp [State.contact]

theorem boundary_contact (s : State) (b : Boundary) :
    (s.boundary b).contact = ((s.boundarySampled b).readUtility b.utility b.apart).contact :=
  contact_congr (boundary_stack s b)

theorem boundary_counts_asserts {b : Boundary} (hu : s.stack.utility = false)
    (h : b.apart = true ∨ (if b.utility then satInc 10 s.stack.assertCount else 0) < 10) : (s.boundary b).contact
      = (false, if b.utility then satInc 10 s.stack.assertCount else 0, s.stack.releaseCount) := by
  obtain ⟨hlevel, hasserts, hreleases⟩ := contact_eq_iff.mp (boundarySampled_contact s b)
  rw [← hasserts] at h ⊢
  rw [boundary_contact, readUtility_counts_asserts (hlevel.trans hu) h, ← hreleases, ← hu, ← hlevel]
  rfl

theorem boundary_counts_releases {b : Boundary} (hu : s.stack.utility = true)
    (h : b.apart = true ∨ (if b.utility then 0 else satInc 2 s.stack.releaseCount) < 2) : (s.boundary b).contact
      = (true, s.stack.assertCount, if b.utility then 0 else satInc 2 s.stack.releaseCount) := by
  obtain ⟨hlevel, hasserts, hreleases⟩ := contact_eq_iff.mp (boundarySampled_contact s b)
  rw [← hreleases] at h ⊢
  rw [boundary_contact, readUtility_counts_releases (hlevel.trans hu) h, ← hasserts, ← hu, ← hlevel]
  rfl

/-! ### The UTILITY entry follows the contact (R120) -/

theorem postStack_tells (s : State) (x : StackChange) (e : StackEntry) : (s.postStack x e).Tells .stackChange e.id
    [beBytes 1 x.code, beBytes 1 e.source.code, beBytes 3 e.ceiling, beBytes 3 (s.stack.term.getD 0)] :=
  tells_post_self

/-- What STACK_CHANGE tells of the eviction of an entry that leaves the entries `kept` (R118, R120). -/
def evictedFields (k : CeilingStack) (kept : List StackEntry) (e : StackEntry) : List (List Byte) :=
  [[5#8], beBytes 1 e.source.code, beBytes 3 e.ceiling,
    beBytes 3 ({ k with entries := kept : CeilingStack }.term.getD 0)]

/-- An eviction: nothing where there is room, and the oldest entry that is not binding from a full stack (R120). -/
theorem evictOldest_spec (h : s.stack.Numbered) (hu : s.stack.count .utility = 0)
    (hw : s.stack.count .switching ≤ 1) :
    ∃ kept, s.evictOldest.stack = { s.stack with entries := kept }
      ∧ (s.stack.entries.length < 8 → kept = s.stack.entries)
      ∧ (s.stack.entries.length = 8 → ∃ above e below, s.stack.entries = above ++ e :: below
          ∧ e.source.binding = false ∧ (∀ x ∈ below, x.source.binding = true) ∧ kept = above ++ below
          ∧ s.evictOldest.Tells .stackChange e.id (evictedFields s.stack kept e)) := by
  by_cases hroom : s.stack.entries.length < 8
  · rw [evictOldest_of_room hroom]
    exact ⟨s.stack.entries, rfl, fun _ => rfl, fun hfull => absurd hroom (by omega)⟩
  have hfull : s.stack.entries.length = 8 := Nat.le_antisymm h.few (Nat.not_lt.mp hroom)
  obtain ⟨above, e, below, hs, hb, hbelow, he⟩ := evict_spec s hfull (exists_nonbinding hfull hu hw)
  rw [he]
  exact ⟨above ++ below, rfl, fun hlt => absurd hlt hroom, fun _ =>
    ⟨above, e, below, hs, hb, hbelow, rfl, tells_post_self⟩⟩

/-- The registration of ASSERTED: the UTILITY entry stands on top of what is kept (R119, R120). -/
theorem registerUtility_pushes (h : s.stack.Lawful) (hu : s.stack.utility = false) :
    let t := s.registerUtility true
    let ceiling := min (s.cfgN .utilityCeiling) s.lineMax
    ∃ (kept : List StackEntry) (id : Nat),
      { s.stack with entries := kept : CeilingStack }.Issues id
      ∧ t.stack.nextId = id % 255 + 1
      ∧ t.stack.entries = { id := id, source := .utility, ceiling := ceiling, rate := none, life := none,
                            pushed := s.energy.time } :: kept
      ∧ t.Tells .stackChange id [[1#8], [2#8], beBytes 3 ceiling, beBytes 3 (t.stack.term.getD 0)]
      ∧ (s.stack.entries.length < 8 → kept = s.stack.entries)
      ∧ (s.stack.entries.length = 8 → ∃ above e below, s.stack.entries = above ++ e :: below
          ∧ e.source.binding = false ∧ (∀ x ∈ below, x.source.binding = true) ∧ kept = above ++ below
          ∧ (e.id ≠ id → t.Tells .stackChange e.id (evictedFields s.stack kept e))) := by
  intro t ceiling
  have hnum : (s.contactRegistered true).stack.Numbered := h.numbered.fewer (List.Sublist.refl _) rfl
  have hnone : (s.contactRegistered true).stack.count .utility = 0 := by
    rw [contactRegistered_count, h.utility, hu]
    rfl
  have hone : (s.contactRegistered true).stack.count .switching ≤ 1 :=
    (contactRegistered_count s true .switching).trans_le h.switching_le
  obtain ⟨kept, hstack, hroom, hfull⟩ := evictOldest_spec hnum hnone hone
  obtain ⟨hevicted, -, -⟩ := evictOldest_makes_room hnum hnone hone
  have htime : (s.contactRegistered true).evictOldest.energy = s.energy :=
    Touches.energy (s := s.contactRegistered true) (l := [.stack, .events])
      ((touches_evictOldest (by decide)).mpr (Touches.refl _ _)) (by decide)
  have ht : t = (s.contactRegistered true).evictOldest.pushEntry .utility ceiling none none := pushUtility_of_none hnone
  refine ⟨kept, (s.contactRegistered true).evictOldest.stack.newId, ?_, ?_, ?_, ?_, hroom, fun hl => ?_⟩
  · have hissues := hevicted.issues
    rw [hstack] at hissues ⊢
    exact hissues
  · rw [ht, pushEntry_stack, ← hevicted.idAfter_newId]
  · rw [ht, pushEntry_stack]
    unfold State.entryOf
    rw [htime, hstack]
  · rw [ht]
    exact tells_post_self
  · obtain ⟨above, e, below, hs, hb, hbelow, hk, htells⟩ := hfull hl
    refine ⟨above, e, below, hs, hb, hbelow, hk, fun hne => ?_⟩
    rw [ht]
    exact tells_post htells (.inr hne.symm)

/-- The registration of DEASSERTED: the UTILITY entry is taken out (R119, R120). -/
theorem registerUtility_removes (h : s.stack.Lawful) (hu : s.stack.utility = true) :
    let t := s.registerUtility false
    t.stack.nextId = s.stack.nextId
      ∧ ∃ above e below, s.stack.entries = above ++ e :: below ∧ e.source = .utility
        ∧ t.stack.entries = above ++ below
        ∧ t.Tells .stackChange e.id [[3#8], [2#8], beBytes 3 e.ceiling, beBytes 3 (t.stack.term.getD 0)] := by
  intro t
  have hone : (s.contactRegistered false).stack.count .utility ≠ 0 := by
    rw [contactRegistered_count, h.utility, hu]
    decide
  obtain ⟨above, e, below, hs, hsrc, ht⟩ := removeEntry_of_source hone .removed
  have ht : t = _ := ht
  rw [ht]
  refine ⟨rfl, above, e, below, hs, hsrc, rfl, ?_⟩
  have htells := postStack_tells ((s.contactRegistered false).setStack
    { (s.contactRegistered false).stack with entries := above ++ below }) .removed e
  rw [hsrc] at htells
  exact htells

/-- UTILITY stays told while the entry follows (R119). -/
theorem registerUtility_tells (s : State) (level : Bool) :
    (s.registerUtility level).Tells .utility 0 [[if level then 1#8 else 0#8]] := by
  have hposts : Posts [.stackChange] (s.contactRegistered level) (s.registerUtility level) := by
    cases level
    · exact posts_removeEntry (.refl _ _) (by decide)
    · exact posts_pushUtility (.refl _ _) (by decide)
  exact hposts.tells (by decide) tells_post_self

theorem registerUtility_contact (s : State) (level : Bool) :
    (s.registerUtility level).contact = (level, 0, 0) := by
  cases level
  · exact removeEntry_contact (s.contactRegistered false) _ _
  · exact pushUtility_contact (s.contactRegistered true)

end

end Sys2Proof.Machine

/-- Settles O46: readings that register nothing are counted by the reading of their pin, and a registration that is due
finds the UTILITY entry standing exactly when the law says so. -/
theorem keyAndUtilityChangesAreRegistered : Obligations.KeyAndUtilityChangesAreRegistered := by
  unfold Obligations.KeyAndUtilityChangesAreRegistered
  intro level s k due up
  have hexec : exec (.utilityInputChange level) s
      = .next (if s.stack.utilityDue level then s.registerUtility level else s) := rfl
  refine ⟨?_, fun b => ⟨s.boundary b, rfl, fun h => boundary_keyRun h, fun hu h => ?_, fun hu h => ?_⟩,
    fun hno => ?_, fun hdue hkept => ⟨s.registerUtility level, ?_, ?_, ?_⟩⟩
  · refine congrArg Host.Outcome.next ?_
    simp only [keyDue_iff]
    rfl
  · exact contact_eq_iff.mp (boundary_counts_asserts hu h)
  · exact contact_eq_iff.mp (boundary_counts_releases hu h)
  · rw [hexec, if_neg (mt utilityDue_iff.mp hno)]
  · rw [hexec, if_pos (utilityDue_iff.mpr hdue)]
  · exact (touches_registerUtility (by decide)).mpr (Touches.refl _ s)
  · obtain ⟨hne, -⟩ := hdue
    obtain ⟨hlevel, hasserts, hreleases⟩ := contact_eq_iff.mp (registerUtility_contact s level)
    refine ⟨hlevel, hasserts, hreleases, registerUtility_switching s level, registerUtility_tells s level, ?_, ?_⟩
    · rintro rfl
      exact registerUtility_pushes hkept.lawful (by simpa using hne.symm)
    · rintro rfl
      exact registerUtility_removes hkept.lawful (by simpa using hne.symm)
end

section
/-! PROOFS. POT_SWITCH (O47; R121): the tests in their order, and the procedure begun with its entry. -/

open Sys2Proof Sys2Proof.Machine

namespace Sys2Proof.Machine

section
variable {s : State}

/-! ### The kind asked for -/

/-- The kind of a POT_SWITCH request, whose code is 1 or 2 (R121). -/
def switchKindOf (code : Nat) : SwitchKind := if code = 1 then .cutOut else .cutIn

theorem potSwitch_badValue {payload : List Byte} (h1 : field payload 2 1 ≠ 1) (h2 : field payload 2 1 ≠ 2) :
    s.potSwitch payload = (⟨.badValue, []⟩, s) := by
  unfold State.potSwitch
  split
  · rename_i h
    exact absurd h h1
  · rename_i h
    exact absurd h h2
  · rfl

theorem potSwitch_of_code {payload : List Byte} (h : field payload 2 1 = 1 ∨ field payload 2 1 = 2) :
    s.potSwitch payload = s.beginSwitch (field payload 0 2) (switchKindOf (field payload 2 1)) := by
  unfold State.potSwitch
  rcases h with h | h <;> rw [h] <;> rfl

/-! ### The tests (R121) -/

/-- The supervisor's state, or that of the pot, does not allow a procedure of this kind (R121). -/
def State.switchBarred (s : State) (p : Nat) (kind : SwitchKind) : Bool :=
  !s.regulating || (kind == .cutOut && ((s.pot p).cutOut || s.ae.flag p)) || (kind == .cutIn && !(s.pot p).cutOut)

theorem not_regulating_iff : s.regulating = false ↔ s.sup.state = .setup ∨ s.sup.state = .safe := by
  unfold State.regulating
  cases s.sup.state <;> decide

theorem switchBarred_iff {p code : Nat} (h : code = 1 ∨ code = 2) : s.switchBarred p (switchKindOf code) = true
    ↔ s.sup.state = .setup ∨ s.sup.state = .safe ∨ code = 1 ∧ ((s.pot p).cutOut = true ∨ s.ae.flag p = true)
      ∨ code = 2 ∧ (s.pot p).cutOut = false := by
  rw [← or_assoc, ← not_regulating_iff]
  unfold State.switchBarred switchKindOf
  rcases h with rfl | rfl <;> simp

section
variable {p : Nat} {kind : SwitchKind}

theorem beginSwitch_noSuch (h : ¬ (p ∈ potNumbers ∧ (s.pot p).fitted = true)) :
    s.beginSwitch p kind = (⟨.noSuch, []⟩, s) := if_pos (not_not.mp (mt potKnown_iff.mp h))

variable (hp : p ∈ potNumbers ∧ (s.pot p).fitted = true)
include hp

theorem beginSwitch_wrongState (h : s.switchBarred p kind = true) :
    s.beginSwitch p kind = (⟨.wrongState, []⟩, s) :=
  (if_neg (potKnown_iff.mpr hp)).trans (if_pos h)

variable (hb : ¬ s.switchBarred p kind = true)
include hb

theorem beginSwitch_busy (h : s.stack.switching.phase ≠ .none) : s.beginSwitch p kind = (⟨.busy, []⟩, s) :=
  (if_neg (potKnown_iff.mpr hp)).trans ((if_neg hb).trans (if_pos (Switching.inProgress_iff.mpr h)))

variable (hidle : s.stack.switching.phase = .none)
include hidle

theorem beginSwitch_full (h : s.stack.entries.length = 8) : s.beginSwitch p kind = (⟨.stackFull, []⟩, s) :=
  (if_neg (potKnown_iff.mpr hp)).trans ((if_neg hb).trans
    ((if_neg (Bool.eq_false_iff.mp (Switching.inProgress_eq_false_iff.mpr hidle))).trans (if_pos h.ge)))

/-! ### The procedure begun (R121) -/

/-- A procedure that begins: its entry on top, its record, and both events. -/
theorem beginSwitch_begun (hnum : s.stack.Numbered) (hroom : s.stack.entries.length < 8) :
    let ceiling := min (s.cfgN .switchCeiling) s.lineMax
    s.beginSwitch p kind = (⟨.ok, beBytes 1 s.stack.newId⟩,
      ((s.setStack { s.stack with
        entries := s.entryOf .switching ceiling none none :: s.stack.entries
        nextId := s.stack.newId % 255 + 1
        switching := { s.stack.switching with
          phase := .lowering, pot := p, kind := kind, entry := s.stack.newId, accepted := some s.energy.time,
          timer := 0 } }).post .stackChange s.stack.newId
          [[1#8], [3#8], beBytes 3 ceiling, beBytes 3 (s.stack.boundBy ceiling)]).post .switch p [[1#8]]) := by
  intro ceiling
  have hpush := pushEntry_eq hnum .switching ceiling none none
  refine (if_neg (potKnown_iff.mpr hp)).trans ((if_neg hb).trans ((if_neg (Bool.eq_false_iff.mp
    (Switching.inProgress_eq_false_iff.mpr hidle))).trans ((if_neg (Nat.not_le.mpr hroom)).trans ?_)))
  show (_, State.postSwitch (State.setSwitching (s.pushEntry .switching ceiling none none) _) p [1]) = _
  rw [hpush]
  rfl

end

end

end Sys2Proof.Machine

/-- Settles O47: the tests come in the order of the request's rule, and the procedure that begins is a push with the
record and two events. -/
theorem potSwitchIsAcceptedOrRefusedInOrder : Obligations.PotSwitchIsAcceptedOrRefusedInOrder := by
  unfold Obligations.PotSwitchIsAcceptedOrRefusedInOrder
  intro f rest s h hkept p code kind k ceiling term reply refused wrong
  have hnum : s.stack.Numbered := hkept.lawful.numbered
  refine ⟨fun ⟨h1, h2⟩ => exec_answers (k := .potSwitch) rfl h (potSwitch_badValue (s := s.taken) h1 h2),
    fun hcode => ⟨fun hbad => ?_, fun hp1 hp2 hfit => ?_⟩⟩
  all_goals
    have answers : ∀ (r : Reply) (u : State), s.taken.beginSwitch p kind = (r, u) →
        exec .potSwitch s = .next (u.answer f (s.engineer f) r) := fun r u hr =>
      exec_answers (k := .potSwitch) rfl h ((potSwitch_of_code (s := s.taken) hcode).trans hr)
  · refine answers _ _ (beginSwitch_noSuch fun ⟨hmem, hfit⟩ => ?_)
    obtain ⟨hp1, hp2⟩ := mem_pots.mp hmem
    rcases hbad with h0 | h0 | h0
    · exact absurd h0 (Nat.pos_iff_ne_zero.mp hp1)
    · exact absurd h0 (Nat.not_lt.mpr hp2)
    · exact absurd (h0.symm.trans hfit) Bool.false_ne_true
  · have hp : p ∈ potNumbers ∧ (s.taken.pot p).fitted = true := ⟨mem_pots.mpr ⟨hp1, hp2⟩, hfit⟩
    have hbarred : s.taken.switchBarred p kind = true ↔ wrong := switchBarred_iff (s := s.taken) hcode
    refine ⟨fun hw => answers _ _ (beginSwitch_wrongState hp (hbarred.mpr hw)),
      fun hw hbusy => answers _ _ (beginSwitch_busy hp (mt hbarred.mp hw) hbusy),
      fun hw hidle hfull => answers _ _ (beginSwitch_full hp (mt hbarred.mp hw) hidle hfull),
      fun hw hidle hroom => ⟨k.newId, hnum.issues, ?_⟩⟩
    exact answers _ _ (beginSwitch_begun hp (mt hbarred.mp hw) hidle (s := s.taken) hnum hroom)
end

section
/-! PROOFS. A pair applied to the settings store (O15; R128, R174), and the law of the store: what SET_ITEMS leaves when
its tests have let the pairs through (R173), and that no other command writes an item (O54; R172). -/

open Sys2Proof Sys2Proof.Machine

namespace Sys2Proof.Machine

namespace Settings

/-! ### A pair applied (R128, R174) -/

section
variable {st : Settings} {i j : Item} {v : Int}

/-- A write of LINE_MAX or LINE_FLOOR re-clamps BASE_SETPOINT, and no other write does (R128). -/
def Reclamps (i : Item) : Prop := i = .lineMax ∨ i = .lineFloor

theorem apply_of_reclamps (h : Reclamps i) : st.apply i v
    = (st.put i (i.stored st v)).put .baseSetpoint
        (Item.stored .baseSetpoint (st.put i (i.stored st v)) ((st.put i (i.stored st v)).get .baseSetpoint)) :=
  if_pos h

theorem apply_of_not_reclamps (h : ¬ Reclamps i) : st.apply i v = st.put i (i.stored st v) := if_neg h

theorem ne_baseSetpoint_of_reclamps (h : Reclamps i) : i ≠ .baseSetpoint := by
  rintro rfl
  rcases h with h | h <;> cases h

/-- The item written holds what was to be stored (R174). -/
theorem get_apply_self (hw : st.wf = true) : (st.apply i v).get i = i.stored st v := by
  by_cases hi : Reclamps i
  · rw [apply_of_reclamps hi, get_put_ne _ _ (ne_baseSetpoint_of_reclamps hi), get_put_self _ _ hw]
  · rw [apply_of_not_reclamps hi, get_put_self _ _ hw]

/-- Every other item stands, but for the re-clamp (R128). -/
theorem get_apply_ne (hj : j ≠ i) (hbase : Reclamps i → j ≠ .baseSetpoint) :
    (st.apply i v).get j = st.get j := by
  by_cases hi : Reclamps i
  · rw [apply_of_reclamps hi, get_put_ne _ _ (hbase hi), get_put_ne _ _ hj]
  · rw [apply_of_not_reclamps hi, get_put_ne _ _ hj]

/-- BASE_SETPOINT is brought into the span that the write leaves (R128). -/
theorem get_apply_reclamped (hw : st.wf = true) (hi : Reclamps i) : (st.apply i v).get .baseSetpoint
    = clampInt ((st.apply i v).get .lineFloor) ((st.apply i v).get .lineMax) (st.get .baseSetpoint) := by
  rw [apply_of_reclamps hi, get_put_self _ _ (wf_put _ _ hw), get_put_ne (j := .lineFloor) _ _ (by decide),
    get_put_ne (j := .lineMax) _ _ (by decide), get_put_ne st _ (ne_baseSetpoint_of_reclamps hi).symm]
  rfl

/-- What is to be stored is the value carried, brought into the range of a clamping item (R174). -/
theorem stored_of_not_clamps (h : i.row.clamps = false) : i.stored st v = v := by
  unfold Item.stored
  rw [if_neg (by rw [h]; decide)]

theorem stored_of_range {lo hi : Int} (ha : i.row.admits = .range lo hi) (hc : i.row.clamps = true) :
    i.stored st v = clampInt lo hi v := by
  unfold Item.stored
  rw [if_pos hc, ha]

theorem stored_of_zeroToMax (ha : i.row.admits = .zeroToMax) (hc : i.row.clamps = true) :
    i.stored st v = clampInt 0 (st.get .lineMax) v := by
  unfold Item.stored
  rw [if_pos hc, ha]

end

end Settings

/-! ### What an item may hold (R128, 11.6) -/

/-- `v` is a value that the index admits while LINE_FLOOR stands at `floor` and LINE_MAX at `top`. Between two pairs of
one request `floor` may be above `top`; the span of BASE_SETPOINT is then empty, and nothing is said of it (log 18). -/
def Admits.Holds (floor top v : Int) : Admits → Prop
  | .range lo hi => lo ≤ v ∧ v ≤ hi
  | .oneOf codes => v ∈ codes
  | .deratePoint => -200 ≤ derateTemp v ∧ derateTemp v ≤ 1500 ∧ 0 ≤ derateFactor v ∧ derateFactor v ≤ 1000
  | .floorToMax => floor ≤ top → floor ≤ v ∧ v ≤ top
  | .zeroToMax => 0 ≤ v ∧ v ≤ 650000

/-- A row of the index makes sense: its range is not empty, codes and derate points are refused and never clamped, the
spans that depend on LINE_MAX clamp, and the default is admitted while LINE_FLOOR and LINE_MAX stand at theirs. -/
def ItemRow.Sound (r : ItemRow) : Prop :=
  (match r.admits with
    | .range lo hi => lo ≤ hi
    | .oneOf _ | .deratePoint => r.clamps = false
    | .floorToMax | .zeroToMax => r.clamps = true)
  ∧ r.admits.Holds 350000 600000 r.dflt

theorem ItemRow.plain_sound {lo hi d : Int} {e o : Bool} (h : lo ≤ d ∧ d ≤ hi) : (ItemRow.plain lo hi d e o).Sound :=
  ⟨h.1.trans h.2, h⟩

theorem offsetDefault_range (n : Nat) : -2000000 ≤ offsetDefault n ∧ offsetDefault n ≤ 2000000 := by
  unfold offsetDefault
  split <;> decide

theorem spanDefault_range (n : Nat) : 0 ≤ spanDefault n ∧ spanDefault n ≤ 4000000 := by
  unfold spanDefault
  repeat' split
  all_goals decide

theorem GroupItem.row_sound (x : GroupItem) : x.row.Sound := by
  cases x <;> simp [ItemRow.Sound, GroupItem.row, ItemRow.plain, ItemRow.clamping, Admits.Holds]

theorem derateDefault_holds (k : Fin 8) : -200 ≤ derateTemp (derateDefault k) ∧ derateTemp (derateDefault k) ≤ 1500
    ∧ 0 ≤ derateFactor (derateDefault k) ∧ derateFactor (derateDefault k) ≤ 1000 := by
  revert k
  decide

theorem LoopItem.row_sound (x : LoopItem) : x.row.Sound := by
  cases x with
  | derate k => exact ⟨rfl, derateDefault_holds k⟩
  | stageOn k =>
    refine ItemRow.plain_sound ?_
    split <;> decide
  | _ => exact ItemRow.plain_sound (by decide)

/-- Every row of the settings index makes sense (11.6). -/
theorem Item.row_sound (i : Item) : i.row.Sound := by
  cases i with
  | group g x => exact x.row_sound
  | loop g x => exact x.row_sound
  | telSlot k =>
    refine ItemRow.plain_sound ?_
    split <;> decide
  | offset n => exact ItemRow.plain_sound (offsetDefault_range _)
  | span n => exact ItemRow.plain_sound (spanDefault_range _)
  | _ => simp [ItemRow.Sound, Item.row, ItemRow.plain, ItemRow.clamping, Admits.Holds]

/-- BASE_SETPOINT alone has the span from LINE_FLOOR to LINE_MAX (R128). -/
theorem Item.eq_baseSetpoint {i : Item} (h : i.row.admits = .floorToMax) : i = .baseSetpoint := by
  cases i with
  | baseSetpoint => rfl
  | group g x => cases x <;> cases h
  | loop g x => cases x <;> cases h
  | _ => cases h

theorem clampInt_mem {lo hi : Int} (v : Int) (h : lo ≤ hi) : lo ≤ clampInt lo hi v ∧ clampInt lo hi v ≤ hi := by
  unfold clampInt
  omega

/-! ### The law of the store between two pairs (R128, R173, R174) -/

namespace Settings

/-- Every item holds a value that the index admits; LINE_FLOOR may stand above LINE_MAX, and the constraints between
items are not asked (R173 check 5 tests them for the last pair alone). -/
structure Admitted (st : Settings) : Prop where
  wf : st.wf = true
  holds : ∀ i : Item, i.row.admits.Holds (st.get .lineFloor) (st.get .lineMax) (st.get i)

namespace Admitted

variable {st : Settings}

theorem lineMax_le (h : st.Admitted) : 0 ≤ st.get .lineMax ∧ st.get .lineMax ≤ 650000 := h.holds .lineMax

/-- A value that passes the test of its item is stored as one that the item admits (R173 check 3, R174). -/
theorem stored (h : st.Admitted) {i : Item} {v : Int} (hv : i.accepts v = true) :
    i.row.admits.Holds (st.get .lineFloor) (st.get .lineMax) (i.stored st v) := by
  obtain ⟨hrow, _⟩ := i.row_sound
  obtain ⟨h0, hm⟩ := h.lineMax_le
  unfold Item.accepts at hv
  cases hc : i.row.clamps
  · rw [stored_of_not_clamps hc]
    cases ha : i.row.admits with
    | floorToMax | zeroToMax => simp [ha, hc] at hrow
    | range | oneOf | deratePoint => simpa [hc, ha, Admits.Holds] using hv
  · cases ha : i.row.admits with
    | range lo hi =>
      rw [ha] at hrow
      rw [stored_of_range ha hc]
      exact clampInt_mem v hrow
    | floorToMax =>
      rw [Item.eq_baseSetpoint ha]
      exact clampInt_mem v
    | zeroToMax =>
      rw [stored_of_zeroToMax ha hc]
      exact (clampInt_mem v h0).imp_right hm.trans'
    | oneOf codes => simp [ha, hc] at hrow
    | deratePoint => simp [ha, hc] at hrow

/-- A pair whose value passes the test of its item leaves every item at a value that the index admits. -/
theorem apply (h : st.Admitted) {i : Item} {v : Int} (hv : i.accepts v = true) : (st.apply i v).Admitted := by
  refine ⟨wf_apply _ _ h.wf, fun j => ?_⟩
  -- only the span of BASE_SETPOINT depends on other items
  have hspan : ∀ {k : Item} {x : Int}, k.row.admits ≠ .floorToMax →
      k.row.admits.Holds (st.get .lineFloor) (st.get .lineMax) x →
      k.row.admits.Holds ((st.apply i v).get .lineFloor) ((st.apply i v).get .lineMax) x := by
    intro k x hk hx
    cases ha : k.row.admits with
    | floorToMax => exact absurd ha hk
    | range | oneOf | deratePoint | zeroToMax => rw [ha] at hx; exact hx
  by_cases hj : j = .baseSetpoint
  · subst hj
    by_cases hi : Reclamps i
    · rw [get_apply_reclamped h.wf hi]
      exact clampInt_mem _
    · have hfloor : Item.lineFloor ≠ i := fun e => hi (.inr e.symm)
      have hmax : Item.lineMax ≠ i := fun e => hi (.inl e.symm)
      rw [get_apply_ne hfloor fun _ => by decide, get_apply_ne hmax fun _ => by decide]
      by_cases hb : i = .baseSetpoint
      · subst hb
        rw [get_apply_self h.wf]
        exact h.stored hv
      · rw [get_apply_ne (Ne.symm hb) fun hr => absurd hr hi]
        exact h.holds .baseSetpoint
  · refine hspan (fun ha => hj (Item.eq_baseSetpoint ha)) ?_
    by_cases hi : j = i
    · subst hi
      rw [get_apply_self h.wf]
      exact h.stored hv
    · rw [get_apply_ne hi fun _ => hj]
      exact h.holds j

/-- Pairs whose values pass the tests of their items, those left out that the authority may not write (R173, R174). -/
theorem after {pairs : List (Item × Int)} (h : st.Admitted) (eng : Bool)
    (hp : ∀ p ∈ pairs, p.1.accepts p.2 = true) : (st.after pairs eng).Admitted := by
  refine List.foldlRecOn (motive := Settings.Admitted) _ _ h fun b hb p hmem => ?_
  split
  · exact hb.apply (hp p hmem)
  · exact hb

end Admitted

/-! ### The constraints between items (R173 check 5) -/

theorem risingInts_get {xs : List Int} (h : risingInts xs = true) {k : Nat} {a b : Int} (ha : xs[k]? = some a)
    (hb : xs[k + 1]? = some b) : a < b := by
  induction xs generalizing k with
  | nil => cases ha
  | cons x rest ih =>
    cases rest with
    | nil => cases hb
    | cons y more =>
      unfold risingInts at h
      obtain ⟨hxy, hrest⟩ := Bool.and_eq_true_iff.mp h
      cases k with
      | zero =>
        cases ha
        cases hb
        exact of_decide_eq_true hxy
      | succ k => exact ih hrest ha hb

theorem derateTemps_get (st : Settings) (g : Group) (k : Fin 8) :
    (st.derateTemps g)[k.val]? = some (derateTemp (st.get (.loop g (.derate k)))) := by
  simp [derateTemps]

/-- A store of which the last check finds nothing broken keeps the constraints between items. -/
structure Constrained (st : Settings) : Prop where
  span : st.get .lineFloor ≤ st.get .lineMax
  hysteresis : st.get .aeOff ≤ st.get .aeOn - 500
  rising : ∀ (g : Group) (k : Fin 7),
    derateTemp (st.get (.loop g (.derate k.castSucc))) < derateTemp (st.get (.loop g (.derate k.succ)))

theorem constrained_of_broken {st : Settings} (h : st.broken = none) : st.Constrained := by
  unfold broken at h
  have hall : ∀ c ∈ st.constraints, c.2 = true := by simpa using h
  refine ⟨?_, ?_, fun g k => ?_⟩
  · exact of_decide_eq_true (hall (1, _) (List.mem_append_left _ List.mem_cons_self))
  · exact of_decide_eq_true (hall (2, _) (List.mem_append_left _ (List.mem_cons_of_mem _ List.mem_cons_self)))
  · have hg : risingInts (st.derateTemps g) = true :=
      hall (2 + g.num, _) (List.mem_append_right _ (List.mem_map.mpr ⟨g, g.mem_all, rfl⟩))
    exact risingInts_get hg (derateTemps_get st g k.castSucc) (derateTemps_get st g k.succ)

end Settings

/-! ### SET_ITEMS (R173, R174) -/

theorem writeItem_settings (s : State) (i : Item) (v : Int) :
    (s.writeItem i v).settings = s.settings.apply i v := by
  unfold State.writeItem
  exact Touches.settings (l := [.scan, .ae, .events, .stack, .cool, .sup, .energy, .reg, .link])
    ((touches_itemEffect (by decide)).mpr (Touches.refl _ _)) (by decide)

/-- The pairs carried out leave the store that the last check has looked at (R173 check 5, R174). -/
theorem foldl_step_settings (eng : Bool) (pairs : List (Item × Int)) (a : Applied) :
    (pairs.foldl (Applied.step eng) a).state.settings = a.state.settings.after pairs eng := by
  induction pairs generalizing a with
  | nil => rfl
  | cons p rest ih =>
    rw [List.foldl_cons, ih]
    unfold Settings.after
    rw [List.foldl_cons]
    congr 1
    unfold Applied.step
    split
    · exact writeItem_settings _ _ _
    · rfl

/-- What a request that is not refused has passed: every value, and every constraint (R173 checks 3 and 5). -/
theorem checked_of_refusePairs {s : State} {pairs : List (Nat × Int)} {eng : Bool} (h : s.refusePairs pairs eng = none) :
    (∀ p ∈ namedPairs pairs, p.1.accepts p.2 = true)
      ∧ (s.settings.after (namedPairs pairs) eng).broken = none := by
  unfold State.refusePairs at h
  dsimp only at h
  repeat' split at h
  all_goals try cases h
  rename_i hvalues _ _
  refine ⟨fun p hp => ?_, Option.map_eq_none_iff.mp h⟩
  simpa using List.findIdx?_eq_none_iff.mp hvalues p hp

/-! ### Every step (O54) -/

namespace State.SettingsKept

variable {s t : State}

theorem congr (h : s.SettingsKept) (hset : t.settings = s.settings) : t.SettingsKept := by
  unfold State.SettingsKept at *
  simp only [hset, cfg_congr hset]
  exact h

theorem admitted (h : s.SettingsKept) : s.settings.Admitted := by
  obtain ⟨hw, hrange, _⟩ := h
  refine ⟨hw, fun i => ?_⟩
  have hi := hrange i i.mem_all
  cases ha : i.row.admits with
  | floorToMax => rw [ha] at hi; exact fun _ => hi
  | range | oneOf | deratePoint | zeroToMax => rw [ha] at hi; exact hi

theorem of_admitted (h : s.settings.Admitted) (hc : s.settings.Constrained) : s.SettingsKept := by
  refine ⟨h.wf, fun i _ => ?_, hc.hysteresis, fun g _ k => hc.rising g k⟩
  have hi := h.holds i
  cases ha : i.row.admits with
  | floorToMax => rw [ha] at hi; exact hi hc.span
  | range | oneOf | deratePoint | zeroToMax => rw [ha] at hi; exact hi

theorem of_defaults (h : s.settings = []) : s.SettingsKept := by
  have hget : ∀ i, s.settings.get i = i.row.dflt := fun i => by rw [h]; rfl
  refine of_admitted ⟨by rw [h]; rfl, fun i => ?_⟩ ⟨?_, ?_, fun g k => ?_⟩
  · rw [hget, hget, hget]
    exact i.row_sound.2
  · rw [hget, hget]; decide
  · rw [hget, hget]; decide
  · rw [hget, hget]
    show derateTemp (derateDefault k.castSucc) < derateTemp (derateDefault k.succ)
    revert k
    decide

theorem deviceReset (s : State) (p : Pins) : (s.deviceReset p).SettingsKept := by
  refine of_defaults ?_
  unfold State.deviceReset
  exact Touches.settings (l := [.sup, .events, .link, .reg])
    ((touches_safeIfAsserted (by decide)).mpr (Touches.refl _ _)) (by decide)

theorem setItems (h : s.SettingsKept) (payload : List Byte) (eng : Bool) :
    (s.setItems payload eng).2.SettingsKept := by
  unfold State.setItems
  extract_lets count code pairs a
  split
  · exact h
  · split
    · exact h
    · rename_i hn
      obtain ⟨hvalues, hconstraints⟩ := checked_of_refusePairs hn
      have hset : a.state.settings = s.settings.after (namedPairs pairs) eng := foldl_step_settings _ _ _
      refine of_admitted ?_ ?_
      · rw [hset]
        exact h.admitted.after eng hvalues
      · rw [hset]
        exact Settings.constrained_of_broken hconstraints

end State.SettingsKept

theorem exec_settingsKept {c : Instr} {s t : State} (h : s.SettingsKept) (he : exec c s = .next t) :
    t.SettingsKept := by
  have hh : ∀ u v : State, Touches [.host] u v → u.SettingsKept → v.SettingsKept :=
    fun _ _ ht hu => hu.congr (ht.settings (by decide))
  cases c with
  | deviceReset p => cases he; exact State.SettingsKept.deviceReset s p
  | setItems => cases he; exact serve_keeps hh (fun payload eng _ hu => hu.setItems payload eng) h
  | _ => exact h.congr ((exec_touches he).settings (by simp [commandBlocks]))

end Sys2Proof.Machine

/-- Settles O54: SET_ITEMS alone writes items; pair by pair each value is one that its item admits, and after the last
pair the constraints are those that check 5 has found to hold. -/
theorem everyStepKeepsTheSettingsStore : Obligations.EveryStepKeepsTheSettingsStore := by
  unfold Obligations.EveryStepKeepsTheSettingsStore
  intro s t h hstep
  unfold step at hstep
  split at hstep
  · cases hstep
    exact h
  · rename_i rest _
    exact exec_settingsKept (s := { s with pending := rest }) h hstep

/-- Settles O15: an applied pair is one write of what is to be stored, and the re-clamp of BASE_SETPOINT. -/
theorem appliedPairReadsBackClamped : Obligations.AppliedPairReadsBackClamped := by
  unfold Obligations.AppliedPairReadsBackClamped
  intro st i v hw now within
  have hself : now.get i = i.stored st v := Settings.get_apply_self hw
  refine ⟨fun hc => ?_, fun lo hi ha hc => ?_, ?_, ?_, fun j hj hbase => ?_, fun hi _ => ?_, ?_⟩
  · exact hself.trans (Settings.stored_of_not_clamps hc)
  · exact hself.trans (Settings.stored_of_range ha hc)
  · rintro rfl _
    exact hself
  · rintro (rfl | rfl)
    · exact hself.trans (Settings.stored_of_zeroToMax rfl rfl)
    · exact hself.trans (Settings.stored_of_zeroToMax rfl rfl)
  · exact Settings.get_apply_ne hj hbase
  · exact Settings.get_apply_reclamped hw hi
  · exact Settings.wf_apply i v hw
end

section
/-! PROOFS. The periodic cycle in its stages (R129 to R141): the credits grown, the target stored with what that reports,
and the tracking supervision; and the statements O22 and O24. -/

open Sys2Proof Sys2Proof.Machine

namespace Sys2Proof.Machine

section
variable {s : State} {periodic apart : Bool} {keep : EventKind → Nat → Bool}

/-! ### The stages of a periodic cycle (R131) -/

/-- The state in which a periodic cycle has stored target and shares, before the tracking supervision (R131). -/
def State.steered (s : State) : State := s.grown.setTarget true

theorem exec_periodicCycle_of_running (h : s.reg.cycleTimer = true) :
    exec (.periodicCycle apart) s = .next (s.cycle true apart) := congrArg Host.Outcome.next (if_pos h)

theorem exec_periodicCycle_of_stopped (h : s.reg.cycleTimer = false) : exec (.periodicCycle apart) s = .next s :=
  congrArg Host.Outcome.next (if_neg (by simp [h]))

/-- The state in which the tracking counts have been advanced and the flag stands (R141). -/
def State.counted (s : State) : State := s.steered.countTracking

theorem periodicCycle_apart (h : s.regulating = true) : s.cycle true true = s.counted := by
  simp [State.cycle, h, State.when, State.counted, State.steered, State.grown]

theorem periodicCycle_whole (h : s.regulating = true) : s.cycle true false = s.counted.evalTracking := by
  simp [State.cycle, h, State.when, State.counted, State.steered, State.grown]

theorem touches_steered : Touches [.cool, .energy, .events, .reg, .link] s s.steered :=
  (touches_setTarget (by decide)).mpr (touches_grown.mono (by decide))

theorem touches_countTracking_self (s : State) : Touches [.reg] s s.countTracking :=
  (touches_countTracking (by decide)).mpr (Touches.refl _ _)

theorem touches_counted : Touches [.cool, .energy, .events, .reg, .link] s s.counted :=
  touches_steered.trans ((touches_countTracking_self _).mono (by decide))

theorem touches_supervised (h : s.regulating = true) : Touches [.reg, .events] s.steered (s.cycle true apart) := by
  have hcount : Touches [.reg, .events] s.steered s.counted := (touches_countTracking_self _).mono (by decide)
  cases apart
  · rw [periodicCycle_whole h]
    exact (touches_evalTracking (by decide)).mpr hcount
  · rw [periodicCycle_apart h]
    exact hcount

/-- Growing the credits changes the loops' block alone. -/
theorem grown_eq (s : State) : s.grown = s.setCool s.grown.cool := by
  have hcool : ∃ c, s.grown = s.setCool c := by
    refine List.foldlRecOn (motive := fun t => ∃ c, t = s.setCool c) _ _ ⟨s.cool, rfl⟩ fun t ⟨c, ht⟩ g _ => ?_
    subst ht
    unfold State.growCredit
    dsimp only
    split
    · exact ⟨_, rfl⟩
    · exact ⟨c, rfl⟩
  obtain ⟨c, h⟩ := hcool
  rw [h]
  rfl

theorem grown_reg (s : State) : s.grown.reg = s.reg := touches_grown.reg (by decide)

theorem grown_desiredTarget (s : State) : s.grown.desiredTarget = s.desiredTarget := by rw [grown_eq]; rfl

theorem grown_governingTerm (s : State) (d : Nat) : s.grown.governingTerm d = s.governingTerm d := by
  rw [grown_eq]; rfl

theorem grown_newTarget (s : State) (d : Nat) (gov : Governing) :
    s.grown.newTarget periodic d gov = s.newTarget periodic d gov := by rw [grown_eq]; rfl

/-- The ramp of a periodic cycle reads nothing that growing the credits changes (R133 to R135). -/
theorem grown_ramp (s : State) :
    s.grown.newTarget true s.grown.desiredTarget (s.grown.governingTerm s.grown.desiredTarget)
      = s.newTarget true s.desiredTarget (s.governingTerm s.desiredTarget) := by
  rw [grown_desiredTarget, grown_governingTerm, grown_newTarget]

theorem grown_sumFrozen (s : State) : s.grown.sumFrozen = s.sumFrozen := by rw [grown_eq]; rfl

/-! ### What storing a target reports (R135, R138) -/

/-- CAPACITY_LIMITED becomes SET in this cycle (R138). -/
def State.LimitBegins (s : State) (periodic : Bool) : Prop :=
  s.sumAllocation + s.sumFrozen < (s.newTarget periodic s.desiredTarget (s.governingTerm s.desiredTarget)).target
    ∧ s.reg.limited = false

theorem leaves_setTarget (h : keep .capacityLimit 0 = false ∨ ¬ s.LimitBegins periodic) :
    Leaves keep s (s.setTarget periodic) := by
  rw [setTarget_eq]
  refine Leaves.trans (t := s.cycleReported periodic) ?_ (.of_events (touches_writeShares.events (by decide)))
  have hmark : ∀ c : Bool, Leaves keep s (s.when c State.markAeHeld) := fun c => by
    cases c
    · exact .refl keep s
    · exact .of_events rfl
  unfold State.cycleReported
  extract_lets ramp
  unfold State.when
  split
  · rename_i hc
    refine leaves_post (hmark _) (h.resolve_right fun hn => hn ?_)
    simpa [State.LimitBegins] using hc
  · exact hmark _

theorem setTarget_tells (h : s.LimitBegins periodic) : (s.setTarget periodic).Tells .capacityLimit 0
    [beSigned 4 ((s.desiredTarget : Int) - (s.cycleTarget periodic : Int))] := by
  rw [setTarget_eq, tells_congr (touches_writeShares.events (by decide))]
  refine (tells_congr (s := s.cycleReported periodic) rfl).mpr ?_
  unfold State.cycleReported
  extract_lets ramp
  have hc : (decide (s.sumAllocation + s.sumFrozen < ramp.target) && !s.reg.limited) = true := by
    simpa [State.LimitBegins] using h
  rw [hc]
  exact tells_post_self

/-- Of the energy unit a cycle marks the open interval at most (R135, R158). -/
theorem setTarget_energy (s : State) (periodic : Bool) : (s.setTarget periodic).energy
    = if (s.newTarget periodic s.desiredTarget (s.governingTerm s.desiredTarget)).report then s.markAeHeld.energy
      else s.energy := by
  rw [setTarget_eq, touches_writeShares.energy (by decide), State.setReg_energy]
  unfold State.cycleReported State.when
  dsimp only
  split <;> split <;> rfl

/-! ### Tracking supervision (R141) -/

/-- The line current is further from the applied target than TRACK_TOL (R141). -/
def State.OffTarget (s : State) : Prop :=
  let off := (s.front.line.current : Int) - s.reg.applied
  (s.cfgN .trackTol : Int) < off ∨ off < -(s.cfgN .trackTol : Int)

theorem offTarget_iff : s.OffTarget ↔ s.cfgN .trackTol < distance s.front.line.current s.reg.applied := by
  unfold State.OffTarget distance
  omega

theorem countTracking_of_off (h : s.OffTarget) :
    s.countTracking.reg = { s.reg with outside := satInc 10 s.reg.outside, inside := 0 } :=
  if_pos (offTarget_iff.mp h)

theorem countTracking_of_not_off (h : ¬ s.OffTarget) :
    s.countTracking.reg = { s.reg with inside := satInc 10 s.reg.inside, outside := 0 } :=
  if_neg (mt offTarget_iff.mpr h)

/-- A count has reached 10 against the flag (R141). -/
abbrev Regulator.TrackingDue (r : Regulator) : Prop := if r.tracking then 10 ≤ r.inside else 10 ≤ r.outside

theorem trackingDue_iff {r : Regulator} :
    r.TrackingDue ↔ (if r.tracking then decide (10 ≤ r.inside) else decide (10 ≤ r.outside)) = true := by
  unfold Regulator.TrackingDue
  split <;> exact decide_eq_true_iff.symm

theorem evalTracking_of_due (h : s.reg.TrackingDue) : s.evalTracking
    = (s.setReg { s.reg with tracking := !s.reg.tracking }).post .tracking 0
        [flagByte (!s.reg.tracking), beBytes 3 s.front.line.current, beBytes 3 s.reg.applied] :=
  if_pos (trackingDue_iff.mp h)

theorem evalTracking_of_not_due (h : ¬ s.reg.TrackingDue) : s.evalTracking = s :=
  if_neg (mt trackingDue_iff.mpr h)

theorem leaves_evalTracking (h : keep .tracking 0 = false ∨ ¬ s.reg.TrackingDue) : Leaves keep s s.evalTracking := by
  by_cases hd : s.reg.TrackingDue
  · rw [evalTracking_of_due hd]
    exact leaves_post (.of_events rfl) (h.resolve_right fun hn => hn hd)
  · rw [evalTracking_of_not_due hd]
    exact .refl keep s

theorem evalTracking_reg_eq (s : State) : s.evalTracking.reg = { s.reg with
    tracking := if s.reg.tracking then decide (s.reg.inside < 10) else decide (10 ≤ s.reg.outside) } := by
  by_cases hd : s.reg.TrackingDue
  · rw [evalTracking_of_due hd, State.post_reg, State.setReg_reg]
    unfold Regulator.TrackingDue at hd
    cases ht : s.reg.tracking <;> simpa [ht] using hd
  · rw [evalTracking_of_not_due hd]
    unfold Regulator.TrackingDue at hd
    have hsame : (if s.reg.tracking then decide (s.reg.inside < 10) else decide (10 ≤ s.reg.outside))
        = s.reg.tracking := by
      cases ht : s.reg.tracking <;> simpa [ht] using hd
    rw [hsame]

/-- The change of the flag is told with the flag as it then stands (R141). -/
theorem evalTracking_tells (h : s.evalTracking.reg.tracking ≠ s.reg.tracking) : s.evalTracking.Tells .tracking 0
    [flagByte s.evalTracking.reg.tracking, beBytes 3 s.front.line.current, beBytes 3 s.reg.applied] := by
  by_cases hd : s.reg.TrackingDue
  · rw [evalTracking_of_due hd]
    exact tells_post_self
  · exact absurd (by rw [evalTracking_of_not_due hd]) h

theorem not_trackingDue_of_same (h : s.evalTracking.reg.tracking = s.reg.tracking) : ¬ s.reg.TrackingDue := by
  intro hd
  rw [evalTracking_of_due hd] at h
  exact Bool.not_ne_self _ h

/-! ### A periodic cycle as its stages leave it -/

theorem steered_reg (s : State) : s.steered.reg = s.grown.cycleRecord true := setTarget_reg _ _

/-- Storing the target leaves the fields of the tracking supervision (R131). -/
theorem steered_supervision (s : State) : s.steered.reg.tracking = s.reg.tracking
    ∧ s.steered.reg.outside = s.reg.outside ∧ s.steered.reg.inside = s.reg.inside := by
  rw [steered_reg]
  unfold State.cycleRecord
  simp only [grown_reg, and_self]

/-- Advancing the counts leaves the target and the flag. -/
theorem countTracking_frame (s : State) : s.countTracking.reg.applied = s.reg.applied
    ∧ s.countTracking.reg.tracking = s.reg.tracking := by
  obtain ⟨o, i, e⟩ := countTracking_reg s
  rw [e]
  exact ⟨rfl, rfl⟩

theorem counted_tracking (s : State) : s.counted.reg.tracking = s.reg.tracking :=
  (countTracking_frame s.steered).2.trans (steered_supervision s).1

theorem steered_offTarget : s.steered.OffTarget ↔ s.counted.OffTarget := by
  obtain ⟨happlied, _⟩ := countTracking_frame s.steered
  unfold State.OffTarget State.counted
  rw [cfgN_congr ((touches_countTracking_self _).settings (by decide)),
    (touches_countTracking_self _).front (by decide), happlied]

theorem counted_of_off (h : s.counted.OffTarget) :
    s.counted.reg.outside = satInc 10 s.reg.outside ∧ s.counted.reg.inside = 0 := by
  obtain ⟨_, ho, _⟩ := steered_supervision s
  unfold State.counted
  rw [countTracking_of_off (steered_offTarget.mpr h), ho]
  exact ⟨rfl, rfl⟩

theorem counted_of_not_off (h : ¬ s.counted.OffTarget) :
    s.counted.reg.inside = satInc 10 s.reg.inside ∧ s.counted.reg.outside = 0 := by
  obtain ⟨_, _, hi⟩ := steered_supervision s
  unfold State.counted
  rw [countTracking_of_not_off (mt steered_offTarget.mp h), hi]
  exact ⟨rfl, rfl⟩

theorem leaves_counted (hk : keep .capacityLimit 0 = false) : Leaves keep s s.counted :=
  ((Leaves.of_touches touches_grown (by decide)).trans (leaves_setTarget (.inl hk))).trans
    (.of_touches (touches_countTracking_self _) (by decide))

/-- But for the flag a periodic cycle leaves the record as the counts have left it (R141). -/
theorem periodicCycle_counted (h : s.regulating = true) : (s.cycle true apart).reg = { s.counted.reg with
    tracking := if apart then s.reg.tracking
      else if s.reg.tracking then decide (s.counted.reg.inside < 10) else decide (10 ≤ s.counted.reg.outside) } := by
  cases apart
  · rw [periodicCycle_whole h, evalTracking_reg_eq, counted_tracking]
    rfl
  · rw [periodicCycle_apart h, if_pos rfl, ← counted_tracking s]

/-- A change of the flag is told, with the current and the target that it rests on (R141). -/
theorem periodicCycle_tells (h : s.regulating = true) (hne : (s.cycle true apart).reg.tracking ≠ s.reg.tracking) :
    (s.cycle true apart).Tells .tracking 0 [flagByte (s.cycle true apart).reg.tracking,
      beBytes 3 s.front.line.current, beBytes 3 s.counted.reg.applied] := by
  cases apart
  · rw [periodicCycle_whole h] at hne ⊢
    have htold := evalTracking_tells (s := s.counted) (by rwa [counted_tracking])
    rwa [touches_counted.front (by decide)] at htold
  · rw [periodicCycle_apart h] at hne
    exact absurd (counted_tracking s) hne

theorem periodicCycle_untold (h : s.regulating = true) (hsame : (s.cycle true apart).reg.tracking = s.reg.tracking) :
    Leaves (ofKind .tracking) s (s.cycle true apart) := by
  have hcount : Leaves (ofKind .tracking) s s.counted := leaves_counted rfl
  cases apart
  · rw [periodicCycle_whole h] at hsame ⊢
    exact hcount.trans (leaves_evalTracking (.inr (not_trackingDue_of_same (hsame.trans (counted_tracking s).symm))))
  · rw [periodicCycle_apart h]
    exact hcount

end

end Sys2Proof.Machine

/-- Settles O24: the counts are those of the supervision of the target just stored, and the flag changes, with its
event, when one of them has reached 10 against it. -/
theorem trackingFollowsTenCyclesInARow : Obligations.TrackingFollowsTenCyclesInARow := by
  unfold Obligations.TrackingFollowsTenCyclesInARow
  refine ⟨fun s apart htimer hs => ?_, fun s => ⟨fun hd => ?_, fun hd => ?_⟩⟩
  · have hreg : s.regulating = true := regulating_iff.mpr hs
    refine ⟨s.cycle true apart, exec_periodicCycle_of_running htimer, ?_⟩
    have ht := periodicCycle_counted (apart := apart) hreg
    have happlied : (s.cycle true apart).reg.applied = s.counted.reg.applied := by rw [ht]
    have houtside : (s.cycle true apart).reg.outside = s.counted.reg.outside := by rw [ht]
    have hinside : (s.cycle true apart).reg.inside = s.counted.reg.inside := by rw [ht]
    have hflag := congrArg Regulator.tracking ht
    intro off outside up
    have hoff : s.counted.OffTarget ↔ outside := by
      unfold State.OffTarget
      rw [cfgN_congr (touches_counted.settings (by decide)), touches_counted.front (by decide), ← happlied]
    rw [houtside, hinside]
    refine ⟨fun h => counted_of_off (hoff.mpr h), fun h => counted_of_not_off (mt hoff.mp h), ?_, ?_, fun hne => ?_, ?_⟩
    · rintro rfl
      exact hflag
    · rintro rfl
      exact hflag
    · rw [happlied]
      exact periodicCycle_tells hreg hne
    · intro told hsame
      exact (periodicCycle_untold hreg hsame).entries
  · refine congrArg Host.Outcome.next ((evalTracking_of_due hd).trans ?_)
    unfold flagByte
    cases s.reg.tracking <;> rfl
  · exact congrArg Host.Outcome.next (evalTracking_of_not_due hd)
end

section
/-! PROOFS. The target of a periodic cycle as the rules put it (O22; R81, R131 to R138). -/

open Sys2Proof Sys2Proof.Machine

namespace Sys2Proof.Machine

section
variable {s : State} {periodic apart : Bool}

/-! ### The desired target and its governing term (R132, R134) -/

theorem minWith_eq_foldl (a : Nat) (o : Option Nat) : minWith a o = o.toList.foldl min a := by cases o <;> rfl

theorem desiredTarget_eq_foldl (s : State) : s.desiredTarget
    = (s.stack.term.toList ++ s.enteringTrim.toList).foldl min (min (s.cfgN .baseSetpoint) s.lineMax) := by
  unfold State.desiredTarget
  rw [minWith_eq_foldl, minWith_eq_foldl, List.foldl_append]

theorem downRate_top (s : State) :
    s.downRate .top = (s.stack.entries.head?.bind (·.rate)).getD (s.cfgN .rampDown) := by
  unfold State.downRate
  dsimp only
  cases s.stack.entries.head?.bind (·.rate) <;> rfl

/-! ### The new target (R133 to R136) -/

/-- The new target of a periodic cycle and its last step, case by case. -/
theorem newTarget_periodic (s : State) (d : Nat) (gov : Governing) :
    ((s.newTarget true d gov).target, (s.newTarget true d gov).step)
      = if s.sup.state = .hold then (s.reg.previous, .heldState)
        else if s.reg.previous < d ∧ s.ae.hold = true then (s.reg.previous, .heldAe)
        else if s.reg.previous < d then (min d (s.reg.previous + rampAmps (s.cfgN .rampUp)), .up)
        else if s.reg.previous = d then (s.reg.previous, .none)
        else if s.ae.hold = true ∧ gov ≠ .utility then (s.reg.previous, .heldAe)
        else (max d (s.reg.previous - rampAmps (s.downRate gov)), .down) := by
  unfold State.newTarget
  by_cases hhold : s.sup.state = .hold
  · rw [if_pos hhold, if_pos hhold]
  · rw [if_neg hhold, if_neg hhold, if_pos rfl]
    unfold State.ramp
    dsimp only
    rcases lt_trichotomy s.reg.previous d with hlt | heq | hgt
    · cases hae : s.ae.hold <;> simp [hlt]
    · simp [heq]
    · have hnlt : ¬ s.reg.previous < d := Nat.not_lt.mpr hgt.le
      have hne : s.reg.previous ≠ d := Nat.ne_of_gt hgt
      cases hae : s.ae.hold <;> by_cases hg : gov = .utility <;> simp [hnlt, hne, hgt, hg]

/-- A withheld step is reported to the energy unit when it leads down and the trim governs it (R135). -/
theorem newTarget_report_iff (s : State) (d : Nat) (gov : Governing) : (s.newTarget true d gov).report = true
    ↔ s.sup.state ≠ .hold ∧ d < s.reg.previous ∧ s.ae.hold = true ∧ gov = .trim := by
  unfold State.newTarget
  by_cases hhold : s.sup.state = .hold
  · simp [hhold]
  · rw [if_neg hhold, if_pos rfl]
    unfold State.ramp
    dsimp only
    rcases lt_trichotomy s.reg.previous d with hlt | heq | hgt
    · have hngt : ¬ d < s.reg.previous := Nat.not_lt.mpr hlt.le
      cases hae : s.ae.hold <;> simp [hlt, hngt]
    · simp [heq]
    · have hnlt : ¬ s.reg.previous < d := Nat.not_lt.mpr hgt.le
      cases hae : s.ae.hold <;> cases gov <;> simp [hnlt, hgt, hhold]

/-! ### Capacity and frozen current (R81, R137) -/

theorem grownCap_bounded (s : State) (g : Group) (h : s.allocatable g = true) :
    min (s.grownCap g).capacity (s.grownCap g).credit = (s.grownCap g).credit := by
  simp [State.grownCap, h]

theorem periodicCycle_coolOf (h : s.regulating = true) (g : Group) :
    (s.cycle true apart).coolOf g = { s.coolOf g with cap := s.grownCap g } :=
  (coolOf_congr (periodicCycle_cool apart h) g).trans (grown_coolOf s g)

theorem grown_sumAllocation (s : State) : s.grown.sumAllocation = (Group.all.map fun g =>
    if s.allocatable g ∧ s.holdsStop g = false ∧ (s.coolOf g).cap.unloading = false then (s.grownCap g).credit
    else 0).sum := by
  unfold State.sumAllocation groupSum
  refine congrArg List.sum (List.map_congr_left fun g _ => ?_)
  rw [allocTerm_eq, grown_coolOf, allocatable_of_touches_cool touches_grown]
  have hstop : s.grown.holdsStop g = s.holdsStop g := by rw [grown_eq]; rfl
  have hunload : (s.grownCap g).unloading = (s.coolOf g).cap.unloading := rfl
  rw [hstop, hunload]
  by_cases hg : s.allocatable g = true ∧ s.holdsStop g = false ∧ (s.coolOf g).cap.unloading = false
  · obtain ⟨ha, _⟩ := id hg
    rw [if_pos hg, if_pos hg, grownCap_bounded s g ha]
  · rw [if_neg hg, if_neg hg]

/-! ### What the cycle stores and tells (R131, R138) -/

/-- The fields that steps 2 to 6 of a cycle store, one by one. -/
theorem cycleRecord_fields (s : State) (periodic : Bool) :
    let ramp := s.newTarget periodic s.desiredTarget (s.governingTerm s.desiredTarget)
    let r := s.cycleRecord periodic
    r.applied = s.cycleTarget periodic ∧ r.previous = s.cycleTarget periodic ∧ r.desired = s.desiredTarget
      ∧ r.governing = s.governingTerm s.desiredTarget ∧ r.lastStep = ramp.step
      ∧ r.limited = decide (s.sumAllocation + s.sumFrozen < ramp.target)
      ∧ r.capacityC = s.sumAllocation ∧ r.frozenZ = s.sumFrozen
      ∧ r.amount = s.cycleTarget periodic - s.sumFrozen := by
  unfold State.cycleRecord
  exact ⟨rfl, rfl, rfl, rfl, rfl, rfl, rfl, rfl, rfl⟩

theorem periodicCycle_record (h : s.regulating = true) : ∃ f o i, (s.cycle true apart).reg
    = { s.grown.cycleRecord true with tracking := f, outside := o, inside := i } := by
  rw [← setTarget_reg]
  exact periodicCycle_reg apart h

/-- What a periodic cycle stores, read of the state before it but for the capacities, which rest on the credits grown. -/
theorem periodicCycle_fields (h : s.regulating = true) :
    let ramp := s.newTarget true s.desiredTarget (s.governingTerm s.desiredTarget)
    let limit := s.grown.sumAllocation + s.sumFrozen
    let r := (s.cycle true apart).reg
    r.desired = s.desiredTarget ∧ r.governing = s.governingTerm s.desiredTarget ∧ r.lastStep = ramp.step
      ∧ r.capacityC = s.grown.sumAllocation ∧ r.frozenZ = s.sumFrozen ∧ r.applied = min ramp.target limit
      ∧ r.previous = min ramp.target limit ∧ r.limited = decide (limit < ramp.target) := by
  intro ramp limit r
  obtain ⟨f, o, i, hrec⟩ := periodicCycle_record (apart := apart) h
  obtain ⟨happlied, hprev, hdesired, hgov, hstep, hlimited, hcap, hfrozen, _⟩ := cycleRecord_fields s.grown true
  have hcycle : s.grown.cycleTarget true = min ramp.target limit := by
    unfold State.cycleTarget
    rw [grown_ramp, grown_sumFrozen]
  rw [grown_ramp] at hstep hlimited
  rw [hcycle] at happlied hprev
  rw [grown_sumFrozen] at hfrozen hlimited
  rw [grown_desiredTarget] at hdesired hgov
  rw [grown_governingTerm] at hgov
  simp only [r, hrec]
  exact ⟨hdesired, hgov, hstep, hcap, hfrozen, happlied, hprev, hlimited⟩

theorem grown_limitBegins_iff : s.grown.LimitBegins true
    ↔ s.grown.sumAllocation + s.sumFrozen
          < (s.newTarget true s.desiredTarget (s.governingTerm s.desiredTarget)).target
        ∧ s.reg.limited = false := by
  unfold State.LimitBegins
  rw [grown_ramp, grown_sumFrozen, grown_reg]

theorem periodicCycle_energy (h : s.regulating = true) : (s.cycle true apart).energy
    = if (s.newTarget true s.desiredTarget (s.governingTerm s.desiredTarget)).report then s.markAeHeld.energy
      else s.energy := by
  rw [(touches_supervised h).energy (by decide)]
  unfold State.steered
  rw [setTarget_energy, grown_ramp]
  unfold State.markAeHeld
  simp only [State.setEnergy_energy, touches_grown.energy (s := s) (by decide)]

theorem leaves_supervision {keep : EventKind → Nat → Bool} (h : s.regulating = true) (hk : keep .tracking 0 = false) :
    Leaves keep s.steered (s.cycle true apart) := by
  have hcount : Leaves keep s.steered s.counted := .of_touches (touches_countTracking_self _) (by decide)
  cases apart
  · rw [periodicCycle_whole h]
    exact hcount.trans (leaves_evalTracking (.inl hk))
  · rw [periodicCycle_apart h]
    exact hcount

theorem periodicCycle_limit_tells (h : s.regulating = true) (hl : s.grown.LimitBegins true) :
    (s.cycle true apart).Tells .capacityLimit 0
      [beSigned 4 ((s.desiredTarget : Int) - ((s.cycle true apart).reg.applied : Int))] := by
  obtain ⟨f, o, i, hrec⟩ := periodicCycle_record (apart := apart) h
  obtain ⟨happlied, _⟩ := cycleRecord_fields s.grown true
  rw [← grown_desiredTarget, congrArg Regulator.applied hrec]
  dsimp only
  rw [happlied]
  exact (leaves_supervision (keep := ofKind .capacityLimit) h rfl).tells rfl (setTarget_tells hl)

theorem periodicCycle_limit_untold (h : s.regulating = true) (hl : ¬ s.grown.LimitBegins true) :
    Leaves (ofKind .capacityLimit) s (s.cycle true apart) :=
  ((Leaves.of_touches touches_grown (by decide)).trans (leaves_setTarget (.inr hl))).trans (leaves_supervision h rfl)

end

end Sys2Proof.Machine

/-- Settles O22: the target of the cycle is the new target of the ramp brought down to C + Z, and the reports are those
that the cycle makes before it stores. -/
theorem periodicCycleRampsAndClampsTheTarget : Obligations.PeriodicCycleRampsAndClampsTheTarget := by
  unfold Obligations.PeriodicCycleRampsAndClampsTheTarget
  intro s apart
  refine ⟨exec_periodicCycle_of_stopped, fun hs => ?_, fun htimer hs => ?_⟩
  · have hn : s.regulating = false := by rcases hs with h | h <;> simp [State.regulating, h]
    refine congrArg Host.Outcome.next ?_
    rw [cycle_of_not_regulating hn, ite_self]
  · have hreg : s.regulating = true := regulating_iff.mpr hs
    refine ⟨s.cycle true apart, exec_periodicCycle_of_running htimer, (touches_cycle (by decide)).mpr (Touches.refl _ _),
      fun g => ?_, ?_⟩
    · rw [periodicCycle_coolOf hreg]
      refine ⟨rfl, ?_⟩
      unfold State.grownCap
      dsimp only
      split <;> rfl
    · intro trim ceiling top base d gov rate prev new c z withheld i told
      have hd : s.desiredTarget = d := desiredTarget_eq_foldl s
      have hgov : s.governingTerm d = gov := rfl
      have hrate : s.downRate gov = rate := by
        clear_value gov
        cases gov with
        | top => exact downRate_top s
        | _ => rfl
      have hnew : ((s.newTarget true d gov).target, (s.newTarget true d gov).step) = new := by
        rw [newTarget_periodic, hrate]
        rfl
      have htarget : (s.newTarget true d gov).target = new.1 := congrArg Prod.fst hnew
      have hstep : (s.newTarget true d gov).step = new.2 := congrArg Prod.snd hnew
      have hreport : (s.newTarget true d gov).report = true ↔ withheld := by
        rw [newTarget_report_iff]
        refine and_congr_left fun _ => ?_
        rcases hs with h | h <;> simp [h]
      have hc : s.grown.sumAllocation = c := by
        rw [grown_sumAllocation]
        simp only [c, periodicCycle_coolOf hreg]
      obtain ⟨hdesired, hgoverning, hlast, hcap, hfrozen, happlied, hprev, hlimited⟩ :=
        periodicCycle_fields (apart := apart) hreg
      have hz : s.sumFrozen = z := rfl
      have hlimit := grown_limitBegins_iff (s := s)
      rw [hd] at hgoverning hlast happlied hprev hlimited hlimit
      rw [hgov] at hlast happlied hprev hlimited hlimit
      rw [htarget, hc, hz] at happlied hprev hlimited hlimit
      refine ⟨hdesired.trans hd, hgoverning, hlast.trans hstep, hcap.trans hc, hfrozen, happlied,
        hprev.trans happlied.symm, hlimited, ?_, fun hlt hoff => ?_, fun hn => ?_⟩
      · rw [periodicCycle_energy hreg, hd, hgov]
        exact if_congr hreport rfl rfl
      · rw [← hd]
        exact periodicCycle_limit_tells hreg (hlimit.mpr ⟨hlt, hoff⟩)
      · refine (periodicCycle_limit_untold hreg fun hl => ?_).entries
        obtain ⟨hlt, hoff⟩ := hlimit.mp hl
        rcases hn with h | h
        · exact absurd hlt (Nat.not_lt.mpr h)
        · exact Bool.false_ne_true (hoff.symm.trans h)
end

section
/-! PROOFS. The allocation of a cycle (O23; R137, R139, R140): what giving out a remainder gives each group, that it gives
out the whole amount, and where the shares are recorded. -/

open Sys2Proof Sys2Proof.Machine

namespace Sys2Proof.Machine

/-! ### Giving out a remainder (R139) -/

/-- The quotient of an item lies below its allocation capacity, so that the item takes 1 A of the remainder. -/
def fallsShort (x : Group × Nat × Nat) : Bool := decide (x.2.2 < x.2.1)

theorem giveOut_cons (r : Nat) (g : Group) (a q : Nat) (rest : List (Group × Nat × Nat)) :
    giveOut r ((g, a, q) :: rest)
      = (g, q + if q < a ∧ 0 < r then 1 else 0) :: giveOut (r - if q < a then 1 else 0) rest := by
  conv_lhs => unfold giveOut
  by_cases h : 0 < r ∧ q < a
  · obtain ⟨hr, hq⟩ := id h
    rw [if_pos h, if_pos ⟨hq, hr⟩, if_pos hq]
  · rw [if_neg h, if_neg fun hc => h hc.symm]
    have hrest : (r - if q < a then 1 else 0) = r := by split <;> omega
    rw [hrest]
    rfl

/-- An item gets 1 A above its quotient when it falls short and the items before it leave some of the remainder. -/
theorem mem_giveOut {r : Nat} {items : List (Group × Nat × Nat)} {y : Group × Nat} (hy : y ∈ giveOut r items) :
    ∃ before g a q after, items = before ++ (g, a, q) :: after
      ∧ y = (g, q + if q < a ∧ before.countP fallsShort < r then 1 else 0) := by
  induction items generalizing r with
  | nil => exact absurd hy List.not_mem_nil
  | cons x rest ih =>
    obtain ⟨g, a, q⟩ := x
    rw [giveOut_cons] at hy
    rcases List.mem_cons.mp hy with rfl | hy
    · exact ⟨[], g, a, q, rest, rfl, rfl⟩
    · obtain ⟨before, g', a', q', after, rfl, rfl⟩ := ih hy
      refine ⟨(g, a, q) :: before, g', a', q', after, rfl, ?_⟩
      simp only [List.countP_cons, fallsShort, decide_eq_true_eq, Nat.lt_sub_iff_add_lt]

theorem giveOut_zero (items : List (Group × Nat × Nat)) : giveOut 0 items = items.map fun x => (x.1, x.2.2) := by
  induction items with
  | nil => rfl
  | cons x rest ih =>
    unfold giveOut
    rw [if_neg (by omega), ih]
    rfl

/-! ### The quotients give out all but a remainder that the short ones take (R139) -/

section
variable {α : Type} {cap : α → Nat} {amount total : Nat}

/-- One quotient, or one above it where it is short, is no less than the proportional part. -/
theorem mul_le_quotient {a : Nat} (hle : amount ≤ total) (hpos : 0 < total) :
    amount * a ≤ total * (amount * a / total + if amount * a / total < a then 1 else 0) := by
  split
  · exact (Nat.lt_mul_div_succ _ hpos).le
  · exact (Nat.mul_le_mul_right a hle).trans (Nat.mul_le_mul_left total (Nat.not_lt.mp ‹_›))

theorem mul_sum_le (hle : amount ≤ total) (hpos : 0 < total) (xs : List α) :
    amount * (xs.map cap).sum ≤ total * ((xs.map fun x => amount * cap x / total).sum
      + xs.countP fun x => decide (amount * cap x / total < cap x)) := by
  induction xs with
  | nil => simp
  | cons x xs ih =>
    have hx := mul_le_quotient (a := cap x) hle hpos
    simp only [List.map_cons, List.sum_cons, List.countP_cons, decide_eq_true_eq]
    calc amount * (cap x + (xs.map cap).sum)
        = amount * cap x + amount * (xs.map cap).sum := Nat.mul_add ..
      _ ≤ _ := Nat.add_le_add hx ih
      _ = _ := by rw [← Nat.mul_add]; congr 1; omega

theorem sum_mul_le (xs : List α) :
    total * (xs.map fun x => amount * cap x / total).sum ≤ amount * (xs.map cap).sum := by
  induction xs with
  | nil => simp
  | cons x xs ih =>
    simp only [List.map_cons, List.sum_cons, Nat.mul_add]
    exact Nat.add_le_add (Nat.mul_div_le _ _) ih

/-- Quotients and remainder make up the amount, and there are enough short quotients to take the remainder. -/
theorem quotients_complete {xs : List α} (htotal : (xs.map cap).sum = total) (hle : amount ≤ total) :
    let given := (xs.map fun x => amount * cap x / total).sum
    given + min (amount - given) (xs.countP fun x => decide (amount * cap x / total < cap x)) = amount := by
  intro given
  rcases Nat.eq_zero_or_pos total with h0 | hpos
  · have hg : given = 0 := by simp [given, h0]
    omega
  · have hlow : given ≤ amount := by
      have h := sum_mul_le (cap := cap) (amount := amount) (total := total) xs
      rw [htotal, Nat.mul_comm amount] at h
      exact Nat.le_of_mul_le_mul_left h hpos
    have hhigh : amount ≤ given + xs.countP fun x => decide (amount * cap x / total < cap x) := by
      have h := mul_sum_le (cap := cap) hle hpos xs
      rw [htotal, Nat.mul_comm amount] at h
      exact Nat.le_of_mul_le_mul_left h hpos
    omega

/-- What is 0 wherever `p` fails may be summed over the elements of `p`. -/
theorem sum_map_filter {p : α → Bool} {f : α → Nat} (h : ∀ x, p x = false → f x = 0) (xs : List α) :
    ((xs.filter p).map f).sum = (xs.map f).sum := by
  induction xs with
  | nil => rfl
  | cons x xs ih =>
    cases hp : p x
    · rw [List.filter_cons_of_neg (by simp [hp]), ih, List.map_cons, List.sum_cons, h x hp, Nat.zero_add]
    · rw [List.filter_cons_of_pos hp, List.map_cons, List.map_cons, List.sum_cons, List.sum_cons, ih]

end

/-! ### The shares of a state (R137, R139) -/

/-- The allocation capacity of a group as it enters the sum C of a cycle (R137). -/
def State.allocTerm (s : State) (g : Group) : Nat := if s.allocatable g then s.allocCapacity g else 0

/-- The quotient of a group (R139). -/
def State.quotient (s : State) (amount : Nat) (g : Group) : Nat := amount * s.allocTerm g / s.sumAllocation

/-- The group takes 1 A of the remainder when its turn comes (R139). -/
abbrev State.Short (s : State) (amount : Nat) (g : Group) : Prop := s.quotient amount g < s.allocTerm g

/-- The share of a group: its quotient, and 1 A more while the remainder lasts (R139). -/
def State.shareOf (s : State) (amount : Nat) (g : Group) : Nat :=
  s.quotient amount g
    + if s.Short amount g
        ∧ (Group.all.filter fun x => decide (x.num < g.num ∧ s.Short amount x)).length
          < amount - groupSum (s.quotient amount) then 1
      else 0

section
variable {s : State} {amount : Nat} {g : Group}

theorem allocTerm_of_not_allocatable (h : s.allocatable g = false) : s.allocTerm g = 0 := by simp [State.allocTerm, h]

theorem not_short_of_not_allocatable (h : s.allocatable g = false) : ¬ s.Short amount g := by
  unfold State.Short
  rw [allocTerm_of_not_allocatable h]
  exact Nat.not_lt_zero _

theorem quotient_of_not_allocatable (h : s.allocatable g = false) : s.quotient amount g = 0 := by
  simp [State.quotient, allocTerm_of_not_allocatable h]

theorem shareOf_of_not_allocatable (h : s.allocatable g = false) : s.shareOf amount g = 0 := by
  unfold State.shareOf
  rw [if_neg fun hc => not_short_of_not_allocatable h hc.1, quotient_of_not_allocatable h]

/-- No share exceeds the allocation capacity of its group (R139). -/
theorem shareOf_le (h : amount ≤ s.sumAllocation) : s.shareOf amount g ≤ s.allocTerm g := by
  have hq : s.quotient amount g ≤ s.allocTerm g := Nat.div_le_of_le_mul (Nat.mul_le_mul_right _ h)
  unfold State.shareOf
  split
  · rename_i hc
    exact hc.1
  · exact hq

theorem allocTerm_le_effective (s : State) (g : Group) : s.allocTerm g ≤ s.effective g := by
  unfold State.allocTerm State.allocCapacity
  repeat' split
  all_goals omega

/-- The items that a cycle gives out: the allocatable groups with capacity and quotient. -/
def State.allocItems (s : State) (amount : Nat) : List (Group × Nat × Nat) :=
  (Group.all.filter s.allocatable).map fun g => (g, s.allocTerm g, s.quotient amount g)

theorem allocate_eq (h : amount ≤ s.sumAllocation) :
    s.allocate amount s.sumAllocation = giveOut (amount - groupSum (s.quotient amount)) (s.allocItems amount) := by
  have hsum : ((s.allocItems amount).map fun x => x.2.2).sum = groupSum (s.quotient amount) := by
    unfold State.allocItems groupSum
    rw [List.map_map]
    exact sum_map_filter (fun g hg => quotient_of_not_allocatable hg) _
  have hterm : ∀ g ∈ Group.all.filter s.allocatable, s.allocTerm g = s.allocCapacity g := fun g hg =>
    if_pos (List.mem_filter.mp hg).2
  unfold State.allocate
  extract_lets items
  have hitems : items = s.allocItems amount := by
    refine List.map_congr_left fun g hg => ?_
    unfold State.quotient
    rw [hterm g hg]
    dsimp only
    split
    · rename_i h0
      rw [h0, Nat.div_zero]
    · rfl
  rw [hitems, hsum]
  split
  · rename_i h0
    have ha : amount = 0 := Nat.le_zero.mp (h0 ▸ h)
    rw [ha, Nat.zero_sub, giveOut_zero]
    unfold State.allocItems State.quotient
    simp
  · rfl

/-- The groups that stand before `g` in the list of the allocatable ones and fall short. -/
theorem countP_before {before after : List Group} (h : Group.all.filter s.allocatable = before ++ g :: after) :
    (before.countP fun x => decide (s.Short amount x))
      = (Group.all.filter fun x => decide (x.num < g.num ∧ s.Short amount x)).length := by
  have hrise : List.Pairwise (fun x y : Group => x.num < y.num) (before ++ g :: after) :=
    h ▸ List.Pairwise.filter _ (by decide)
  obtain ⟨_, hafter, hcross⟩ := List.pairwise_append.mp hrise
  have hlow : before.filter (fun x => decide (x.num < g.num ∧ s.Short amount x))
      = before.filter fun x => decide (s.Short amount x) :=
    List.filter_congr fun x hx => decide_eq_decide.mpr (and_iff_right (hcross x hx g List.mem_cons_self))
  have hhigh : (g :: after).filter (fun x => decide (x.num < g.num ∧ s.Short amount x)) = [] := by
    refine List.filter_eq_nil_iff.mpr fun x hx hc => ?_
    obtain ⟨hlt, _⟩ := of_decide_eq_true hc
    rcases List.mem_cons.mp hx with rfl | hx
    · exact Nat.lt_irrefl _ hlt
    · exact Nat.lt_asymm ((List.pairwise_cons.mp hafter).1 x hx) hlt
  have hall : Group.all.filter (fun x => decide (x.num < g.num ∧ s.Short amount x))
      = (Group.all.filter s.allocatable).filter fun x => decide (x.num < g.num ∧ s.Short amount x) := by
    rw [List.filter_filter]
    refine List.filter_congr fun x _ => ?_
    cases ha : s.allocatable x
    · rw [Bool.and_false]
      exact decide_eq_false fun hc => not_short_of_not_allocatable ha hc.2
    · rw [Bool.and_true]
  rw [hall, h, List.filter_append, hlow, hhigh, List.append_nil, List.countP_eq_length_filter]

theorem allocate_share (h : amount ≤ s.sumAllocation) :
    ∀ y ∈ s.allocate amount s.sumAllocation, y.2 = s.shareOf amount y.1 := by
  intro y hy
  rw [allocate_eq h] at hy
  obtain ⟨xs, g, a, q, ys, hitems, rfl⟩ := mem_giveOut hy
  obtain ⟨before, gs, hgroups, rfl, hrest⟩ := List.map_eq_append_iff.mp hitems
  obtain ⟨g', after, rfl, hg, _⟩ := List.map_eq_cons_iff.mp hrest
  cases hg
  have hbefore := countP_before (amount := amount) hgroups
  rw [List.countP_map]
  unfold State.shareOf
  rw [← hbefore]
  rfl

/-- The shares sum to the allocation amount (R139). -/
theorem shareOf_sum (h : amount ≤ s.sumAllocation) : (Group.all.map (s.shareOf amount)).sum = amount := by
  have hgiven : (Group.all.filter s.allocatable).map (s.shareOf amount)
      = (s.allocate amount s.sumAllocation).map (·.2) := by
    rw [List.map_congr_left (allocate_share h), ← allocate_groups s amount s.sumAllocation, List.map_map]
    rfl
  have hcap : ((Group.all.filter s.allocatable).map s.allocTerm).sum = s.sumAllocation :=
    sum_map_filter (fun g hg => allocTerm_of_not_allocatable hg) _
  have hquotients : groupSum (s.quotient amount) = ((Group.all.filter s.allocatable).map (s.quotient amount)).sum :=
    (sum_map_filter (fun g hg => quotient_of_not_allocatable hg) _).symm
  rw [← sum_map_filter fun g hg => shareOf_of_not_allocatable hg, hgiven, allocate_eq h, giveOut_sum]
  unfold State.allocItems
  rw [List.map_map, List.countP_map, hquotients]
  exact quotients_complete hcap h

/-! ### The state that a cycle leaves (R131, R139, R140) -/

/-- The state in which a cycle works its target out: in a periodic one the credits have grown (R81, R131). -/
def State.credited (s : State) (periodic : Bool) : State := s.when periodic State.grown

theorem touches_credited {periodic : Bool} : Touches [.cool] s (s.credited periodic) :=
  (touches_when fun _ => touches_grown).mpr (Touches.refl _ _)

/-- After the target and the shares a cycle does no more than supervise the tracking (R131, R141). -/
theorem cycle_supervises {periodic apart : Bool} (h : s.regulating = true) :
    Touches [.reg, .events] ((s.credited periodic).setTarget periodic) (s.cycle periodic apart)
    ∧ ∃ f o i, (s.cycle periodic apart).reg
        = { (s.credited periodic).cycleRecord periodic with tracking := f, outside := o, inside := i } := by
  cases periodic
  · have e : s.cycle false apart = s.setTarget false := by simp [State.cycle, h, State.when]
    have hcredited : s.credited false = s := rfl
    rw [e, hcredited, setTarget_reg]
    generalize s.cycleRecord false = r
    exact ⟨Touches.refl _ _, r.tracking, r.outside, r.inside, rfl⟩
  · have hcredited : s.credited true = s.grown := rfl
    rw [hcredited]
    exact ⟨touches_supervised h, periodicCycle_record h⟩

section
variable {periodic apart : Bool}

theorem credited_allocatable (s : State) (g : Group) : (s.credited periodic).allocatable g = s.allocatable g :=
  allocatable_of_touches_cool touches_credited g

theorem credited_unit (s : State) (g : Group) : (s.credited periodic).unit g = s.unit g :=
  unit_congr (touches_credited.link (by decide)) g

theorem cycle_amounts (h : s.regulating = true) :
    (s.cycle periodic apart).reg.applied = (s.credited periodic).cycleTarget periodic
      ∧ (s.cycle periodic apart).reg.frozenZ = (s.credited periodic).sumFrozen
      ∧ (s.cycle periodic apart).reg.amount
        = (s.credited periodic).cycleTarget periodic - (s.credited periodic).sumFrozen := by
  obtain ⟨_, f, o, i, hrec⟩ := cycle_supervises (periodic := periodic) (apart := apart) h
  obtain ⟨happlied, _, _, _, _, _, _, hfrozen, hamount⟩ := cycleRecord_fields (s.credited periodic) periodic
  rw [hrec]
  exact ⟨happlied, hfrozen, hamount⟩

theorem cycle_unit (h : s.regulating = true) (g : Group) :
    (s.cycle periodic apart).unit g = ((s.credited periodic).setTarget periodic).unit g :=
  unit_congr ((cycle_supervises h).1.link (by decide)) g

/-- Of a unit a cycle writes the share slot alone (R140). -/
theorem cycle_slots (h : s.regulating = true) (g : Group) :
    ((s.cycle periodic apart).unit g).record = (s.unit g).record
      ∧ ((s.cycle periodic apart).unit g).command = (s.unit g).command := by
  obtain ⟨x, hx⟩ := setTarget_unit (s.credited periodic) periodic g
  rw [cycle_unit h, hx, credited_unit]
  exact ⟨rfl, rfl⟩

/-- After the cycle the effective capacities are those that it has worked with (R82). -/
theorem cycle_effective (h : s.regulating = true) (g : Group) :
    (s.cycle periodic apart).effective g = (s.credited periodic).effective g := by
  have htouches : Touches [.energy, .events, .reg, .link] (s.credited periodic) (s.cycle periodic apart) :=
    Touches.trans ((touches_setTarget (by decide)).mpr (Touches.refl _ _)) ((cycle_supervises h).1.mono (by decide))
  have halloc : (s.cycle periodic apart).allocatable g = (s.credited periodic).allocatable g :=
    allocatable_congr (htouches.settings (by decide)) (by rw [(cycle_slots h g).1, credited_unit])
  unfold State.effective
  rw [halloc, coolOf_congr (htouches.cool (by decide))]

theorem credited_allocTerm (h : s.regulating = true) (g : Group) : (s.credited periodic).allocTerm g
    = if s.allocatable g = true ∧ s.holdsStop g = false then (s.cycle periodic apart).effective g else 0 := by
  have hstop : (s.credited periodic).holdsStop g = s.holdsStop g := by
    unfold State.holdsStop
    rw [credited_unit]
  unfold State.allocTerm State.allocCapacity
  rw [credited_allocatable, hstop, cycle_effective h]
  cases s.allocatable g <;> cases s.holdsStop g <;> rfl

end

theorem cycleShares_le (s : State) (periodic : Bool) : s.cycleTarget periodic - s.sumFrozen ≤ s.sumAllocation :=
  Nat.sub_le_of_le_add (Nat.min_le_right _ _)

/-- Each allocatable group has its share recorded, and no other group (R139). -/
theorem cycleRecord_shares (s : State) (periodic : Bool) (g : Group) : (s.cycleRecord periodic).shares.get g
    = if s.allocatable g then some (s.shareOf (s.cycleTarget periodic - s.sumFrozen) g) else none := by
  have hgroups : (s.cycleShares periodic).map (·.1) = Group.all.filter s.allocatable := allocate_groups s _ _
  unfold State.cycleRecord
  dsimp only
  split
  · rename_i ha
    refine sharesRecorded_of_all (fun x hx hg => ?_) (.inl ?_)
    · rw [← hg]
      exact allocate_share (cycleShares_le s periodic) x hx
    · rw [hgroups]
      exact List.mem_filter.mpr ⟨g.mem_all, ha⟩
  · rename_i ha
    rw [sharesRecorded_of_not_mem _ (by rw [hgroups]; exact fun hm => ha (List.mem_filter.mp hm).2), Six.get_const]

/-- The share slot of an allocatable group holds its share as the desired value (R140). -/
theorem setTarget_desired {periodic : Bool} (h : s.allocatable g = true) :
    ((s.setTarget periodic).unit g).share.desired = s.shareOf (s.cycleTarget periodic - s.sumFrozen) g := by
  have hget := setTarget_shares s periodic g
  rw [setTarget_reg, cycleRecord_shares, if_pos h, if_pos h] at hget
  exact (Option.some.inj hget).symm

/-- The shares that a cycle records are those of its allocation amount (R139). -/
theorem cycle_shares {periodic apart : Bool} (h : s.regulating = true) (g : Group) :
    (s.cycle periodic apart).reg.shares.get g = if s.allocatable g then
      some ((s.credited periodic).shareOf (s.cycle periodic apart).reg.amount g) else none := by
  obtain ⟨_, f, o, i, hrec⟩ := cycle_supervises (periodic := periodic) (apart := apart) h
  obtain ⟨_, _, hamount⟩ := cycle_amounts (periodic := periodic) (apart := apart) h
  rw [hamount, ← credited_allocatable (periodic := periodic), ← cycleRecord_shares, hrec]

/-- The unit of a group that is not allocatable stands (R140). -/
theorem setTarget_unit_of_not_allocatable {periodic : Bool} (h : s.allocatable g = false) :
    (s.setTarget periodic).unit g = s.unit g := by
  have hgroups : (s.cycleShares periodic).map (·.1) = Group.all.filter s.allocatable := allocate_groups s _ _
  have hlink : ((s.cycleReported periodic).setReg (s.cycleRecord periodic)).link = s.link :=
    touches_cycleReported.link (by decide)
  rw [setTarget_eq, writeShares_unit_of_not_mem _ (by rw [hgroups]; simp [h]), unit_congr hlink]

end

end Sys2Proof.Machine

/-- Settles O23: the remainder is no larger than the number of quotients that fall short, so that giving it out 1 A at a
time leaves nothing over. -/
theorem sharesSumToTheAllocationAmount : Obligations.SharesSumToTheAllocationAmount := by
  unfold Obligations.SharesSumToTheAllocationAmount
  intro s periodic apart hs t share amount capacity total quotient remainder short before
  have hreg : s.regulating = true := regulating_iff.mpr hs
  obtain ⟨happlied, hfrozen, hamount⟩ := cycle_amounts (periodic := periodic) (apart := apart) hreg
  have hcapacity : capacity = (s.credited periodic).allocTerm := funext fun g => (credited_allocTerm hreg g).symm
  have htotal : total = (s.credited periodic).sumAllocation := congrArg groupSum hcapacity
  have hquotient : quotient = (s.credited periodic).quotient amount := by
    funext g
    show amount * capacity g / total = _
    rw [hcapacity, htotal]
    rfl
  have hle : amount ≤ (s.credited periodic).sumAllocation := hamount.le.trans (cycleShares_le _ _)
  have hshare : share = (s.credited periodic).shareOf amount := by
    funext g
    show (t.reg.shares.get g).getD 0 = _
    rw [cycle_shares hreg]
    split
    · rfl
    · rename_i hn
      exact (shareOf_of_not_allocatable ((credited_allocatable s g).trans (Bool.eq_false_of_not_eq_true hn))).symm
  refine ⟨?_, ?_, fun g => ?_, ?_, fun g => ⟨fun hg => ⟨?_, ?_, ?_⟩, fun hg => ⟨?_, ?_⟩, cycle_slots hreg g⟩⟩
  · rw [happlied, hfrozen]
    exact hamount
  · rw [happlied, hfrozen, htotal]
    exact Nat.min_le_right _ _
  · rw [hshare]
    clear_value quotient capacity
    subst hquotient hcapacity
    rfl
  · rw [hshare]
    exact shareOf_sum hle
  · rw [cycle_shares hreg, if_pos hg]
    rfl
  · rw [hshare, cycle_effective hreg]
    exact (shareOf_le hle).trans (allocTerm_le_effective _ g)
  · rw [hshare, cycle_unit hreg, setTarget_desired ((credited_allocatable s g).trans hg), ← hamount]
  · rw [cycle_shares hreg, if_neg (by simp [hg])]
  · rw [cycle_unit hreg, setTarget_unit_of_not_allocatable ((credited_allocatable s g).trans hg), credited_unit]
end

section
/-! PROOFS. The minute evaluation and the end of a demand interval (O51; R147, R148, R152 to R154, R156, R159). -/

open Sys2Proof Sys2Proof.Machine

namespace Sys2Proof.Machine

variable {s : State}

theorem takePending_eq (e : Energy) :
    e.takePending = { e with tariff := e.tariffPending.getD e.tariff, tariffPending := none } := by
  obtain ⟨_, _, _, _, _, pending⟩ := e
  cases pending <;> rfl

theorem Time.atMinute_iff (x : Time) : x.atMinute = true ↔ x.second = 0 ∧ x.tenth = 0 := by
  simp [Time.atMinute]

theorem minuteEvaluation_of_due (h : s.energy.time.second = 0 ∧ s.energy.time.tenth = 0) :
    s.minuteEvaluation = s.setEnergy s.energy.takePending.evalTariff :=
  if_pos ((Time.atMinute_iff _).mpr h)

theorem minuteEvaluation_of_not_due (h : ¬ (s.energy.time.second = 0 ∧ s.energy.time.tenth = 0)) :
    s.minuteEvaluation = s :=
  if_neg fun hm => h ((Time.atMinute_iff _).mp hm)

theorem intervalOver_iff (e : Energy) :
    e.intervalOver = true ↔ e.time = e.interval.stop ∨ e.interval.length ≤ e.interval.t := by
  simp [Energy.intervalOver]

/-- The period once a demand record has been made: the maximum follows a greater demand (R156), and a SHORTENED record
is noted (R159). -/
theorem noteRecord_eq (p : Period) (r : DemandRecord) : p.noteRecord r =
    { p with
      maximum := max p.maximum r.demand,
      maxTime := if p.maximum < r.demand then some r.stop else p.maxTime,
      flags := { p.flags with shortenedSeen := p.flags.shortenedSeen || r.flags.shortened } } := by
  unfold Period.noteRecord Period.noteDemand
  by_cases h : p.maximum < r.demand
  · simp only [if_pos h, Nat.max_eq_right h.le]
  · simp only [if_neg h, Nat.max_eq_left (Nat.le_of_not_lt h)]

/-- What the interval end makes of the energy unit (R153). -/
theorem closeInterval_energy (s : State) : s.closeInterval.energy =
    { s.energy.keepRecord (s.energy.interval.record s.energy.interval.length s.energy.interval.stop
        s.energy.interval.flags) with
      limiter := { s.energy.limiter with active := false, trim := none },
      interval :=
        { start := s.energy.interval.stop, stop := s.energy.interval.stop.addTenths s.intervalLength,
          length := s.intervalLength, t := 0, energy := 0, flags := IntervalFlags.clear, unavoidable := false } } := by
  unfold State.closeInterval
  simp only [State.setEnergy_energy, (releaseLimiter_spec _ _).1]
  rfl

/-- The interval end releases an ACTIVE limiter with cause INTERVAL_END (R153). -/
theorem closeInterval_tells (h : s.energy.limiter.active = true) : s.closeInterval.Tells .demandLimit 0
    [[0#8], [3#8], beBytes 4 s.energy.limiter.projection] := by
  obtain ⟨-, htold, -⟩ := releaseLimiter_spec (s.setEnergy (s.energy.keepRecord (s.energy.interval.record
    s.energy.interval.length s.energy.interval.stop s.energy.interval.flags))) .intervalEnd
  exact (tells_congr rfl).mpr (htold h)

end Sys2Proof.Machine

/-- Settles O51: the minute evaluation finds the tariff after the pending set is taken, and the interval end is a record
kept, a release of the limiter and the next interval. -/
theorem minuteAndIntervalEndsAreTaken : Obligations.MinuteAndIntervalEndsAreTaken := by
  unfold Obligations.MinuteAndIntervalEndsAreTaken
  intro s e i minute closes
  refine ⟨fun hn => ?_, fun hm => ?_, fun hn => ?_, fun hc => ⟨s.closeInterval, ?_, ?_, ?_, closeInterval_tells⟩⟩
  · exact congrArg Host.Outcome.next (minuteEvaluation_of_not_due hn)
  · refine ⟨e.takePending.evalTariff.dayType, e.takePending.evalTariff.bucket, ?_⟩
    intro now
    have hnow : now = e.takePending.evalTariff := by
      simp only [now, Energy.evalTariff, takePending_eq]
    rw [hnow]
    exact ⟨bucket_spec _, congrArg Host.Outcome.next (minuteEvaluation_of_due hm)⟩
  · exact congrArg Host.Outcome.next (if_neg fun ho => hn ((intervalOver_iff e).mp ho))
  · exact congrArg Host.Outcome.next (if_pos ((intervalOver_iff e).mpr hc))
  · exact (touches_closeInterval (by decide)).mpr (Touches.refl _ s)
  · rw [closeInterval_energy, Energy.keepRecord, noteRecord_eq]
    rfl
end

section
/-! PROOFS. The demand evaluation (O50; R150, R151, R157, R158): its branches one by one, and the trim. -/

open Sys2Proof Sys2Proof.Machine

namespace Sys2Proof.Machine

variable {s t u : State}

theorem evalDue_iff (i : Interval) : i.evalDue = true ↔ i.t % 100 = 0 ∧ 300 ≤ i.t ∧ i.t < i.length := by
  simp [Interval.evalDue]

/-! ### The branches of an evaluation (R157) -/

/-- The limiter record with the projection `p` of an evaluation stored (R157 step 1). -/
def Energy.projected (e : Energy) (p : Nat) : Limiter :=
  { e.limiter with projection := p, projectionT := e.interval.t }

/-- The state in which the projection `p` has been stored (R157 step 1). -/
def State.projected (s : State) (p : Nat) : State := s.setLimiter (s.energy.projected p)

/-- The state in which an evaluation has engaged the limiter, DEMAND_LIMIT posted (R157 step 4). -/
def State.engaged (s : State) (p : Nat) : State :=
  ((s.projected p).setLimiter { s.energy.projected p with active := true }).postLimit .projection

theorem evalDemand_eq {p : Nat} (hp : s.energy.projection = p) : s.evalDemand =
    if s.cfgN .contractKw = 0 then (s.projected p).releaseLimiter .contractOff
    else if s.energy.limiter.active then
      if p + s.cfgN .releaseKw ≤ s.threshold then (s.projected p).releaseLimiter .release
      else (s.projected p).markLimited.workTrim
    else if s.threshold < p then (s.engaged p).markLimited.workTrim
    else s.projected p := by
  unfold State.evalDemand
  dsimp only
  rw [hp]
  rfl

/-- From `s` to `t` an evaluation that stores the limiter `l` has released it, with the cause `cause` if it was ACTIVE
(R157). -/
def State.LimitReleased (s t : State) (l : Limiter) (cause : Byte) : Prop :=
  t.energy = { s.energy with limiter := { l with active := false, trim := none } }
    ∧ (s.energy.limiter.active = true → t.Tells .demandLimit 0 [[0#8], [cause], beBytes 4 l.projection])

theorem limitReleased_projected (s : State) (p : Nat) (cause : LimitCause) : s.LimitReleased
    ((s.projected p).releaseLimiter cause) (s.energy.projected p) (BitVec.ofNat 8 cause.code) := by
  obtain ⟨henergy, htells, -⟩ := releaseLimiter_spec (s.projected p) cause
  exact ⟨henergy, htells⟩

/-! ### The trim of an ACTIVE limiter (R158) -/

/-- The open interval marked LIMITED (R157 step 5). -/
def Interval.asLimited (i : Interval) : Interval := { i with flags := { i.flags with limited := true } }

/-- From `s` to `t` an evaluation has left the limiter ACTIVE and the interval LIMITED, and has worked out the trim from
the mean voltage `v` and the trim `first` before its clamp; `l` is the limiter with the projection stored (R157 step 5,
R158). -/
def State.TrimFound (s t : State) (l : Limiter) (v first : Nat) : Prop :=
  (v = 0 ∨ v < s.cfgN .vValidMin →
    t.energy = { s.energy with limiter := { l with active := true, voltage := v, trim := none },
                               interval := s.energy.interval.asLimited }
    ∧ t.Tells .demandVoltage 0 [beBytes 4 v])
  ∧ (v ≠ 0 → s.cfgN .vValidMin ≤ v →
    t.energy =
      { s.energy with
        limiter := { l with active := true, voltage := v, trim := some (max first (s.cfgN .lineFloor)) },
        interval := { s.energy.interval.asLimited with
          unavoidable := s.energy.interval.unavoidable || decide (first < s.cfgN .lineFloor) } }
    ∧ (first < s.cfgN .lineFloor → s.energy.interval.unavoidable = false →
        t.Tells .demandUnavoidable 0 [beBytes 4 first]))

/-- The trim is worked out alike whether the evaluation has engaged the limiter or found it ACTIVE: of the state in
which that is done only the energy unit and the settings are read. -/
theorem trimFound_workTrim {l : Limiter} {v first : Nat} (hset : u.settings = s.settings)
    (he : u.energy =
      { s.energy with limiter := { l with active := true }, interval := s.energy.interval.asLimited })
    (hv : s.energy.meanVoltage = v) (hfirst : s.energy.firstTrim s.threshold v = first) :
    s.TrimFound u.workTrim l v first := by
  have hcfg : ∀ i, u.cfgN i = s.cfgN i := cfgN_congr hset
  have hmean : u.energy.meanVoltage = v := by
    rw [he, ← hv]
    rfl
  have hclamped : min 650000 ((u.threshold * 1000000 * u.energy.interval.length - u.energy.interval.energy)
      / (u.energy.interval.length - u.energy.interval.t) / u.energy.meanVoltage) = first := by
    rw [hmean, ← hfirst]
    simp only [Energy.firstTrim, State.threshold, hcfg, he, Interval.asLimited]
  obtain ⟨hnone, hsome, -⟩ := workTrim_spec u
  rw [hclamped, hmean, hcfg, hcfg, he] at hsome
  rw [hmean, hcfg, he] at hnone
  exact ⟨hnone, hsome⟩

section
variable {p v first : Nat} (hv : s.energy.meanVoltage = v) (hfirst : s.energy.firstTrim s.threshold v = first)
include hv hfirst

theorem trimFound_engaged : s.TrimFound (s.engaged p).markLimited.workTrim (s.energy.projected p) v first :=
  trimFound_workTrim rfl rfl hv hfirst

theorem trimFound_projected (ha : s.energy.limiter.active = true) :
    s.TrimFound (s.projected p).markLimited.workTrim (s.energy.projected p) v first := by
  refine trimFound_workTrim rfl ?_ hv hfirst
  rw [← ha]
  rfl

end

/-- The engagement stays told while the trim is worked out (R157 step 4). -/
theorem engaged_tells (s : State) (p : Nat) : (s.engaged p).markLimited.workTrim.Tells .demandLimit 0
    [[1#8], [1#8], beBytes 4 p] := by
  obtain ⟨-, -, hkeeps⟩ := workTrim_spec (s.engaged p).markLimited
  exact hkeeps _ _ _ (by decide) (by decide) ((tells_congr (s := s.engaged p) rfl).mpr tells_post_self)

/-- An evaluation, branch by branch (R157). -/
theorem evalDemand_spec {p v first : Nat} (hp : s.energy.projection = p) (hv : s.energy.meanVoltage = v)
    (hfirst : s.energy.firstTrim s.threshold v = first) :
    (s.cfgN .contractKw = 0 → s.LimitReleased s.evalDemand (s.energy.projected p) 4#8)
    ∧ (s.cfgN .contractKw ≠ 0 →
      (s.energy.limiter.active = false → p ≤ s.threshold →
        s.evalDemand.energy = { s.energy with limiter := s.energy.projected p } ∧ s.evalDemand.events = s.events)
      ∧ (s.energy.limiter.active = false → s.threshold < p →
        s.evalDemand.Tells .demandLimit 0 [[1#8], [1#8], beBytes 4 p]
          ∧ s.TrimFound s.evalDemand (s.energy.projected p) v first)
      ∧ (s.energy.limiter.active = true → p + s.cfgN .releaseKw ≤ s.threshold →
        s.LimitReleased s.evalDemand (s.energy.projected p) 2#8)
      ∧ (s.energy.limiter.active = true → s.threshold < p + s.cfgN .releaseKw →
        s.TrimFound s.evalDemand (s.energy.projected p) v first)) := by
  rw [evalDemand_eq hp]
  refine ⟨fun hc => ?_, fun hc => ⟨fun ha hle => ?_, fun ha hlt => ?_, fun ha hle => ?_, fun ha hlt => ?_⟩⟩
  · rw [if_pos hc]
    exact limitReleased_projected s p .contractOff
  · rw [if_neg hc, if_neg (Bool.eq_false_iff.mp ha), if_neg (Nat.not_lt.mpr hle)]
    exact ⟨rfl, rfl⟩
  · rw [if_neg hc, if_neg (Bool.eq_false_iff.mp ha), if_pos hlt]
    exact ⟨engaged_tells s p, trimFound_engaged hv hfirst⟩
  · rw [if_neg hc, if_pos ha, if_pos hle]
    exact limitReleased_projected s p .release
  · rw [if_neg hc, if_pos ha, if_neg (Nat.not_le.mpr hlt)]
    exact trimFound_projected hv hfirst ha

end Sys2Proof.Machine

/-- Settles O50: each branch of R157 is one of the release, the storing and the working out of the trim. -/
theorem demandEvaluationEngagesAndReleasesTheLimiter : Obligations.DemandEvaluationEngagesAndReleasesTheLimiter := by
  unfold Obligations.DemandEvaluationEngagesAndReleasesTheLimiter
  intro s e i l due
  refine ⟨fun hn => congrArg Host.Outcome.next (if_neg fun hd => hn ((evalDue_iff i).mp hd)), fun hd =>
    ⟨s.evalDemand, congrArg Host.Outcome.next (if_pos ((evalDue_iff i).mpr hd)),
      (touches_evalDemand (by decide)).mpr (Touches.refl _ s), ?_⟩⟩
  intro mean projection threshold v first stored limited tells off work
  exact evalDemand_spec (p := projection) (v := v) (first := first) rfl rfl rfl
end

section
/-! PROOFS. The energy unit at a line sample (O49; R144, R149 to R151, R159): what the accrual makes of the unit, and
what the rest of the boundary leaves of it. -/

open Sys2Proof Sys2Proof.Machine

namespace Sys2Proof.Machine

variable {s t : State} {b : Boundary}

/-! ### Accounts (R149) -/

/-- An account that becomes SATURATED stands at its bound (R149). -/
theorem add_counts_of_saturates {a : Account} {n : Nat} (hb : a.saturated = false)
    (ha : (a.add n).saturated = true) : (a.add n).counts = 2 ^ 64 - 1 := by
  unfold Account.add at ha ⊢
  rw [if_neg (Bool.eq_false_iff.mp hb)] at ha ⊢
  split at ha
  · rw [if_pos ‹_›]
  · exact absurd (hb.symm.trans ha) Bool.false_ne_true

theorem noteSaturation_tells {n m : Nat} {a : Account} (hb : a.saturated = false) (ha : (a.add m).saturated = true) :
    (s.noteSaturation n a (a.add m)).Tells .energySaturated n [beBytes 4 ((2 ^ 64 - 1) / 36000000000)] := by
  have hkwh : (a.add m).kwh = (2 ^ 64 - 1) / 36000000000 := by rw [Account.kwh, add_counts_of_saturates hb ha]
  unfold State.noteSaturation
  rw [if_pos (by rw [ha, hb]; rfl), hkwh]
  exact tells_post_self

theorem noteSaturation_keeps {n m : Nat} {x y : Account} {fields : List (List Byte)} (hn : m ≠ n)
    (h : s.Tells .energySaturated m fields) : (s.noteSaturation n x y).Tells .energySaturated m fields := by
  unfold State.noteSaturation
  split
  · exact tells_post h (.inr hn.symm)
  · exact h

/-! ### The accrual (R150 steps 1 to 5) -/

/-- The power of the line sample taken (R150). -/
def State.power (s : State) : Nat := s.front.line.voltage * s.front.line.current

/-- The tariff account of the bucket in force (R148, R149). -/
def Energy.account (e : Energy) : Account := e.accounts.getD e.bucket ⟨0, false⟩

/-- The period once the power `p` has joined the tariff account (R159). -/
def Energy.periodNoted (e : Energy) (p : Nat) : Period :=
  if (e.account.add p).saturated && !e.account.saturated then e.period.noteSaturated else e.period

/-- Only the flag SATURATED can change by it. -/
theorem periodNoted_flags (e : Energy) (p : Nat) : (e.periodNoted p).maximum = e.period.maximum
    ∧ (e.periodNoted p).flags.estimated = e.period.flags.estimated
    ∧ (e.periodNoted p).flags.clockNotSet = e.period.flags.clockNotSet := by
  unfold Energy.periodNoted
  split <;> exact ⟨rfl, rfl, rfl⟩

theorem addTariff_energy (s : State) (p : Nat) : (s.addTariff p).energy =
    { s.energy with accounts := s.energy.accounts.set s.energy.bucket (s.energy.account.add p),
                    period := s.energy.periodNoted p } :=
  noteSaturation_energy _ _ _ _

theorem addLifetime_energy (s : State) (p : Nat) :
    (s.addLifetime p).energy = { s.energy with lifetime := s.energy.lifetime.add p } :=
  noteSaturation_energy _ _ _ _

theorem accrue_energy (s : State) : s.accrue.energy =
    Energy.accrue
      { s.energy with accounts := s.energy.accounts.set s.energy.bucket (s.energy.account.add s.power),
                      lifetime := s.energy.lifetime.add s.power, period := s.energy.periodNoted s.power }
      s.power s.front.line.voltage s.front.line.held := by
  have h : ((s.addTariff s.power).addLifetime s.power).energy =
      { s.energy with accounts := s.energy.accounts.set s.energy.bucket (s.energy.account.add s.power),
                      lifetime := s.energy.lifetime.add s.power, period := s.energy.periodNoted s.power } := by
    rw [addLifetime_energy, addTariff_energy]
  rw [← h]
  rfl

theorem accrue_tells_tariff (hb : s.energy.account.saturated = false)
    (ha : (s.energy.account.add s.power).saturated = true) (hbucket : s.energy.bucket < 4) :
    s.accrue.Tells .energySaturated s.energy.bucket [beBytes 4 ((2 ^ 64 - 1) / 36000000000)] := by
  have htariff : (s.addTariff s.power).Tells .energySaturated s.energy.bucket
      [beBytes 4 ((2 ^ 64 - 1) / 36000000000)] := noteSaturation_tells hb ha
  have hlifetime : ((s.addTariff s.power).addLifetime s.power).Tells .energySaturated s.energy.bucket
      [beBytes 4 ((2 ^ 64 - 1) / 36000000000)] :=
    noteSaturation_keeps hbucket.ne ((tells_congr (s := s.addTariff s.power) rfl).mpr htariff)
  exact (tells_congr (s := (s.addTariff s.power).addLifetime s.power) rfl).mpr hlifetime

theorem accrue_tells_lifetime (hb : s.energy.lifetime.saturated = false)
    (ha : (s.energy.lifetime.add s.power).saturated = true) :
    s.accrue.Tells .energySaturated 4 [beBytes 4 ((2 ^ 64 - 1) / 36000000000)] := by
  have hstands : (s.addTariff s.power).energy.lifetime = s.energy.lifetime := by rw [addTariff_energy]
  have hlifetime : ((s.addTariff s.power).addLifetime s.power).Tells .energySaturated 4
      [beBytes 4 ((2 ^ 64 - 1) / 36000000000)] :=
    noteSaturation_tells (by rw [hstands]; exact hb) (by rw [hstands]; exact ha)
  exact (tells_congr (s := (s.addTariff s.power).addLifetime s.power) rfl).mpr hlifetime

/-! ### What steps 6 to 8 of R150 leave of the accrual -/

/-- What the accrual makes of the unit and steps 6 to 8 of R150 leave: clock, accounts, ring, and two marks of the
period. -/
def Energy.accrued (e : Energy) : Time × Bool × List Account × Account × List RingEntry × Bool × Bool :=
  (e.time, e.clockSet, e.accounts, e.lifetime, e.ring, e.period.flags.estimated, e.period.flags.clockNotSet)

theorem when_accrued {c : Bool} {f : State → State} (hf : ∀ u, (f u).energy.accrued = u.energy.accrued) :
    (s.when c f).energy.accrued = s.energy.accrued := by
  cases c
  · rfl
  · exact hf s

theorem State.TrimFound.energy {l : Limiter} {v first : Nat} (h : s.TrimFound t l v first) :
    ∃ k i, t.energy = { s.energy with limiter := k, interval := i } := by
  obtain ⟨hnone, hsome⟩ := h
  by_cases hv : v = 0 ∨ v < s.cfgN .vValidMin
  · exact ⟨_, _, (hnone hv).1⟩
  · obtain ⟨hv0, hv1⟩ := not_or.mp hv
    exact ⟨_, _, (hsome hv0 (Nat.not_lt.mp hv1)).1⟩

/-- An evaluation changes the limiter and the open interval only (R157, R158). -/
theorem evalDemand_energy (s : State) : ∃ k i, s.evalDemand.energy = { s.energy with limiter := k, interval := i } := by
  obtain ⟨hoff, hon⟩ := evalDemand_spec (s := s) rfl rfl rfl
  by_cases hc : s.cfgN .contractKw = 0
  · exact ⟨_, _, (hoff hc).1⟩
  obtain ⟨hstores, hengages, hreleases, hcontinues⟩ := hon hc
  cases ha : s.energy.limiter.active
  · by_cases hp : s.energy.projection ≤ s.threshold
    · exact ⟨_, _, (hstores ha hp).1⟩
    · exact (hengages ha (Nat.not_le.mp hp)).2.energy
  · by_cases hp : s.energy.projection + s.cfgN .releaseKw ≤ s.threshold
    · exact ⟨_, _, (hreleases ha hp).1⟩
    · exact (hcontinues ha (Nat.not_le.mp hp)).energy

theorem evalDemand_accrued (s : State) : s.evalDemand.energy.accrued = s.energy.accrued := by
  obtain ⟨k, i, h⟩ := evalDemand_energy s
  rw [h]
  rfl

theorem minuteEvaluation_accrued (s : State) : s.minuteEvaluation.energy.accrued = s.energy.accrued := by
  unfold State.minuteEvaluation
  split
  · rw [State.setEnergy_energy, takePending_eq]
    rfl
  · rfl

theorem closeInterval_accrued (s : State) : s.closeInterval.energy.accrued = s.energy.accrued := by
  rw [closeInterval_energy, Energy.keepRecord, noteRecord_eq]
  rfl

theorem energyDue_accrued (s : State) : s.energyDue.energy.accrued = s.energy.accrued := by
  unfold State.energyDue
  dsimp only
  rw [when_accrued closeInterval_accrued, minuteEvaluation_accrued, when_accrued evalDemand_accrued]

/-! ### The unit in the boundary -/

/-- An out-of-turn cycle withholds no down step, so that it marks nothing (R135, R136). -/
theorem outOfTurn_energy (s : State) : s.outOfTurn.energy = s.energy := by
  have hreport : ∀ d gov, (s.newTarget false d gov).report = false := fun d gov => by
    unfold State.newTarget
    split <;> rfl
  cases h : s.regulating
  · rw [outOfTurn_of_not_regulating h]
  · rw [outOfTurn_of_regulating h, setTarget_energy, hreport]
    rfl

theorem evalLoops_energy (s : State) (apart : Bool) : (s.evalLoops apart).energy = s.energy := by
  have ht : Touches [.cool, .link, .events] s
      ((s.eachGroup fun s g => s.evalLoop apart g).eachGroup fun s g => s.evalStageUnload apart g) := by simp
  unfold State.evalLoops State.withUnloadCycle State.when
  dsimp only
  split
  · rw [outOfTurn_energy, ht.energy (by decide)]
  · exact ht.energy (by decide)

theorem lineSample_energy (s : State) (b : Boundary) :
    (s.lineSample b).energy = { s.energy with time := s.energy.time.addTenths 1 } :=
  touches_lineSample_begun.energy (by decide)

/-- After the unit's own part a boundary leaves it. -/
theorem boundary_energy (s : State) (b : Boundary) :
    (s.boundary b).energy = ((s.lineSample b).energySample b.apart).energy := by
  have hstack : Touches [.stack, .events] ((s.lineSample b).energySample b.apart) (s.boundarySampled b) :=
    (touches_stackSample (by decide)).mpr (Touches.refl _ _)
  rw [boundary_eq, evalLoops_energy, touches_aeScan.energy (by decide), touches_boundaryRead.energy (by decide),
    hstack.energy (by decide)]

theorem boundary_accrued (s : State) (b : Boundary) :
    (s.boundary b).energy.accrued = (s.lineSample b).accrue.energy.accrued := by
  rw [boundary_energy]
  exact when_accrued energyDue_accrued

theorem boundary_energy_apart (ha : b.apart = true) (s : State) :
    (s.boundary b).energy = (s.lineSample b).accrue.energy := by
  rw [boundary_energy, ha]
  rfl

theorem boundary_line (s : State) (b : Boundary) : (s.boundary b).front.line = (s.lineSample b).front.line := by
  rw [touches_boundaryLoops.front (by decide), touches_boundaryRead.front (by decide),
    touches_boundarySampled.front (by decide)]

/-- The kinds that a boundary can post once the power has been accrued. -/
def accruedKinds : List EventKind :=
  [.demandLimit, .demandVoltage, .demandUnavoidable, .stackChange, .switch, .utility, .supState, .safe, .quenchRequest,
    .aeLong] ++ loopKinds

theorem posts_energyDue (s : State) : Posts accruedKinds s s.energyDue := by
  have hminute : ∀ u : State, Posts accruedKinds u u.minuteEvaluation := fun u =>
    .of_touches (l := [.energy]) ((touches_minuteEvaluation (by decide)).mpr (Touches.refl _ _)) (by decide)
  have hdemand : Posts accruedKinds s (s.when s.energy.interval.evalDue State.evalDemand) :=
    posts_when (.refl _ _) fun _ => posts_evalDemand (.refl _ _) (by decide)
  exact posts_when (hdemand.trans (hminute _)) fun _ => posts_closeInterval (.refl _ _) (by decide)

theorem posts_boundary_accrued (s : State) (b : Boundary) :
    Posts accruedKinds (s.lineSample b).accrue (s.boundary b) := by
  have hdue : Posts accruedKinds (s.lineSample b).accrue ((s.lineSample b).energySample b.apart) :=
    posts_when (.refl _ _) posts_energyDue
  have hstack : Posts accruedKinds ((s.lineSample b).energySample b.apart) (s.boundarySampled b) :=
    (posts_stackSample _ _).mono (by decide)
  have hread : Posts accruedKinds (s.boundarySampled b) (s.boundaryRead b) :=
    Posts.trans (posts_readSafe (posts_readUtility (.refl _ _) (by decide)) (by decide)) (posts_readKey _ _ _ _)
  have hscan : ∀ u : State, Posts accruedKinds u (u.scanSample b.apart) := fun u =>
    .of_touches (l := [.scan]) ((touches_scanSample (by decide)).mpr (Touches.refl _ _)) (by decide)
  rw [boundary_eq]
  exact hdue.trans (hstack.trans (hread.trans (((posts_aeSample _ _).mono (by decide)).trans
    ((hscan _).trans ((posts_evalLoops _ _).mono (by decide))))))

end Sys2Proof.Machine

/-- Settles O49: the accrual reads the line record of the sample, the rest of the boundary leaves what it made, and taken
apart it is all that happens to the unit. -/
theorem lineSampleAccruesItsEnergy : Obligations.LineSampleAccruesItsEnergy := by
  unfold Obligations.LineSampleAccruesItsEnergy
  intro b s
  refine ⟨s.boundary b, rfl, ?_⟩
  intro e r p full add old ring
  have hline : r = (s.lineSample b).front.line := boundary_line s b
  have hpower : p = (s.lineSample b).power := by
    simp only [p, hline]
    rfl
  have henergy := accrue_energy (s.lineSample b)
  rw [← hpower, ← hline, lineSample_energy] at henergy
  have haccrued := boundary_accrued s b
  rw [henergy] at haccrued
  simp only [Energy.accrued, Energy.accrue, Prod.mk.injEq] at haccrued
  obtain ⟨htime, hset, haccounts, hlifetime, hring, hestimated, hclock⟩ := haccrued
  obtain ⟨hmaximum, hnoted, hnotedClock⟩ := periodNoted_flags (s.lineSample b).energy p
  rw [lineSample_energy] at hmaximum hnoted hnotedClock
  have htells : ∀ n fields, (s.lineSample b).accrue.Tells .energySaturated n fields →
      (s.boundary b).Tells .energySaturated n fields :=
    fun n fields => (posts_boundary_accrued s b).tells (by decide)
  refine ⟨htime, haccounts, hlifetime, hring, hset, fun hb ha hbucket => ?_, fun hb ha => ?_, ?_, ?_, fun hapart => ?_⟩
  · have htold := accrue_tells_tariff (s := s.lineSample b)
    rw [← hpower, lineSample_energy] at htold
    exact htells _ _ (htold hb ha hbucket)
  · have htold := accrue_tells_lifetime (s := s.lineSample b)
    rw [← hpower, lineSample_energy] at htold
    exact htells _ _ (htold hb ha)
  · rw [hestimated, hnoted]
  · rw [hclock, hnotedClock]
  · rw [boundary_energy_apart hapart, henergy]
    exact ⟨rfl, rfl, rfl, rfl, rfl, rfl, hmaximum⟩
end

section
/-! PROOFS. SET_TIME (O52; R144, R145, R155): the time read from a payload, and what the part does when it takes it. -/

open Sys2Proof Sys2Proof.Machine

namespace Sys2Proof.Machine

variable {s : State} {x : Time}

/-- A request that only an engineer may make is answered as its rule does, and at ENGINEER authority (R168, R170). -/
theorem exec_answers_engineer {c : Instr} {k : RequestKind} {rule : List Byte → Bool → State → Reply × State}
    {u : State} {f : Frame} {rest : List Frame} {r : Reply} (hc : exec c s = .next (s.serve k rule))
    (hk : k.engineerOnly = true) (h : s.Admits k f rest) (hr : rule f.payload (s.engineer f) s.taken = (r, u)) :
    exec c s = .next (u.answer f true r) := by
  rw [exec_answers hc h hr, engineer_of_admits h hk]

/-! ### The calendar (R144) -/

theorem monthLength_eq (year month : Nat) : monthLength year month =
    if month = 2 then (if year % 4 = 0 then 29 else 28)
    else if month = 4 ∨ month = 6 ∨ month = 9 ∨ month = 11 then 30 else 31 := by
  unfold monthLength isLeap
  split
  · simp
  all_goals simp_all

theorem dateOk_iff (year month day : Nat) : dateOk year month day = true ↔
    2000 ≤ year ∧ year ≤ 2099 ∧ 1 ≤ month ∧ month ≤ 12 ∧ 1 ≤ day ∧ day ≤ monthLength year month :=
  decide_eq_true_iff

/-- A time that SET_TIME takes (R145). -/
abbrev Time.Right (x : Time) : Prop :=
  dateOk x.year x.month x.day = true ∧ x.hour ≤ 23 ∧ x.minute ≤ 59 ∧ x.second ≤ 59 ∧ x.tenth ≤ 9

/-! ### The payload (11.1) -/

/-- A time as SET_TIME carries it (11.1). -/
def Time.payload (x : Time) : List Byte :=
  beBytes 2 x.year ++ [BitVec.ofNat 8 x.month, BitVec.ofNat 8 x.day, BitVec.ofNat 8 x.hour, BitVec.ofNat 8 x.minute,
    BitVec.ofNat 8 x.second, BitVec.ofNat 8 x.tenth]

/-- Each field of the time fits the bytes that carry it. -/
structure Time.Fits (x : Time) : Prop where
  year : x.year < 65536
  month : x.month < 256
  day : x.day < 256
  hour : x.hour < 256
  minute : x.minute < 256
  second : x.second < 256
  tenth : x.tenth < 256

theorem beNat_beBytes_of_lt {n v : Nat} (h : v < 256 ^ n) : beNat (beBytes n v) = v := by
  rw [beNat_beBytes, Nat.mod_eq_of_lt h]

/-- The time that a payload carries (11.1). -/
def timeOf (payload : List Byte) : Time :=
  ⟨field payload 0 2, field payload 2 1, field payload 3 1, field payload 4 1, field payload 5 1, field payload 6 1,
    field payload 7 1⟩

theorem timeOf_payload (h : x.Fits) : timeOf x.payload = x := by
  have hyear : field x.payload 0 2 = x.year := by
    rw [Time.payload, ← List.nil_append (_ ++ _), field_append (at_ := 0) (n := 2) _ _ rfl (beBytes_length _ _)]
    exact beNat_beBytes_of_lt h.year
  have hbyte : ∀ v, v < 256 → beNat [BitVec.ofNat 8 v] = v := fun v hv => beNat_beBytes_of_lt (n := 1) hv
  unfold timeOf
  rw [hyear]
  obtain ⟨year, month, day, hour, minute, second, tenth⟩ := x
  congr 1
  · exact hbyte _ h.month
  · exact hbyte _ h.day
  · exact hbyte _ h.hour
  · exact hbyte _ h.minute
  · exact hbyte _ h.second
  · exact hbyte _ h.tenth

/-! ### The clock set (R145, R155) -/

/-- The part once it has taken the time `x` (R145 steps 1 to 5). -/
def State.timeSet (s : State) (x : Time) : State :=
  let opened := (s.cutInterval.setEnergy { s.cutInterval.energy with time := x, clockSet := true }).openShort
  (opened.setEnergy opened.energy.evalTariff).post .clockSet 0 [flagByte s.energy.clockSet]

theorem setTime_eq (s : State) (payload : List Byte) : s.setTime payload =
    if (timeOf payload).Right then (⟨.ok, timeBytes (timeOf payload)⟩, s.timeSet (timeOf payload))
    else (⟨.badValue, []⟩, s) := rfl

/-- The unit once a clock change has closed the open interval (R155). -/
def Energy.intervalCut (e : Energy) : Energy :=
  if e.interval.t = 0 then e
  else e.keepRecord (e.interval.record e.interval.t e.time { e.interval.flags with shortened := true })

theorem cutInterval_eq (s : State) :
    s.cutInterval = (s.setEnergy s.energy.intervalCut).releaseLimiter .clockChange := by
  have hcut : s.when (s.energy.interval.t != 0) (fun u => u.setEnergy (s.energy.keepRecord
      (s.energy.interval.record s.energy.interval.t s.energy.time { s.energy.interval.flags with shortened := true })))
      = s.setEnergy s.energy.intervalCut := by
    unfold State.when Energy.intervalCut
    by_cases h : s.energy.interval.t = 0
    · rw [if_pos h, h]
      rfl
    · rw [if_neg h, if_pos (bne_iff_ne.mpr h)]
  exact congrArg (State.releaseLimiter · .clockChange) hcut

theorem intervalCut_limiter (e : Energy) : e.intervalCut.limiter = e.limiter := by
  unfold Energy.intervalCut
  split <;> rfl

theorem cutInterval_energy (s : State) : s.cutInterval.energy =
    { s.energy.intervalCut with limiter := { s.energy.limiter with active := false, trim := none } } := by
  rw [cutInterval_eq, (releaseLimiter_spec _ _).1, State.setEnergy_energy, intervalCut_limiter]

theorem cutInterval_tells (h : s.energy.limiter.active = true) : s.cutInterval.Tells .demandLimit 0
    [[0#8], [5#8], beBytes 4 s.energy.limiter.projection] := by
  obtain ⟨-, htold, -⟩ := releaseLimiter_spec (s.setEnergy s.energy.intervalCut) .clockChange
  rw [State.setEnergy_energy, intervalCut_limiter] at htold
  rw [cutInterval_eq]
  exact htold h

/-- Samples of the interval that a clock change opens, for the interval length `len` (R155). -/
def Time.toStop (x : Time) (len : Nat) : Nat :=
  if len - x.dayTenths % len < 600 then len - x.dayTenths % len + len else len - x.dayTenths % len

/-- The short interval opened at `x` (R155). -/
def Time.shortInterval (x : Time) (len : Nat) : Interval :=
  { start := x, stop := x.addTenths (x.toStop len), length := x.toStop len, t := 0, energy := 0,
    flags := ⟨true, false, false, false, false⟩, unavoidable := false }

theorem openShort_energy (s : State) : s.openShort.energy =
    { s.energy with interval := s.energy.time.shortInterval s.intervalLength } := rfl

theorem timeSet_energy (s : State) (x : Time) : (s.timeSet x).energy =
    Energy.evalTariff
      { s.energy.intervalCut with
        limiter := { s.energy.limiter with active := false, trim := none }, time := x, clockSet := true,
        interval := x.shortInterval s.intervalLength } := by
  have hlength : s.cutInterval.intervalLength = s.intervalLength := by
    have ht : Touches [.energy, .events] s s.cutInterval :=
      (touches_cutInterval (by decide)).mpr (Touches.refl _ s)
    unfold State.intervalLength
    rw [cfgN_congr (ht.settings (by decide))]
  rw [← hlength]
  unfold State.timeSet
  simp only [State.post_energy, State.setEnergy_energy, openShort_energy, cutInterval_energy]
  rfl

/-- What stands in the unit when the interval has been closed short: it is recorded if a sample has been taken in it
(R155, R156, R159). -/
theorem intervalCut_eq (e : Energy) :
    let demand := e.interval.energy / (e.interval.t * 1000000)
    let record := ⟨e.time, e.interval.t, demand, { e.interval.flags with shortened := true }⟩
    e.intervalCut = { e with
      demandLog := if e.interval.t = 0 then e.demandLog else keepNewest 96 (e.demandLog ++ [record]),
      period := if e.interval.t = 0 then e.period else
        { e.period with
          maximum := max e.period.maximum demand,
          maxTime := if e.period.maximum < demand then some e.time else e.period.maxTime,
          flags := { e.period.flags with shortenedSeen := true } } } := by
  intro demand record
  unfold Energy.intervalCut
  split
  · rfl
  · rw [Energy.keepRecord, noteRecord_eq]
    simp only [Interval.record, Bool.or_true]
    rfl

/-- The events of a clock change: the release of an ACTIVE limiter, and CLOCK_SET (R145, R155). -/
theorem timeSet_tells (s : State) (x : Time) :
    (s.energy.limiter.active = true → (s.timeSet x).Tells .demandLimit 0
        [[0#8], [5#8], beBytes 4 s.energy.limiter.projection])
      ∧ (s.timeSet x).Tells .clockSet 0 [[if s.energy.clockSet then 1#8 else 0#8]] :=
  ⟨fun h => tells_post ((tells_congr (s := s.cutInterval) rfl).mpr (cutInterval_tells h)) (.inl (by decide)),
    tells_post_self⟩

theorem touches_timeSet (s : State) (x : Time) : Touches [.energy, .events] s (s.timeSet x) := by
  unfold State.timeSet
  simp

end Sys2Proof.Machine
end

section
/-! PROOFS. SET_TARIFF and CLOSE_PERIOD (O52; R146, R160): the set read from a payload, and its tests. -/

open Sys2Proof Sys2Proof.Machine

namespace Sys2Proof.Machine

variable {s : State}

/-! ### The tests of a tariff set (R146) -/

theorem risingB_iff (xs : List Nat) : risingB xs = true ↔ xs.Pairwise (· < ·) := by
  induction xs with
  | nil => simp [risingB]
  | cons x xs ih => simp [risingB, ih, List.pairwise_cons]

/-- A tariff table that SET_TARIFF takes (R146). -/
def TableRight (table : List TariffPoint) : Prop :=
  1 ≤ table.length ∧ table.length ≤ 12 ∧ (∀ p ∈ table, p.minute ≤ 1439 ∧ p.bucket ≤ 3)
    ∧ table.Pairwise fun p q => p.minute < q.minute

theorem tableOk_iff (table : List TariffPoint) : tableOk table = true ↔ TableRight table := by
  unfold tableOk TableRight
  rw [Bool.and_eq_true, Bool.and_eq_true, decide_eq_true_iff, List.all_eq_true, risingB_iff, List.pairwise_map]
  simp only [decide_eq_true_iff, and_assoc]

/-- The date `x` lies before the date `y`. -/
def Date.Before (x y : Date) : Prop :=
  x.year < y.year ∨ x.year = y.year ∧ (x.month < y.month ∨ x.month = y.month ∧ x.day < y.day)

/-- Dates of the calendar lie in the order of year, month and day taken as one number. -/
theorem before_iff {x y : Date} (hx : dateOk x.year x.month x.day = true) (hy : dateOk y.year y.month y.day = true) :
    (x.year * 16 + x.month) * 32 + x.day < (y.year * 16 + y.month) * 32 + y.day ↔ x.Before y := by
  have hbounds : ∀ {d : Date}, dateOk d.year d.month d.day = true → d.month ≤ 12 ∧ d.day ≤ 31 := by
    intro d hd
    obtain ⟨-, -, -, hmonth, -, hday⟩ := (dateOk_iff _ _ _).mp hd
    have hlength : monthLength d.year d.month ≤ 31 := by
      rw [monthLength_eq]
      repeat' split
      all_goals decide
    exact ⟨hmonth, hday.trans hlength⟩
  obtain ⟨hxm, hxd⟩ := hbounds hx
  obtain ⟨hym, hyd⟩ := hbounds hy
  unfold Date.Before
  omega

/-- A holiday list that SET_TARIFF takes (R146). -/
def HolidaysRight (days : List Date) : Prop :=
  days.length ≤ 16 ∧ (∀ d ∈ days, dateOk d.year d.month d.day = true) ∧ days.Pairwise Date.Before

theorem holidaysOk_iff (days : List Date) : holidaysOk days = true ↔ HolidaysRight days := by
  unfold holidaysOk HolidaysRight
  rw [Bool.and_eq_true, Bool.and_eq_true, decide_eq_true_iff, List.all_eq_true, risingB_iff, List.pairwise_map,
    and_assoc]
  refine and_congr_right fun _ => and_congr_right fun hdates => ?_
  exact List.Pairwise.iff_of_mem fun hx hy => before_iff (hdates _ hx) (hdates _ hy)

theorem Tariff.ok_iff (w : Tariff) : w.ok = true ↔
    (∀ table ∈ [w.weekday, w.weekend, w.holiday], TableRight table) ∧ HolidaysRight w.holidays := by
  simp only [Tariff.ok, Bool.and_eq_true, tableOk_iff, holidaysOk_iff, List.forall_mem_cons, List.not_mem_nil,
    false_implies, implies_true, and_true, and_assoc]

/-! ### The payload (11.1) -/

/-- A point of a tariff table as SET_TARIFF carries it. -/
def TariffPoint.bytes (p : TariffPoint) : List Byte := beBytes 2 p.minute ++ beBytes 1 p.bucket

/-- A date of a holiday list as SET_TARIFF carries it. -/
def Date.bytes (d : Date) : List Byte := beBytes 2 d.year ++ beBytes 1 d.month ++ beBytes 1 d.day

/-- A counted list of things, each carried as `enc` says (11.1). -/
def countedBytes {α : Type} (enc : α → List Byte) (xs : List α) : List Byte :=
  beBytes 1 xs.length ++ xs.flatMap enc

section
variable {α : Type} {enc : α → List Byte} {xs : List α}

theorem afterCounted_counted {unit : Nat} (henc : ∀ x, (enc x).length = unit) (hn : xs.length < 256)
    (rest : List Byte) : afterCounted unit (countedBytes enc xs ++ rest) = some rest := by
  have hlength : (xs.flatMap enc).length = unit * xs.length := by
    rw [List.length_flatMap, List.map_congr_left fun x _ => henc x]
    simp [Nat.mul_comm]
  have hcount : (BitVec.ofNat 8 xs.length).toNat = xs.length := by
    rw [BitVec.toNat_ofNat, Nat.mod_eq_of_lt hn]
  show (if unit * (BitVec.ofNat 8 xs.length).toNat ≤ (xs.flatMap enc ++ rest).length then
    some ((xs.flatMap enc ++ rest).drop (unit * (BitVec.ofNat 8 xs.length).toNat)) else none) = some rest
  rw [hcount, ← hlength, if_pos (by simp), List.drop_left]

theorem drop_counted (enc : α → List Byte) (xs : List α) (rest : List Byte) :
    (countedBytes enc xs ++ rest).drop 1 = xs.flatMap enc ++ rest := rfl

theorem countOf_counted (hn : xs.length < 256) (rest : List Byte) :
    countOf (countedBytes enc xs ++ rest) = xs.length := by
  show beNat (beBytes 1 xs.length) = xs.length
  exact beNat_beBytes_of_lt hn

end

theorem readPoints_bytes (table : List TariffPoint) (h : ∀ p ∈ table, p.minute < 65536 ∧ p.bucket < 256)
    (rest : List Byte) : readPoints table.length (table.flatMap TariffPoint.bytes ++ rest) = table := by
  induction table with
  | nil => rfl
  | cons p table ih =>
    obtain ⟨hp, htable⟩ := List.forall_mem_cons.mp h
    obtain ⟨hminute, hbucket⟩ := hp
    show (⟨beNat (beBytes 2 p.minute), (BitVec.ofNat 8 p.bucket).toNat⟩ : TariffPoint)
      :: readPoints table.length (table.flatMap TariffPoint.bytes ++ rest) = p :: table
    rw [ih htable, beNat_beBytes_of_lt hminute, BitVec.toNat_ofNat, Nat.mod_eq_of_lt hbucket]

theorem readDates_bytes (days : List Date) (h : ∀ d ∈ days, d.year < 65536 ∧ d.month < 256 ∧ d.day < 256)
    (rest : List Byte) : readDates days.length (days.flatMap Date.bytes ++ rest) = days := by
  induction days with
  | nil => rfl
  | cons d days ih =>
    obtain ⟨hd, hdays⟩ := List.forall_mem_cons.mp h
    obtain ⟨hyear, hmonth, hday⟩ := hd
    show (⟨beNat (beBytes 2 d.year), (BitVec.ofNat 8 d.month).toNat, (BitVec.ofNat 8 d.day).toNat⟩ : Date)
      :: readDates days.length (days.flatMap Date.bytes ++ rest) = d :: days
    rw [ih hdays, beNat_beBytes_of_lt hyear, BitVec.toNat_ofNat, BitVec.toNat_ofNat, Nat.mod_eq_of_lt hmonth,
      Nat.mod_eq_of_lt hday]

/-- A tariff set as SET_TARIFF carries it (11.1). -/
def Tariff.payload (w : Tariff) : List Byte :=
  countedBytes TariffPoint.bytes w.weekday ++ (countedBytes TariffPoint.bytes w.weekend
    ++ (countedBytes TariffPoint.bytes w.holiday ++ (countedBytes Date.bytes w.holidays ++ [])))

/-- Each count and field of the set fits the bytes that carry it. -/
structure Tariff.Fits (w : Tariff) : Prop where
  tables : ∀ table ∈ [w.weekday, w.weekend, w.holiday],
    table.length < 256 ∧ ∀ p ∈ table, p.minute < 65536 ∧ p.bucket < 256
  count : w.holidays.length < 256
  holidays : ∀ d ∈ w.holidays, d.year < 65536 ∧ d.month < 256 ∧ d.day < 256

/-- The set read from a payload is the one that it carries. -/
theorem readTariff_payload {w : Tariff} (h : w.Fits) : readTariff w.payload = w := by
  obtain ⟨⟨hdayCount, hday⟩, ⟨hendCount, hend⟩, ⟨hholCount, hhol⟩, -⟩ := by
    simpa only [List.forall_mem_cons] using h.tables
  have hafter : ∀ (table : List TariffPoint) rest, table.length < 256 →
      afterCounted 3 (countedBytes TariffPoint.bytes table ++ rest) = some rest :=
    fun _ rest hn => afterCounted_counted (unit := 3) (fun _ => rfl) hn rest
  have hlast : countedOk 4 (countedBytes Date.bytes w.holidays ++ []) = true := by
    rw [countedOk, afterCounted_counted (unit := 4) (fun _ => rfl) h.count]
    rfl
  unfold readTariff tariffParts Tariff.payload
  simp only [hafter _ _ hdayCount, hafter _ _ hendCount, hafter _ _ hholCount, hlast, if_true,
    countOf_counted hdayCount, countOf_counted hendCount, countOf_counted hholCount, countOf_counted h.count,
    drop_counted, readPoints_bytes _ hday, readPoints_bytes _ hend, readPoints_bytes _ hhol,
    readDates_bytes _ h.holidays]

/-! ### The two requests -/

theorem setTariff_of_right {w : Tariff} (h : w.Fits) (hw : w.ok = true) (s : State) : s.setTariff w.payload
    = (⟨.ok, []⟩, s.setEnergy { s.energy with tariffPending := some w }) := by
  unfold State.setTariff
  rw [readTariff_payload h, if_pos hw]
  rfl

theorem setTariff_of_wrong {w : Tariff} (h : w.Fits) (hw : ¬ w.ok = true) (s : State) :
    s.setTariff w.payload = (⟨.badValue, []⟩, s) := by
  unfold State.setTariff
  rw [readTariff_payload h, if_neg hw]
  rfl

end Sys2Proof.Machine

/-- Settles O52: each request's rule reads what its payload carries, and the unit it leaves is given by its equation. -/
theorem timeTariffAndPeriodAreSet : Obligations.TimeTariffAndPeriodAreSet := by
  unfold Obligations.TimeTariffAndPeriodAreSet
  intro f rest s e i reply points dates
  refine ⟨fun h x hp hyear hmonth hday hhour hminute hsecond htenth => ?_, fun h w hp => ?_, fun h => ?_⟩
  · intro days right
    have hright : x.Right ↔ right := by
      simp only [Time.Right, dateOk_iff, monthLength_eq, and_assoc]
      rfl
    have hfits : x.Fits := ⟨hyear, hmonth, hday, hhour, hminute, hsecond, htenth⟩
    have hrule : s.taken.setTime f.payload
        = if right then (⟨.ok, timeBytes x⟩, s.taken.timeSet x) else (⟨.badValue, []⟩, s.taken) := by
      rw [show f.payload = x.payload from hp, setTime_eq, timeOf_payload hfits]
      simp only [hright]
    refine ⟨fun hr => ?_, fun hr => ⟨s.taken.timeSet x, ?_, ?_, ?_⟩⟩
    · exact exec_answers_engineer (k := .setTime) rfl rfl h (hrule.trans (if_neg hr))
    · exact exec_answers_engineer (k := .setTime) rfl rfl h (hrule.trans (if_pos hr))
    · exact Touches.trans ((touches_taken (by decide)).mpr (Touches.refl _ s))
        ((touches_timeSet s.taken x).mono (by decide))
    · intro length first long demand log
      obtain ⟨hlimit, hclock⟩ := timeSet_tells s.taken x
      rw [timeSet_energy, intervalCut_eq]
      exact ⟨rfl, rfl, bucket_spec _, rfl, rfl, rfl, rfl, rfl, rfl, rfl, rfl, rfl, rfl, hlimit, hclock⟩
  · intro tables hfit hcount hdates before right
    have hfits : w.Fits := ⟨hfit, hcount, hdates⟩
    have hpayload : f.payload = w.payload := by
      rw [hp, Tariff.payload, List.append_nil, List.append_assoc, List.append_assoc]
      rfl
    have hright : w.ok = true ↔ right := by
      rw [Tariff.ok_iff]
      rfl
    refine ⟨fun hr => ?_, fun hr => ?_⟩
    · refine exec_answers_engineer (k := .setTariff) rfl rfl h ?_
      rw [hpayload]
      exact setTariff_of_right hfits (hright.mpr hr) _
    · refine exec_answers_engineer (k := .setTariff) rfl rfl h ?_
      rw [hpayload]
      exact setTariff_of_wrong hfits (fun hw => hr (hright.mp hw)) _
  · intro kwh close record history flags
    exact exec_answers_engineer (k := .closePeriod) rfl rfl h rfl
end
